-- ==== Sys2Proof/Word.lean ====
section
/-! DEFINITION. The words of the Plethan PG-24: the 16-bit word its links and its layout memory carry (R2, R187),
the 32-bit reading of its cell clock (R177), and the plainest arithmetic on them. -/

namespace Sys2Proof

/-- The 16-bit word of a station link and of the layout memory (R2, R185). -/
abbrev Word := BitVec 16

/-- A reading of the cell clock, in milliseconds (R177). -/
abbrev Time := BitVec 32

/-- A 32-bit statistics counter's value (section 3.6 of 00_scope.md, R121). -/
abbrev Count := BitVec 32

/-- |a − b| on whole numbers (section 3.2 of 00_scope.md). -/
def distance (a b : Nat) : Nat := (a - b) + (b - a)

/-- ⌈a / b⌉ on whole numbers (section 3.2 of 00_scope.md). -/
def ceilDiv (a b : Nat) : Nat := (a + b - 1) / b

/-- The low 16 bits of a whole number, as one word. -/
def lowWord (n : Nat) : Word := BitVec.ofNat 16 n

/-- The bits of a whole number above its low 16, as one word. -/
def highWord (n : Nat) : Word := BitVec.ofNat 16 (n / 65536)

end Sys2Proof
end

