-- ==== Sys2Proof/Config.lean ====
section
/-! DEFINITION. The free values: what the manual leaves open, as constants without a body, so that nothing in Lean
can prove a value of them.  Each is applied to the model's own counter `State.freeNext`, which a step that uses one
advances, so that two uses need not agree (log entries 1 and 2). -/

namespace Sys2Proof

/-- The detail word of a REFUSED reply where the refusing rule names a code and no detail word
(R18 and R126 for a number out of range, R126, R134, R135 and R136 for an absent saw): log entry 1. -/
opaque Config.freeDetail : Nat → Word

/-- Which of several consequences of one event is taken first, where the manual says "in either order" or says
nothing (R80, R148, R154; section 5.8.2): log entry 2. -/
opaque Config.freeOrder : Nat → Nat

end Sys2Proof
end

