-- ==== Sys2Proof/Syntax.lean ====
section
/-! DEFINITION. The commands of the PG-24: one constructor for each row of spec/opcode_table.json, with its operands.
A message row carries the port the frame stands on and the frame's payload words (R187, R189); the rows that are one
command of CELL_COMMAND (TABLE 9.3) have the fixed payload of one word, so they carry the port alone. -/

namespace Sys2Proof

/-- The two gantries (TABLE 0.1). -/
inductive Gantry where
  | west
  | east
  deriving DecidableEq, Repr

/-- The four beam saws (TABLE 0.1). -/
inductive Saw where
  | saw1
  | saw2
  | saw3
  | saw4
  deriving DecidableEq, Repr

/-- The seven station ports by the role of their master (TABLE 0.1). -/
inductive Port where
  | planner
  | saw (s : Saw)
  | gantry (g : Gantry)
  deriving DecidableEq, Repr

/-- The two timers of a saw (R145). -/
inductive SawTimer where
  | starved
  | held
  deriving DecidableEq, Repr

/-- One command or event of the PG-24: one constructor for each row of the opcode table. -/
inductive Instr where
  /-- POWER_ON (R179).  `wordsWritten` is how many words of a layout memory write in progress had been written when
  power was lost (R183); it is read only while the loader is WRITING. -/
  | powerOn (wordsWritten : Nat)
  /-- LAYOUT_READ_END (R179).  `answers` says whether the memory answers on its interface. -/
  | layoutReadEnd (answers : Bool)
  /-- LAYOUT_WRITE_END (R183).  `left` is what the write has left in words 0 to 96 of the memory; `answers` says whether
  the memory answers the read-back. -/
  | layoutWriteEnd (answers : Bool) (left : List Word)
  /-- FRAME_RECEIVED (R187): the words that complete a candidate frame, the last of them end-marked. -/
  | frameReceived (port : Port) (words : List Word)
  /-- RECEIVE_BUFFER_FULL (R187): the words, none end-marked, that fill the alignment buffer. -/
  | receiveBufferFull (port : Port) (words : List Word)
  /-- FLOW_STOP (R186): the end-marked word 0x0F0F. -/
  | flowStop (port : Port)
  /-- FLOW_GO (R186): the end-marked word 0x0F00. -/
  | flowGo (port : Port)
  /-- CARRIER_LOSS (R194). -/
  | carrierLoss (port : Port)
  /-- CARRIER_RETURN (R194). -/
  | carrierReturn (port : Port)
  /-- FRAME_SENT (R191). -/
  | frameSent (port : Port)
  /-- UNKNOWN_MESSAGE (R189): a frame whose code is not an inbound code. -/
  | unknownMessage (port : Port) (code : BitVec 8) (payload : List Word)
  | layoutSet (port : Port) (payload : List Word)
  | layoutQuery (port : Port) (payload : List Word)
  | kindSet (port : Port) (payload : List Word)
  | kindQuery (port : Port) (payload : List Word)
  | areaSet (port : Port) (payload : List Word)
  | areaQuery (port : Port) (payload : List Word)
  | stackRegister (port : Port) (payload : List Word)
  | stackWithdraw (port : Port) (payload : List Word)
  | slotRelease (port : Port) (payload : List Word)
  | slotQuery (port : Port) (payload : List Word)
  | sawSet (port : Port) (payload : List Word)
  | sawQuery (port : Port) (payload : List Word)
  | gantryPark (port : Port) (payload : List Word)
  | gantryRestore (port : Port) (payload : List Word)
  /-- OPEN: the cell command of number 0 (TABLE 9.3, TABLE 10.12). -/
  | openCell (port : Port)
  /-- HALT: the cell command of number 1. -/
  | haltCell (port : Port)
  /-- RESUME: the cell command of number 2. -/
  | resumeCell (port : Port)
  /-- CLOSE: the cell command of number 3. -/
  | closeCell (port : Port)
  /-- LATCH_COUNTS: the cell command of number 4. -/
  | latchCounts (port : Port)
  /-- CLEAR_COUNTS: the cell command of number 5. -/
  | clearCounts (port : Port)
  /-- LOCATOR_FLUSH: the cell command of number 6. -/
  | locatorFlush (port : Port)
  /-- PIN_ON: the cell command of number 7. -/
  | pinOn (port : Port)
  /-- PIN_OFF: the cell command of number 8. -/
  | pinOff (port : Port)
  /-- CELL_RESET: the cell command of number 9. -/
  | cellReset (port : Port)
  | countsQuery (port : Port) (payload : List Word)
  | bookRequest (port : Port) (payload : List Word)
  | bookAbort (port : Port) (payload : List Word)
  | bookTaken (port : Port) (payload : List Word)
  | tableState (port : Port) (payload : List Word)
  | remnantOffer (port : Port) (payload : List Word)
  | gantryReady (port : Port) (payload : List Word)
  | stepDone (port : Port) (payload : List Word)
  | gantryFault (port : Port) (payload : List Word)
  | statusQuery (port : Port) (payload : List Word)
  | statusPeek (port : Port) (payload : List Word)
  /-- OVERRUN (R108). -/
  | overrun (gantry : Gantry)
  /-- DWELL_END (R101). -/
  | dwellEnd (gantry : Gantry)
  /-- HOVER_TIMEOUT (R119). -/
  | hoverTimeout (gantry : Gantry)
  /-- PACING_END (R133). -/
  | pacingEnd (saw : Saw)
  /-- PACING_RULE_UNSATISFIED (R133). -/
  | pacingRuleUnsatisfied (saw : Saw)
  /-- SAW_TIMER_STEP (R145). -/
  | sawTimerStep (saw : Saw) (timer : SawTimer)
  /-- CELL_CLOCK_TICK (R177). -/
  | cellClockTick
  /-- NEXT_END_MARKED_WORD (R187): the end-marked word that arrives while words are being discarded. -/
  | nextEndMarkedWord (port : Port) (word : Word)
  /-- CELL_COMMAND (R173): a frame of that code that names none of the ten commands. -/
  | cellCommand (port : Port) (payload : List Word)
  deriving DecidableEq, Repr

end Sys2Proof
end

