-- ==== Sys2Proof/Machine/State.lean ====
section
/-! DEFINITION. The state of the PG-24 as plain data: every piece of state the manual gives its eleven blocks
(TABLE 0.2), the frames and reports its queues hold, and the state right after power-on (`State.reset`).
A quantity that the manual derives from others (slot X, a stack's height, a hold set, a link state) is computed where it
is read (R14, R15, R44, R131) and has no field. -/

namespace Sys2Proof.Machine

/-! ## Things there are two, four or seven of -/

/-- One thing for each gantry. -/
structure PerGantry (α : Type) where
  west : α
  east : α
  deriving DecidableEq, Repr

/-- One thing for each saw. -/
structure PerSaw (α : Type) where
  saw1 : α
  saw2 : α
  saw3 : α
  saw4 : α
  deriving DecidableEq, Repr

/-- One thing for each station port. -/
structure PerPort (α : Type) where
  planner : α
  saws : PerSaw α
  gantries : PerGantry α
  deriving DecidableEq, Repr

/-- The gantry's own part. -/
def PerGantry.get {α : Type} (x : PerGantry α) : Gantry → α
  | .west => x.west
  | .east => x.east

/-- The same with the gantry's part replaced. -/
def PerGantry.set {α : Type} (x : PerGantry α) (g : Gantry) (a : α) : PerGantry α :=
  match g with
  | .west => { x with west := a }
  | .east => { x with east := a }

/-- The saw's own part. -/
def PerSaw.get {α : Type} (x : PerSaw α) : Saw → α
  | .saw1 => x.saw1
  | .saw2 => x.saw2
  | .saw3 => x.saw3
  | .saw4 => x.saw4

/-- The same with the saw's part replaced. -/
def PerSaw.set {α : Type} (x : PerSaw α) (w : Saw) (a : α) : PerSaw α :=
  match w with
  | .saw1 => { x with saw1 := a }
  | .saw2 => { x with saw2 := a }
  | .saw3 => { x with saw3 := a }
  | .saw4 => { x with saw4 := a }

/-- The port's own part. -/
def PerPort.get {α : Type} (x : PerPort α) : Port → α
  | .planner => x.planner
  | .saw w => x.saws.get w
  | .gantry g => x.gantries.get g

/-- The same with the port's part replaced. -/
def PerPort.set {α : Type} (x : PerPort α) (p : Port) (a : α) : PerPort α :=
  match p with
  | .planner => { x with planner := a }
  | .saw w => { x with saws := x.saws.set w a }
  | .gantry g => { x with gantries := x.gantries.set g a }

/-- The same thing for every gantry. -/
def PerGantry.all {α : Type} (a : α) : PerGantry α := ⟨a, a⟩

/-- The same thing for every saw. -/
def PerSaw.all {α : Type} (a : α) : PerSaw α := ⟨a, a, a, a⟩

/-- The same thing for every port. -/
def PerPort.all {α : Type} (a : α) : PerPort α := ⟨a, PerSaw.all a, PerGantry.all a⟩

/-- The second of the two gantries (section 3.4 of 00_scope.md). -/
def otherGantry : Gantry → Gantry
  | .west => .east
  | .east => .west

/-! ## The layout record (chapter 1) -/

/-- The seven layout fields of one gantry (TABLE 1.2, words 2 to 8 and 9 to 15). -/
structure GantryGeometry where
  half : Nat
  limLo : Nat
  limHi : Nat
  vmax : Nat
  accel : Nat
  pickTime : Nat
  placeTime : Nat
  deriving DecidableEq, Repr

/-- The four layout fields of one saw (TABLE 1.2, words 28 to 43). -/
structure SawPlace where
  present : Nat
  infeedX : Nat
  outfeedX : Nat
  tableY : Nat
  deriving DecidableEq, Repr

/-- The layout record (TABLE 1.2). -/
structure Layout where
  runwayLength : Nat
  margin : Nat
  gantries : PerGantry GantryGeometry
  lanes : Nat
  bays : Nat
  bayPitch : Nat
  originX : Nat
  laneY0 : Nat
  lanePitch : Nat
  maxStackHeight : Nat
  dwellReverse : Nat
  dwellHead : Nat
  overrunSlack : Nat
  hoverLimit : Nat
  saws : PerSaw SawPlace
  deriving DecidableEq, Repr

/-! ## Panels, kinds and slots (chapter 2) -/

/-- A panel's origin (TABLE 2.2). -/
inductive Origin where
  | raw
  | remnant
  deriving DecidableEq, Repr

/-- A LIVE panel record (TABLE 2.2), with the number 0 to 4095 of the pool record it is (R19, R20). -/
structure Panel where
  record : Nat
  serial : Nat
  kind : Nat
  origin : Origin
  length : Nat
  width : Nat
  deriving DecidableEq, Repr

/-- A defined entry of the kind table (TABLE 2.1). -/
structure Kind where
  material : Nat
  thickness : Nat
  length : Nat
  width : Nat
  deriving DecidableEq, Repr

/-- What a claim reserves a slot for (R23). -/
inductive Purpose where
  | pick
  | put
  deriving DecidableEq, Repr

/-- A claim on a slot (R23). -/
structure Claim where
  gantry : Gantry
  purpose : Purpose
  deriving DecidableEq, Repr

/-- A slot record (R23).  The stack runs from bottom to top.  Its height is computed from the kind table (R15). -/
structure Slot where
  stack : List Panel
  suspect : Bool
  claim : Option Claim
  deriving DecidableEq, Repr

/-- The pool's free list (R20): records `fresh` to 4095 in rising order, which no panel has used since power-on, and
behind them the records that have been returned to the tail, in the order they were returned.  A record is taken from
the head, so the records never used come first. -/
structure FreeList where
  fresh : Nat
  returned : List Nat
  deriving DecidableEq, Repr

/-- An area window (TABLE 3.1), its base the effective base of R39. -/
structure Window where
  enabled : Bool
  base : Nat
  k : Nat
  pickOnly : Bool
  remnant : Bool
  deriving DecidableEq, Repr

/-- A way of the Kind Locator (R58).  An INVALID way holds nothing. -/
inductive Way where
  | invalid
  | ranked (rank tag slot : Nat)
  | pinned (tag slot : Nat)
  deriving DecidableEq, Repr

/-! ## Counters, times and spans -/

/-- A statistics counter with its live and its latched value (section 3.6 of 00_scope.md). -/
structure Counter where
  live : Count
  latched : Count
  deriving DecidableEq, Repr

/-- A saw timer (R145). -/
structure Timer where
  live : Count
  latched : Count
  residue : Nat
  deriving DecidableEq, Repr

/-- A stretch of runway (R73). -/
structure Span where
  lo : Nat
  hi : Nat
  deriving DecidableEq, Repr

/-- A moment scheduled ahead (R177): the reading it was scheduled from and the duration scheduled. -/
structure Moment where
  since : Time
  duration : Nat
  deriving DecidableEq, Repr

/-! ## Gantries (chapters 5, 6 and 8) -/

/-- Gantry states (TABLE 6.1). -/
inductive GantryState where
  | offline
  | idle
  | dwell
  | waitGrant
  | stepping
  | hoverHold
  | stranded
  | faulted
  | parked
  deriving DecidableEq, Repr

/-- Travel directions (R93). -/
inductive Direction where
  | east
  | west
  deriving DecidableEq, Repr

/-- Step kinds (TABLE 10.7). -/
inductive StepKind where
  | travelPick
  | travelHover
  | place
  | travelPut
  | travelOnly
  deriving DecidableEq, Repr

/-- Step outcomes (TABLE 10.8). -/
inductive StepOutcome where
  | ok
  | pickMiss
  | placeFail
  | putFail
  deriving DecidableEq, Repr

/-- Verdicts a waiting request holds (R96).  BLOCKED withdraws the request, so no request holds it. -/
inductive Verdict where
  | yielding
  | crossing
  | waiting
  deriving DecidableEq, Repr

/-- A waiting request: its requested span and its verdict (R79, R80). -/
structure Request where
  span : Span
  verdict : Verdict
  deriving DecidableEq, Repr

/-- What an issued step holds (TABLE 6.2): the token, the granted span, the issue time and the limit.  The deadline is
the issue time plus the limit. -/
structure Issued where
  token : BitVec 8
  span : Span
  time : Time
  limit : Nat
  deriving DecidableEq, Repr

/-- A step of a gantry (TABLE 6.2): its kind, its target X, and the slot or the saw it concerns.  `request` is present in
WAIT_GRANT alone, `issued` in STEPPING alone. -/
structure Step where
  kind : StepKind
  target : Nat
  slot : Option Nat
  saw : Option Saw
  request : Option Request
  issued : Option Issued
  deriving DecidableEq, Repr

/-- Task kinds (TABLE 6.2). -/
inductive TaskKind where
  | book (saw : Saw) (tag : Word)
  | remnantReturn (saw : Saw)
  | panelReturn
  deriving DecidableEq, Repr

/-- Lift phases (TABLE 8.1). -/
inductive Phase where
  | sourceWait
  | picking
  | hovering
  | holding
  | placing
  | putting
  | stranded
  | outfeedPick
  deriving DecidableEq, Repr

/-- A task with its lift record (TABLE 8.1).  `blank` is the pool record of a remnant return while it is BLANK. -/
structure Task where
  kind : TaskKind
  start : Time
  phase : Phase
  source : Option Nat
  destination : Option Nat
  putFailures : Nat
  blank : Option Nat
  deriving DecidableEq, Repr

/-- The state a gantry that yields without a step of its own set aside returns to (R82). -/
inductive FormerState where
  | idle
  | stranded
  deriving DecidableEq, Repr

/-- Fault causes (R111). -/
inductive FaultCause where
  | overrun
  | spanViolation
  | driveFault
  | linkLost
  | cellReset
  deriving DecidableEq, Repr

/-- The outstanding step as a fault record holds it (R111). -/
structure FaultStep where
  kind : StepKind
  token : BitVec 8
  time : Time
  slot : Option Nat
  deriving DecidableEq, Repr

/-- The second cause of a fault record: LINK_LOST or CELL_RESET, with its time (R111). -/
structure SecondCause where
  cause : FaultCause
  time : Time
  deriving DecidableEq, Repr

/-- A fault record (R111). -/
structure FaultRecord where
  cause : FaultCause
  subCode : BitVec 8
  time : Time
  state : GantryState
  step : Option FaultStep
  panel : Option Panel
  task : Option TaskKind
  span : Option Span
  second : Option SecondCause
  deriving DecidableEq, Repr

/-- A hover hold (R119): the saw, and the end time as the entry time and hover_limit at entry. -/
structure HoverHold where
  saw : Saw
  ends : Moment
  deriving DecidableEq, Repr

/-- A gantry record (TABLE 6.2), with the reservation and frozen flag that the Runway Reservation Unit holds for the
gantry (R73).  The link state is the carrier of the gantry's port. -/
structure GantryRecord where
  state : GantryState
  position : Option Nat
  reservation : Option Span
  frozen : Bool
  carried : Option Panel
  task : Option Task
  current : Option Step
  setAside : Option Step
  former : Option FormerState
  lastDirection : Option Direction
  lastMaterial : Option Nat
  lastCompletion : Option Time
  dwellEnd : Option Moment
  hold : Option HoverHold
  lastOutcome : Option StepOutcome
  nextToken : BitVec 8
  fault : Option FaultRecord
  stepsCompleted : Counter
  yieldsMade : Counter
  overruns : Counter
  driveFaults : Counter
  deriving DecidableEq, Repr

/-! ## Saws (chapter 7) -/

/-- Saw settings (TABLE 7.2). -/
structure Settings where
  enabled : Bool
  backlogLimit : Nat
  w1 : Nat
  w2 : Nat
  w3 : Nat
  remnantAllowed : Bool
  maxBookHeight : Nat
  deriving DecidableEq, Repr

/-- An entry of a book (TABLE 7.4): a kind code, and the required length and width when the entry carries them. -/
structure BookEntry where
  kind : Nat
  required : Option (Nat × Nat)
  deriving DecidableEq, Repr

/-- Book states (TABLE 7.4). -/
inductive BookState where
  | queued
  | assembling
  | released
  deriving DecidableEq, Repr

/-- Book fault codes (TABLE 7.8). -/
inductive BookFault where
  | pickMiss
  | noSource
  | hoverTimeout
  | placeFail
  | gantryFault
  | runwayBlocked
  | sawAbort
  deriving DecidableEq, Repr

/-- A book record (TABLE 7.4).  The placed count is the number of placed serials.  The end cause is set as an aborted record
is reported, after which the record leaves the list (R137). -/
structure Book where
  tag : Word
  entries : List BookEntry
  state : BookState
  gantry : Option Gantry
  lift : Nat
  replan : Bool
  placed : List Nat
  firstFault : Option (BookFault × Nat)
  abortRequested : Bool
  endCause : Option BookFault
  startTime : Option Time
  releaseTime : Option Time
  deriving DecidableEq, Repr

/-- Offer states (R139). -/
inductive OfferState where
  | waiting
  | inProgress (gantry : Gantry)
  deriving DecidableEq, Repr

/-- An offer record (R139). -/
structure Offer where
  kind : Nat
  length : Nat
  width : Nat
  accepted : Time
  state : OfferState
  deriving DecidableEq, Repr

/-- Table states (TABLE 7.1). -/
inductive TableState where
  | clear
  | busy
  | unknown
  deriving DecidableEq, Repr

/-- Outcomes of a BOOK_REPORT (R138). -/
inductive BookOutcome where
  | complete
  | aborted
  deriving DecidableEq, Repr

/-- Outcomes of an OFFER_REPORT (R141). -/
inductive OfferOutcome where
  | stored
  | discarded
  deriving DecidableEq, Repr

/-- Hold sources (TABLE 7.7). -/
inductive HoldSource where
  | disabled
  | halt
  | backlog
  | pacing
  | linkDown
  | noGantry
  deriving DecidableEq, Repr

/-- A saw record (TABLE 7.1).  The link state is the carrier of the saw's port; the change flags stand in the port. -/
structure SawRecord where
  settings : Settings
  books : List Book
  offers : List Offer
  pacing : List Time
  pacingEnd : Option Moment
  table : TableState
  lastBookReport : Option (Word × BookOutcome)
  lastOfferReport : Option OfferOutcome
  started : Counter
  released : Counter
  aborted : Counter
  taken : Counter
  panelsPlaced : Counter
  extraAcks : Counter
  starved : Timer
  held : Timer
  deriving DecidableEq, Repr

/-! ## Cell Control (chapter 9) -/

/-- Cell states (TABLE 9.1). -/
inductive CellState where
  | noLayout
  | closed
  | opened
  | halted
  deriving DecidableEq, Repr

/-- Loader states (R179). -/
inductive Loader where
  | idle
  | reading
  | writing
  deriving DecidableEq, Repr

/-! ## Messages (chapter 10) -/

/-- A good frame: its message code and its payload words (R187). -/
structure Frame where
  code : BitVec 8
  payload : List Word
  deriving DecidableEq, Repr

/-- Refusal codes (TABLE 10.2). -/
inductive RefusalCode where
  | unknownMessage
  | wrongPort
  | badLength
  | badField
  | cellState
  | cellBusy
  | layoutInvalid
  | storeNotEmpty
  | badSlot
  | slotClaimed
  | slotSuspect
  | stackFull
  | poolFull
  | storeFull
  | unknownKind
  | kindInUse
  | queueFull
  | duplicateTag
  | unknownTag
  | tagMismatch
  | bookTooHigh
  | bookReleased
  | offerFull
  | sawAbsent
  | sawBusy
  | staleStep
  | gantryState
  | spanConflict
  | outOfReach
  deriving DecidableEq, Repr

/-- A slot named in both forms (R12). -/
structure SlotName where
  number : Nat
  lane : Nat
  bay : Nat
  deriving DecidableEq, Repr

/-- Markers of a STEP_ORDER (TABLE 6.4). -/
inductive Marker where
  | none
  | slot
  | outfeed
  | table
  deriving DecidableEq, Repr

/-- A STEP_ORDER (TABLE 6.4, TABLE 10.7). -/
structure StepOrder where
  kind : StepKind
  token : BitVec 8
  marker : Marker
  targetX : Nat
  targetY : Nat
  slot : Option SlotName
  height : Nat
  thickness : Nat
  serial : Nat
  deriving DecidableEq, Repr

/-- A BOOK_REPORT (R138).  The placed count is the number of placed serials. -/
structure BookReport where
  tag : Word
  outcome : BookOutcome
  placed : List Nat
  firstFault : Option (BookFault × Nat)
  endCause : Option BookFault
  deriving DecidableEq, Repr

/-- An OFFER_REPORT (R141).  `slot` is present for STORED and `cause` for DISCARDED. -/
structure OfferReport where
  kind : Nat
  length : Nat
  width : Nat
  outcome : OfferOutcome
  cause : Option BookFault
  serial : Nat
  slot : Option SlotName
  deriving DecidableEq, Repr

/-- A pushed message (R191). -/
inductive Pushed where
  | stepOrder (o : StepOrder)
  | bookReport (r : BookReport)
  | offerReport (r : OfferReport)
  deriving DecidableEq, Repr

/-- The further data of the ACCEPTED that answers a GANTRY_RESTORE (R116). -/
structure RestoreData where
  serial : Nat
  slot : Option SlotName
  count : Nat
  height : Nat
  deriving DecidableEq, Repr

/-- A window as AREA_REPLY gives it (TABLE 3.4). -/
structure WindowView where
  index : Nat
  enabled : Bool
  base : Nat
  grid : Option SlotName
  k : Nat
  pickOnly : Bool
  remnant : Bool
  slotCount : Nat
  deriving DecidableEq, Repr

/-- A panel as a reply gives it: serial, kind, origin, length and width, without the number of its pool record (TABLE 2.4). -/
structure PanelView where
  serial : Nat
  kind : Nat
  origin : Origin
  length : Nat
  width : Nat
  deriving DecidableEq, Repr

/-- A slot as SLOT_REPLY gives it (TABLE 2.4).  An area is a window index with that window's remnant flag. -/
structure SlotView where
  slot : SlotName
  count : Nat
  height : Nat
  suspect : Bool
  claim : Option Claim
  pickArea : Option (Nat × Bool)
  putArea : Option (Nat × Bool)
  first : Nat
  panels : List PanelView
  deriving DecidableEq, Repr

/-- A saw as SAW_STATE_REPLY gives it (R126). -/
structure SawStateView where
  saw : Saw
  settings : Settings
  table : TableState
  linkUp : Bool
  holds : List HoldSource
  pacingEnd : Option Time
  pacing : List Time
  books : List Book
  offers : List Offer
  started : Count
  released : Count
  aborted : Count
  taken : Count
  panelsPlaced : Count
  extraAcks : Count
  starved : Count
  held : Count
  deriving DecidableEq, Repr

/-- Change flags of the port status records (TABLE 10.3). -/
inductive ChangeFlag where
  | layoutBlank
  | layoutCorrupt
  | layoutInvalid
  | layoutWritten
  | layoutWriteFail
  | suspectMarked
  | gantryFaulted
  | gantryStranded
  | resetSeen
  | settingsChanged
  | serviceChanged
  | crcErr
  | inboundOverflow
  deriving DecidableEq, Repr

/-- The outstanding step of a fault record as a reply gives it, its slot in both forms (R111, R12). -/
structure FaultStepView where
  kind : StepKind
  token : BitVec 8
  time : Time
  slot : Option SlotName
  deriving DecidableEq, Repr

/-- A fault record as a reply gives it, its panel as SLOT_REPLY gives one (R111, R12, TABLE 2.4). -/
structure FaultView where
  cause : FaultCause
  subCode : BitVec 8
  time : Time
  state : GantryState
  step : Option FaultStepView
  panel : Option PanelView
  task : Option TaskKind
  span : Option Span
  second : Option SecondCause
  deriving DecidableEq, Repr

/-- One gantry in the planner's live view (R96, R120, R147). -/
structure GantryPlannerView where
  state : GantryState
  position : Option Nat
  linkUp : Bool
  reservation : Option Span
  frozen : Bool
  request : Option Request
  carried : Option Nat
  task : Option (TaskKind × Phase)
  outstanding : Option (StepKind × BitVec 8)
  dwellEnd : Option Time
  holdEnd : Option Time
  lastOutcome : Option StepOutcome
  fault : Option FaultView
  deriving DecidableEq, Repr

/-- The live view of the planner's port (R180, R120, R27, TABLE 10.3). -/
structure PlannerView where
  cell : CellState
  clock : Time
  loader : Loader
  pinMode : Bool
  layoutActive : Bool
  invalidCheck : Option Nat
  gantries : PerGantry GantryPlannerView
  suspectCount : Nat
  lastMarked : Option SlotName
  freeCount : Nat
  carriers : PerPort Bool
  deriving DecidableEq, Repr

/-- The live view of a saw's port (R146). -/
structure SawView where
  settings : Settings
  table : TableState
  linkUp : Bool
  holds : List HoldSource
  pacingEnd : Option Time
  books : List (Word × BookState)
  assembling : Option (Nat × Bool)
  offers : List (Nat × OfferState)
  lastBookReport : Option (Word × BookOutcome)
  lastOfferReport : Option OfferOutcome
  deriving DecidableEq, Repr

/-- The live view of a gantry's port (R122). -/
structure GantryView where
  state : GantryState
  position : Option Nat
  reservation : Option Span
  token : Option (BitVec 8)
  fault : Option (FaultCause × BitVec 8)
  deriving DecidableEq, Repr

/-- The live view of a port's role (TABLE 10.3). -/
inductive RoleView where
  | planner (v : PlannerView)
  | saw (v : SawView)
  | gantry (v : GantryView)
  deriving DecidableEq, Repr

/-- A port's status record as STATUS_REPLY carries it (R193, TABLE 10.3, R171). -/
structure StatusView where
  role : RoleView
  cell : CellState
  flags : List ChangeFlag
  carrierUp : Bool
  flowGo : Bool
  framingCount : BitVec 8
  crcCount : BitVec 8
  inboundFill : Nat
  outboundFill : Nat
  pendingFill : Nat
  deriving DecidableEq, Repr

/-- Replies (R190, TABLE 10.1). -/
inductive Reply where
  /-- The accepted message's code, the note word, and the data of a GANTRY_RESTORE. -/
  | accepted (code : BitVec 8) (note : Word) (restore : Option RestoreData)
  /-- The refused message's code, the refusal code and the detail word. -/
  | refused (code : BitVec 8) (refusal : RefusalCode) (detail : Word)
  /-- The cell state, the loader state and the 44 words of the active record, absent in NO_LAYOUT (R180). -/
  | layoutReply (cell : CellState) (loader : Loader) (record : Option (List Word))
  /-- A kind's entry, absent when undefined, and whether the kind is in use (R18). -/
  | kindReply (entry : Option Kind) (inUse : Bool)
  | areaReply (windows : List WindowView)
  /-- The slot, the serials assigned, the new count and height, the free count (R30). -/
  | registerReply (slot : SlotName) (serials : List Nat) (count height freeCount : Nat)
  /-- The serials removed, top first; the number removed is their number (R31). -/
  | withdrawReply (serials : List Nat)
  | slotReply (view : SlotView)
  /-- The saw and the seven effective values (R125). -/
  | sawReply (saw : Saw) (settings : Settings)
  | sawStateReply (view : SawStateView)
  /-- The latched values in the order of R176. -/
  | countsReply (values : List Count)
  | statusReply (view : StatusView)
  deriving DecidableEq, Repr

/-- What a frame of an outbound queue carries. -/
inductive OutMessage where
  | reply (r : Reply)
  | pushed (m : Pushed)
  deriving DecidableEq, Repr

/-- A frame of an outbound queue: part `part` of the `parts` parts of a message (R190). -/
structure OutFrame where
  message : OutMessage
  part : Nat
  parts : Nat
  deriving DecidableEq, Repr

/-- A station port (R185 to R195).  `sending` says that the transmitter is sending the head of the outbound queue;
`flags` holds the latched change flags, in the order of `ChangeFlag`. -/
structure PortRecord where
  carrierUp : Bool
  flowGo : Bool
  buffer : List Word
  discarding : Bool
  inbound : List Frame
  outbound : List OutFrame
  sending : Bool
  pushedWaiting : List Pushed
  framingCount : BitVec 8
  crcCount : BitVec 8
  flags : List ChangeFlag
  attention : Bool
  deriving DecidableEq, Repr

/-! ## The state -/

/-- The consequences that an event has prompted and that are taken once it has been taken whole: the MODEL's own
(log entry 3).  `retry` marks a gantry whose waiting search runs again (R154, R165), `retest` one whose waiting request
is tested again (R80), `dispatch` a dispatch opportunity (R148).  None is set between two steps of a run. -/
structure Duties where
  retry : PerGantry Bool
  retest : PerGantry Bool
  dispatch : Bool
  deriving DecidableEq, Repr

/-- No consequence is due. -/
def Duties.none : Duties := ⟨PerGantry.all false, PerGantry.all false, false⟩

/-- The state of the PG-24, with the layout memory on its interface. -/
structure State where
  /-- The cell state (R171). -/
  cell : CellState
  /-- The cell clock (R177). -/
  clock : Time
  /-- The active layout record, absent in NO_LAYOUT (R1). -/
  layout : Option Layout
  /-- The layout loader (R179). -/
  loader : Loader
  /-- The 44 words of the record being written, while the loader is WRITING (R183). -/
  writeRecord : Option (List Word)
  /-- Words 0 to 96 of the layout memory (R178). -/
  memory : List Word
  /-- The check number of a layout read as invalid (R180). -/
  invalidCheck : Option Nat
  /-- The defined entries of the kind table by kind code, in rising order (R15). -/
  kinds : List (Nat × Kind)
  /-- The pool's free list (R20). -/
  free : FreeList
  /-- The serial counter (R22). -/
  serialCounter : Nat
  /-- The slot records by slot number; none in NO_LAYOUT (R23, R36). -/
  slots : List Slot
  /-- The slot most recently marked suspect (R27). -/
  lastMarked : Option Nat
  /-- The eight area windows (R38). -/
  windows : List Window
  /-- The 32 sets of 4 ways of the Kind Locator (R58). -/
  locator : List (List Way)
  /-- Pin mode (R64). -/
  pinMode : Bool
  /-- The Kind Locator's counters (R66). -/
  verifiedHits : Counter
  failedHits : Counter
  misses : Counter
  /-- The gantry records and reservations (R98, R73). -/
  gantries : PerGantry GantryRecord
  /-- The saw records (R123). -/
  saws : PerSaw SawRecord
  /-- The Dispatcher's round-robin pointer (R149). -/
  pointer : Saw
  /-- The station ports (R195). -/
  ports : PerPort PortRecord
  /-- The MODEL's own: the number of the next free value (log entries 1 and 2). -/
  freeNext : Nat
  /-- The MODEL's own: the consequences still to be taken (log entry 3). -/
  duties : Duties
  /-- The MODEL's own: the commands that wait, first in, first out. -/
  pending : List Instr
  deriving DecidableEq, Repr

/-! ## Power-on values -/

/-- A counter at 0. -/
def Counter.zero : Counter := ⟨0, 0⟩

/-- A timer at 0. -/
def Timer.zero : Timer := ⟨0, 0, 0⟩

/-- A gantry record at power-on (R98, R73, R95). -/
def GantryRecord.initial : GantryRecord :=
  { state := .offline, position := none, reservation := none, frozen := false, carried := none, task := none,
    current := none, setAside := none, former := none, lastDirection := none, lastMaterial := none,
    lastCompletion := none, dwellEnd := none, hold := none, lastOutcome := none, nextToken := 0, fault := none,
    stepsCompleted := .zero, yieldsMade := .zero, overruns := .zero, driveFaults := .zero }

/-- The settings after power-on (TABLE 7.3). -/
def Settings.initial : Settings :=
  { enabled := false, backlogLimit := 1, w1 := 0, w2 := 0, w3 := 0, remnantAllowed := false, maxBookHeight := 800 }

/-- A saw record after power-on (TABLE 7.1). -/
def SawRecord.initial : SawRecord :=
  { settings := .initial, books := [], offers := [], pacing := [], pacingEnd := none, table := .unknown,
    lastBookReport := none, lastOfferReport := none, started := .zero, released := .zero, aborted := .zero,
    taken := .zero, panelsPlaced := .zero, extraAcks := .zero, starved := .zero, held := .zero }

/-- A port at power-on (R195). -/
def PortRecord.initial : PortRecord :=
  { carrierUp := false, flowGo := true, buffer := [], discarding := false, inbound := [], outbound := [],
    sending := false, pushedWaiting := [], framingCount := 0, crcCount := 0, flags := [], attention := false }

/-- A window at power-on (R38). -/
def Window.initial : Window := { enabled := false, base := 0, k := 0, pickOnly := false, remnant := false }

/-- The Kind Locator with every way INVALID (R58, R65). -/
def emptyLocator : List (List Way) := List.replicate 32 (List.replicate 4 .invalid)

/-- The state right after power-on, over a layout memory with the given words (R179): every block at its power-on
values, the clock at 0, the loader READING. -/
def State.atPowerOn (memory : List Word) : State :=
  { cell := .noLayout, clock := 0, layout := none, loader := .reading, writeRecord := none, memory := memory,
    invalidCheck := none, kinds := [], free := ⟨0, []⟩, serialCounter := 1, slots := [], lastMarked := none,
    windows := List.replicate 8 .initial, locator := emptyLocator, pinMode := false, verifiedHits := .zero,
    failedHits := .zero, misses := .zero, gantries := .all .initial, saws := .all .initial, pointer := .saw4,
    ports := .all .initial, freeNext := 0, duties := .none, pending := [] }

/-- The state after reset: power-on with a layout memory that reads as blank.  DESIGN CHOICE (log entry 4): the manual
gives the contents of the memory at no time before its first write. -/
def State.reset : State := State.atPowerOn (List.replicate 97 0xFFFF)

/-! ## Outcomes that end a run -/

/-- No command of the PG-24 stops the part: every event the manual describes leaves a next state, so there is no fault. -/
inductive Fault where
  deriving DecidableEq, Repr

/-- Why a command has no meaning in the model. -/
inductive Refusal where
  /-- Raised by an arm of `exec` for a command that is not modelled yet; safe, since nothing is claimed of it. -/
  | notModelled (mnemonic : String)
  deriving DecidableEq, Repr

/-! ## Access to the records -/

/-- The gantry's record. -/
def State.gantry (s : State) (g : Gantry) : GantryRecord := s.gantries.get g

/-- The saw's record. -/
def State.saw (s : State) (w : Saw) : SawRecord := s.saws.get w

/-- The port's record. -/
def State.port (s : State) (p : Port) : PortRecord := s.ports.get p

end Sys2Proof.Machine
end

