-- ==== Sys2Proof/Machine/Operands.lean ====
section
/-! DEFINITION. How a frame's words are read: payload words and their bit fields (TABLES 10.4 to 10.8, 10.12), slot
address words (R11), the message codes with their ports, lengths and message-level field checks (TABLE 10.1), and the
cell states each message is accepted in (TABLES 9.2 and 9.3). -/

namespace Sys2Proof.Machine

/-! ## Numbers of names -/

/-- The number of a saw (TABLE 0.1). -/
def sawNumber : Saw → Nat
  | .saw1 => 1
  | .saw2 => 2
  | .saw3 => 3
  | .saw4 => 4

/-- The saw of a number, when there is one. -/
def sawOfNumber : Nat → Option Saw
  | 1 => some .saw1
  | 2 => some .saw2
  | 3 => some .saw3
  | 4 => some .saw4
  | _ => none

/-- The number of a port (TABLE 0.1). -/
def portNumber : Port → Nat
  | .planner => 0
  | .saw w => sawNumber w
  | .gantry .west => 5
  | .gantry .east => 6

/-- The saw whose port this is; the first saw where it is no saw's port, a case the port check keeps out. -/
def portSaw : Port → Saw
  | .saw w => w
  | _ => .saw1

/-- The gantry whose port this is; the west gantry where it is no gantry's port, a case the port check keeps out. -/
def portGantry : Port → Gantry
  | .gantry g => g
  | _ => .west

/-- The number of a cell state (R172). -/
def CellState.number : CellState → Nat
  | .noLayout => 0
  | .closed => 1
  | .opened => 2
  | .halted => 3

/-- The number of a gantry state (TABLE 6.1). -/
def GantryState.number : GantryState → Nat
  | .offline => 0
  | .idle => 1
  | .dwell => 2
  | .waitGrant => 3
  | .stepping => 4
  | .hoverHold => 5
  | .stranded => 6
  | .faulted => 7
  | .parked => 8

/-- The number of a refusal code (TABLE 10.2). -/
def RefusalCode.number : RefusalCode → Nat
  | .unknownMessage => 1
  | .wrongPort => 2
  | .badLength => 3
  | .badField => 4
  | .cellState => 5
  | .cellBusy => 6
  | .layoutInvalid => 7
  | .storeNotEmpty => 8
  | .badSlot => 9
  | .slotClaimed => 10
  | .slotSuspect => 11
  | .stackFull => 12
  | .poolFull => 13
  | .storeFull => 14
  | .unknownKind => 15
  | .kindInUse => 16
  | .queueFull => 17
  | .duplicateTag => 18
  | .unknownTag => 19
  | .tagMismatch => 20
  | .bookTooHigh => 21
  | .bookReleased => 22
  | .offerFull => 23
  | .sawAbsent => 24
  | .sawBusy => 25
  | .staleStep => 26
  | .gantryState => 27
  | .spanConflict => 28
  | .outOfReach => 29

/-- The number of a step kind (TABLE 10.7). -/
def StepKind.number : StepKind → Nat
  | .travelPick => 0
  | .travelHover => 1
  | .place => 2
  | .travelPut => 3
  | .travelOnly => 4

/-- The number of a marker (TABLE 10.7). -/
def Marker.number : Marker → Nat
  | .none => 0
  | .slot => 1
  | .outfeed => 2
  | .table => 3

/-- The number of a book fault code (section 10.9). -/
def BookFault.number : BookFault → Nat
  | .pickMiss => 1
  | .noSource => 2
  | .hoverTimeout => 3
  | .placeFail => 4
  | .gantryFault => 5
  | .runwayBlocked => 6
  | .sawAbort => 7

/-- The outcome a STEP_DONE's outcome word carries (TABLE 10.8).  The message-level check refuses every word above 3. -/
def stepOutcomeOf : Nat → StepOutcome
  | 0 => .ok
  | 1 => .pickMiss
  | 2 => .placeFail
  | _ => .putFail

/-! ## Words of a payload -/

/-- Payload word `i`, as a whole number; 0 beyond the payload's end. -/
def word (payload : List Word) (i : Nat) : Nat := (payload.getD i 0).toNat

/-- Bits `lo` to `lo + width − 1` of a whole number. -/
def bits (n lo width : Nat) : Nat := n / 2 ^ lo % 2 ^ width

/-- A slot address word read (TABLE 10.4). -/
inductive SlotAddress where
  | linear (number : Nat)
  | grid (lane bay : Nat)
  deriving DecidableEq, Repr

/-- The form bit and the fields of a slot address word (TABLE 10.4). -/
def slotAddress (w : Nat) : SlotAddress :=
  if bits w 15 1 = 0 then .linear (bits w 0 9) else .grid (bits w 8 4) (bits w 0 6)

/-- The slot an address names under the given lanes and bays, when it is in range (R11). -/
def SlotAddress.slot (a : SlotAddress) (lanes bays : Nat) : Option Nat :=
  match a with
  | .linear n => if n < lanes * bays then some n else none
  | .grid lane bay => if lane < lanes ∧ 1 ≤ bay ∧ bay ≤ bays then some (lane * bays + (bay - 1)) else none

/-- The grid-form address word of a slot (TABLE 10.4).  Bits 6 to 7 and 12 to 14, which the table calls ignored, are sent as 0
(DESIGN CHOICE, log entry 34). -/
def SlotName.gridWord (n : SlotName) : Word := BitVec.ofNat 16 (32768 + n.lane * 256 + n.bay)

/-! ## Messages -/

/-- The inbound messages of TABLE 10.1. -/
inductive Message where
  | layoutSet | layoutQuery | kindSet | kindQuery | areaSet | areaQuery | stackRegister | stackWithdraw | slotRelease
  | slotQuery | sawSet | sawQuery | gantryPark | gantryRestore | cellCommand | countsQuery | bookRequest | bookAbort
  | bookTaken | tableState | remnantOffer | gantryReady | stepDone | gantryFault | statusQuery | statusPeek
  deriving DecidableEq, Repr

/-- The message codes (TABLE 10.1). -/
def Message.code : Message → BitVec 8
  | .layoutSet => 0x01
  | .layoutQuery => 0x02
  | .kindSet => 0x03
  | .kindQuery => 0x04
  | .areaSet => 0x05
  | .areaQuery => 0x06
  | .stackRegister => 0x07
  | .stackWithdraw => 0x08
  | .slotRelease => 0x09
  | .slotQuery => 0x0A
  | .sawSet => 0x0B
  | .sawQuery => 0x0C
  | .gantryPark => 0x0D
  | .gantryRestore => 0x0E
  | .cellCommand => 0x0F
  | .countsQuery => 0x10
  | .bookRequest => 0x21
  | .bookAbort => 0x22
  | .bookTaken => 0x23
  | .tableState => 0x24
  | .remnantOffer => 0x25
  | .gantryReady => 0x31
  | .stepDone => 0x32
  | .gantryFault => 0x33
  | .statusQuery => 0x41
  | .statusPeek => 0x42

/-- The inbound messages, in the order of TABLE 10.1. -/
def Message.all : List Message :=
  [.layoutSet, .layoutQuery, .kindSet, .kindQuery, .areaSet, .areaQuery, .stackRegister, .stackWithdraw, .slotRelease,
   .slotQuery, .sawSet, .sawQuery, .gantryPark, .gantryRestore, .cellCommand, .countsQuery, .bookRequest, .bookAbort,
   .bookTaken, .tableState, .remnantOffer, .gantryReady, .stepDone, .gantryFault, .statusQuery, .statusPeek]

/-- Whether a code is one of the inbound codes (R189, check 1). -/
def inboundCode (c : BitVec 8) : Bool := Message.all.any fun m => decide (m.code = c)

/-- Whether a message is accepted on a port's role (TABLE 10.1). -/
def Message.onPort (m : Message) (p : Port) : Bool :=
  match m with
  | .statusQuery | .statusPeek => true
  | .bookRequest | .bookAbort | .bookTaken | .tableState | .remnantOffer =>
    match p with
    | .saw _ => true
    | _ => false
  | .gantryReady | .stepDone | .gantryFault =>
    match p with
    | .gantry _ => true
    | _ => false
  | _ =>
    match p with
    | .planner => true
    | _ => false

/-- The payload length TABLE 10.1 gives for a message, computed from its count as carried where it has one (R189). -/
def Message.payloadLength (m : Message) (payload : List Word) : Nat :=
  match m with
  | .layoutSet => 45
  | .kindSet | .areaSet => 1 + 6 * word payload 0
  | .stackRegister | .bookRequest => 2 + 3 * word payload 1
  | .sawSet => 8
  | .gantryRestore => 5
  | .remnantOffer | .stepDone => 3
  | .stackWithdraw | .slotQuery => 2
  | .kindQuery | .slotRelease | .sawQuery | .gantryPark | .cellCommand | .bookAbort | .bookTaken | .tableState
  | .gantryReady | .gantryFault => 1
  | .layoutQuery | .areaQuery | .countsQuery | .statusQuery | .statusPeek => 0

/-- The fields checked at message level, each the index of its payload word and the largest value it may hold
(TABLE 10.1). -/
def Message.checkedFields : Message → List (Nat × Nat)
  | .layoutSet => [(44, 1)]
  | .gantryPark => [(0, 1)]
  | .gantryRestore => [(0, 1), (2, 2), (4, 1)]
  | .cellCommand => [(0, 9)]
  | .tableState => [(0, 1)]
  | .stepDone => [(2, 3)]
  | .gantryFault => [(0, 255)]
  | _ => []

/-- The message-level checks 2 to 4 of R189: the refusal code and the detail word of the first that fails.  Of several checked
fields outside their sets BAD_FIELD names the one of lowest payload word index (DESIGN CHOICE, log entry 33). -/
def Message.check (m : Message) (p : Port) (payload : List Word) : Option (RefusalCode × Nat) :=
  if m.onPort p = false then some (.wrongPort, portNumber p)
  else if payload.length ≠ m.payloadLength payload then some (.badLength, payload.length)
  else
    match m.checkedFields.find? fun f => decide (f.2 < word payload f.1) with
    | some f => some (.badField, f.1)
    | none => none

/-- The cell states a message other than a cell command is accepted in (TABLE 9.2). -/
def Message.accepts (m : Message) (c : CellState) : Bool :=
  match m with
  | .layoutSet => decide (c = .noLayout ∨ c = .closed)
  | .kindSet | .areaSet => decide (c = .closed)
  | .bookRequest | .remnantOffer => decide (c = .opened ∨ c = .halted)
  | .layoutQuery | .countsQuery | .statusQuery | .statusPeek | .cellCommand => true
  | .kindQuery | .areaQuery | .slotQuery | .sawQuery | .stackRegister | .stackWithdraw | .slotRelease | .sawSet
  | .gantryPark | .gantryRestore | .bookAbort | .bookTaken | .tableState | .gantryReady | .stepDone | .gantryFault =>
    decide (c ≠ .noLayout)

/-! ## Cell commands -/

/-- The ten cell commands (TABLE 9.3). -/
inductive CellCommand where
  | openCell | haltCell | resumeCell | closeCell | latchCounts | clearCounts | locatorFlush | pinOn | pinOff | cellReset
  deriving DecidableEq, Repr

/-- The command word of a cell command: its place in TABLE 9.3, from 0 (TABLE 10.12). -/
def CellCommand.number : CellCommand → Nat
  | .openCell => 0
  | .haltCell => 1
  | .resumeCell => 2
  | .closeCell => 3
  | .latchCounts => 4
  | .clearCounts => 5
  | .locatorFlush => 6
  | .pinOn => 7
  | .pinOff => 8
  | .cellReset => 9

/-- The cell states a cell command is accepted in (TABLE 9.3). -/
def CellCommand.accepts (k : CellCommand) (c : CellState) : Bool :=
  match k with
  | .openCell => decide (c = .closed)
  | .haltCell => decide (c = .opened)
  | .resumeCell => decide (c = .halted)
  | .closeCell => decide (c = .opened ∨ c = .halted)
  | .latchCounts | .clearCounts | .locatorFlush | .pinOn | .pinOff => decide (c ≠ .noLayout)
  | .cellReset => true

/-! ## Words of the messages the PG-24 sends -/

/-- A slot named in two words, or 0xFFFF twice when absent (section 10.9). -/
def slotWords : Option SlotName → List Word
  | some n => [lowWord n.number, n.gridWord]
  | none => [0xFFFF, 0xFFFF]

/-- The payload of a STEP_ORDER (TABLE 10.7). -/
def StepOrder.words (o : StepOrder) : List Word :=
  [lowWord o.kind.number, o.token.setWidth 16, lowWord o.marker.number, lowWord o.targetX, lowWord o.targetY]
    ++ slotWords o.slot ++ [lowWord o.height, lowWord o.thickness, highWord o.serial, lowWord o.serial]

/-- The payload of a BOOK_REPORT (TABLE 10.9).  TABLE 10.9 gives 0 for the code of an absent first fault alone: DESIGN CHOICE, the
lift index word beside it is sent as 0 too (log entry 39). -/
def BookReport.words (r : BookReport) : List Word :=
  [r.tag, (match r.outcome with | .complete => 0 | .aborted => 1), lowWord r.placed.length]
    ++ (match r.firstFault with | some (c, i) => [lowWord c.number, lowWord i] | none => [0, 0])
    ++ [match r.endCause with | some c => lowWord c.number | none => 0]
    ++ r.placed.flatMap fun n => [highWord n, lowWord n]

/-- The payload of an OFFER_REPORT (TABLE 10.11). -/
def OfferReport.words (r : OfferReport) : List Word :=
  [lowWord r.kind, lowWord r.length, lowWord r.width, (match r.outcome with | .stored => 0 | .discarded => 1),
   (match r.cause with | some c => lowWord c.number | none => 0), highWord r.serial, lowWord r.serial]
    ++ slotWords r.slot

/-- The code and the payload of a pushed message (TABLE 10.1). -/
def Pushed.frame : Pushed → Frame
  | .stepOrder o => ⟨0xA1, o.words⟩
  | .bookReport r => ⟨0xA2, r.words⟩
  | .offerReport r => ⟨0xA3, r.words⟩

/-- The three words of a REFUSED (R190). -/
def refusedWords (code : BitVec 8) (refusal : RefusalCode) (detail : Word) : List Word :=
  [code.setWidth 16, lowWord refusal.number, detail]

/-- The words of the further data of an ACCEPTED, in the order R190 lists them: serial, slot, count, height (DEDUCED, log
entry 36). -/
def RestoreData.words (d : RestoreData) : List Word :=
  [highWord d.serial, lowWord d.serial] ++ slotWords d.slot ++ [lowWord d.count, lowWord d.height]

/-- The words of an ACCEPTED: the code of the accepted message, the note word and the further data (R190). -/
def acceptedWords (code : BitVec 8) (note : Word) (restore : Option RestoreData) : List Word :=
  [code.setWidth 16, note] ++ (match restore with | some d => d.words | none => [])

/-- The reply codes (TABLE 10.1). -/
def Reply.code : Reply → BitVec 8
  | .accepted .. => 0x81
  | .refused .. => 0x82
  | .layoutReply .. => 0x83
  | .kindReply .. => 0x84
  | .areaReply .. => 0x85
  | .registerReply .. => 0x86
  | .withdrawReply .. => 0x87
  | .slotReply .. => 0x88
  | .sawReply .. => 0x89
  | .sawStateReply .. => 0x8A
  | .countsReply .. => 0x8B
  | .statusReply .. => 0x8C

/-- The contents words of a reply, where the manual lays them out: those of ACCEPTED and REFUSED (R190).  Of the data replies it
gives the contents and no layout of words (log entry 17). -/
def Reply.words : Reply → Option (List Word)
  | .accepted code note restore => some (acceptedWords code note restore)
  | .refused code refusal detail => some (refusedWords code refusal detail)
  | _ => none

/-- The message code that a frame of an outbound queue carries in its header (TABLE 10.1). -/
def OutMessage.code : OutMessage → BitVec 8
  | .reply r => r.code
  | .pushed m => m.frame.code

/-- The contents words of a message that is sent, where the manual lays them out. -/
def OutMessage.words : OutMessage → Option (List Word)
  | .reply r => r.words
  | .pushed m => some m.frame.payload

/-- The part word of a frame that is sent: the part number in the high byte and the number of parts in the low byte; a message
of one frame carries none (R190). -/
def OutFrame.partWord (f : OutFrame) : List Word := if f.parts = 1 then [] else [BitVec.ofNat 16 (f.part * 256 + f.parts)]

/-- The frame that is sent, of a message of one frame whose words the manual lays out (R190). -/
def OutFrame.frame (f : OutFrame) : Option Frame :=
  if f.parts = 1 then f.message.words.map fun ws => ⟨f.message.code, ws⟩ else none

end Sys2Proof.Machine
end

