-- ==== Sys2Proof/WellFormed.lean ====
section
/-! DEFINITION. Which commands can be sent: the bounds that the link and the layout memory put on their operands.  A command
that is not well-formed is no command of the table's row; its meaning leaves the state as it is or takes the words as the
link would. -/

namespace Sys2Proof

/-- A payload fits a frame: 0 to 62 words (section 10.2). -/
def payloadFits (payload : List Word) : Bool := decide (payload.length ≤ 62)

/-- The words of one candidate frame: at least one, and at most the 64 of the alignment buffer (R187). -/
def wordsFit (ws : List Word) : Bool := decide (1 ≤ ws.length ∧ ws.length ≤ 64)

/-- A payload spells one of the ten cell commands (TABLE 10.12). -/
def spellsCommand (payload : List Word) : Bool :=
  match payload with
  | [w] => decide (w.toNat ≤ 9)
  | _ => false

/-- Whether a command can be sent. -/
def Instr.wellFormed : Instr → Bool
  | .powerOn n => decide (n ≤ 97)
  | .layoutReadEnd _ => true
  | .layoutWriteEnd _ left => decide (left.length = 97)
  | .frameReceived _ ws => wordsFit ws
  | .receiveBufferFull _ ws => wordsFit ws
  | .flowStop _ | .flowGo _ | .carrierLoss _ | .carrierReturn _ | .frameSent _ => true
  | .unknownMessage _ code payload => !Machine.inboundCode code && payloadFits payload
  | .cellCommand _ payload => payloadFits payload && !spellsCommand payload
  | .layoutSet _ payload | .layoutQuery _ payload | .kindSet _ payload | .kindQuery _ payload | .areaSet _ payload
  | .areaQuery _ payload | .stackRegister _ payload | .stackWithdraw _ payload | .slotRelease _ payload
  | .slotQuery _ payload | .sawSet _ payload | .sawQuery _ payload | .gantryPark _ payload | .gantryRestore _ payload
  | .countsQuery _ payload | .bookRequest _ payload | .bookAbort _ payload | .bookTaken _ payload
  | .tableState _ payload | .remnantOffer _ payload | .gantryReady _ payload | .stepDone _ payload
  | .gantryFault _ payload | .statusQuery _ payload | .statusPeek _ payload => payloadFits payload
  | .openCell _ | .haltCell _ | .resumeCell _ | .closeCell _ | .latchCounts _ | .clearCounts _ | .locatorFlush _
  | .pinOn _ | .pinOff _ | .cellReset _ => true
  | .overrun _ | .dwellEnd _ | .hoverTimeout _ | .pacingEnd _ | .pacingRuleUnsatisfied _ | .sawTimerStep _ _
  | .cellClockTick | .nextEndMarkedWord _ _ => true

end Sys2Proof
end

