-- ==== Sys2Proof/Machine/Flags.lean ====
section
/-! DEFINITION. Change flags and attention latches (R192), saturating counters (section 3.6 of 00_scope.md), saw timers
(R145), and the judgements of time on the cell clock (R177). -/

namespace Sys2Proof.Machine

/-! ## Time -/

/-- The time elapsed at `now` since the reading `since`, modulo 2^32 (R177). -/
def elapsed (now since : Time) : Nat := (now - since).toNat

/-- A moment scheduled ahead is reached when the elapsed time since it was scheduled reaches the duration (R177). -/
def Moment.reached (m : Moment) (now : Time) : Bool := decide (m.duration ≤ elapsed now m.since)

/-- The clock reading of a moment scheduled ahead. -/
def Moment.time (m : Moment) : Time := m.since + BitVec.ofNat 32 m.duration

/-- Whether a recorded time lies within the last `window` milliseconds (R177, R132). -/
def withinLast (now since : Time) (window : Nat) : Bool := decide (elapsed now since < window)

/-! ## Counters and timers -/

/-- A 32-bit value stepped by one, saturating at 4,294,967,295 (R176). -/
def saturatingStep (c : Count) : Count := if c = BitVec.allOnes 32 then c else c + 1

/-- An 8-bit link error count stepped by one, saturating at 255 (R187). -/
def saturatingStep8 (c : BitVec 8) : BitVec 8 := if c = BitVec.allOnes 8 then c else c + 1

/-- The counter with its live value stepped. -/
def Counter.step (c : Counter) : Counter := { c with live := saturatingStep c.live }

/-- The counter with its live value copied into its latched value (R176). -/
def Counter.latch (c : Counter) : Counter := { c with latched := c.live }

/-- The timer with its live value copied into its latched value; the residue is left as it stands (R145). -/
def Timer.latch (t : Timer) : Timer := { t with latched := t.live }

/-- SAW_TIMER_STEP on a timer whose residue has reached 100: the live value steps and the residue returns to 0 (R145).
A timer whose residue has not reached 100 is unchanged. -/
def Timer.step (t : Timer) : Timer :=
  if 100 ≤ t.residue then { t with live := saturatingStep t.live, residue := 0 } else t

/-- One millisecond of a running timer (R145).  A step that is still owed from the tick before is taken first
(DESIGN CHOICE, log entry 5), so that no millisecond is lost whenever SAW_TIMER_STEP comes. -/
def Timer.tick (t : Timer) : Timer := { t.step with residue := t.step.residue + 1 }

/-! ## Change flags -/

/-- The change flags in the order a status record lists them (TABLE 10.3). -/
def ChangeFlag.all : List ChangeFlag :=
  [.layoutBlank, .layoutCorrupt, .layoutInvalid, .layoutWritten, .layoutWriteFail, .suspectMarked, .gantryFaulted,
   .gantryStranded, .resetSeen, .settingsChanged, .serviceChanged, .crcErr, .inboundOverflow]

/-- The latched flags with one more; a flag that is already latched stays latched (R192). -/
def latchFlag (f : ChangeFlag) (fs : List ChangeFlag) : List ChangeFlag :=
  ChangeFlag.all.filter fun x => decide (x = f) || fs.contains x

/-- A change flag latches, and the attention latch sets (R192). -/
def PortRecord.latch (r : PortRecord) (f : ChangeFlag) : PortRecord :=
  { r with flags := latchFlag f r.flags, attention := true }

/-- The attention wire is active while the attention latch is set and the carrier is UP (R185). -/
def PortRecord.attentionWire (r : PortRecord) : Bool := r.attention && r.carrierUp

/-- The state with one port's record replaced. -/
def State.setPort (s : State) (p : Port) (r : PortRecord) : State := { s with ports := s.ports.set p r }

/-- A change flag of one port latches. -/
def State.latch (s : State) (p : Port) (f : ChangeFlag) : State := s.setPort p ((s.port p).latch f)

end Sys2Proof.Machine
end

