-- ==== Sys2Proof/Machine/Ops.lean ====
section
/-! DEFINITION. The named operations that the blocks share: the records of a state, the CRC (R178), the station ports'
receiving and sending (R186 to R191), and the processing of one frame (R189, R190). -/

namespace Sys2Proof.Machine

/-! ## Records -/

/-- Replaces a gantry's record.  A change of its state or of its reservation prompts a test of the other gantry's waiting
request (R80). -/
def State.setGantry (s : State) (g : Gantry) (r : GantryRecord) : State :=
  { s with
    gantries := s.gantries.set g r
    duties := if r.state = (s.gantry g).state ∧ r.reservation = (s.gantry g).reservation then s.duties
      else { s.duties with retest := s.duties.retest.set (otherGantry g) true } }

/-- Replaces a saw's record. -/
def State.setSaw (s : State) (w : Saw) (r : SawRecord) : State := { s with saws := s.saws.set w r }

/-- The next free detail word, and the state in which it has been used (log entry 1). -/
def State.freeDetail (s : State) : Word × State := (Config.freeDetail s.freeNext, { s with freeNext := s.freeNext + 1 })

/-- Notes a dispatch opportunity (R148). -/
def State.opportunity (s : State) : State := { s with duties := { s.duties with dispatch := true } }

/-! ## CRC -/

/-- One bit through the CRC register: polynomial x^16 + x^12 + x^5 + 1, most significant bit first (R178). -/
def crcBit (reg : Word) (b : Bool) : Word :=
  if reg.msb = b then reg <<< 1 else (reg <<< 1) ^^^ 0x1021

/-- One word through the CRC register, most significant bit first (R178). -/
def crcWord (reg w : Word) : Word := (List.range 16).foldl (fun r i => crcBit r (w.getMsbD i)) reg

/-- The CRC word of a list of words: seeded with 0x5B3E, no final inversion (R178, section 10.2). -/
def crc (ws : List Word) : Word := ws.foldl crcWord 0x5B3E

/-- The header word of a frame: the code in its high byte, the payload length in its low byte (section 10.2). -/
def headerWord (f : Frame) : Word := f.code ++ BitVec.ofNat 8 f.payload.length

/-- The words of a frame on the link: header, payload, CRC word (section 10.2). -/
def Frame.words (f : Frame) : List Word :=
  (headerWord f :: f.payload) ++ [crc (headerWord f :: f.payload)]

/-! ## Receiving -/

/-- A good frame is offered to the inbound queue, which holds up to 4 frames (R188). -/
def PortRecord.offer (r : PortRecord) (f : Frame) : PortRecord :=
  if r.inbound.length < 4 then { r with inbound := r.inbound ++ [f] } else r.latch .inboundOverflow

/-- A candidate frame is judged (R187): the length, then the CRC, then the inbound queue. -/
def PortRecord.judge (r : PortRecord) (ws : List Word) : PortRecord :=
  if ws.length < 2 ∨ (ws.headD 0).toNat % 256 ≠ ws.length - 2 then
    { r with framingCount := saturatingStep8 r.framingCount }
  else if crc ws.dropLast ≠ ws.getLastD 0 then
    PortRecord.latch { r with crcCount := saturatingStep8 r.crcCount } .crcErr
  else
    r.offer ⟨BitVec.ofNat 8 ((ws.headD 0).toNat / 256), ws.dropLast.tail⟩

/-- The transmitter begins to send the head of the outbound queue when the flow state is GO and the carrier is UP, and
goes on with the frame it is sending otherwise (R186, R191). -/
def PortRecord.wake (r : PortRecord) : PortRecord :=
  if r.carrierUp ∧ r.flowGo ∧ r.outbound ≠ [] then { r with sending := true } else r

/-- One character arrives at a port: a word, and whether it is end-marked (R186, R187). -/
def PortRecord.receive (r : PortRecord) (w : Word) (marked : Bool) : PortRecord :=
  if marked ∧ r.buffer = [] ∧ w = 0x0F0F then { r with flowGo := false }
  else if marked ∧ r.buffer = [] ∧ w = 0x0F00 then PortRecord.wake { r with flowGo := true }
  else if r.discarding then (if marked then { r with discarding := false } else r)
  else if marked then PortRecord.judge { r with buffer := [] } (r.buffer ++ [w])
  else if 64 ≤ r.buffer.length + 1 then
    { r with buffer := [], discarding := true, framingCount := saturatingStep8 r.framingCount }
  else { r with buffer := r.buffer ++ [w] }

/-- Words without an end marker arrive, one after another. -/
def PortRecord.receiveUnmarked (r : PortRecord) (ws : List Word) : PortRecord :=
  ws.foldl (fun q w => q.receive w false) r

/-- The words of one frame arrive, the last of them end-marked; no words change nothing. -/
def PortRecord.receiveFrame (r : PortRecord) (ws : List Word) : PortRecord :=
  match ws.getLast? with
  | some w => (r.receiveUnmarked ws.dropLast).receive w true
  | none => r

/-! ## Sending -/

/-- How many frames an outbound queue holds (R191). -/
def outboundPlaces : Nat := 8

/-- A pushed message joins the outbound queue when a place is free, and the pending list otherwise (R191). -/
def PortRecord.push (r : PortRecord) (m : Pushed) : PortRecord :=
  if r.outbound.length < outboundPlaces then
    PortRecord.wake { r with outbound := r.outbound ++ [⟨.pushed m, 1, 1⟩] }
  else { r with pushedWaiting := r.pushedWaiting ++ [m] }

/-- The frames of a pending list's head, which takes a freed place (R191). -/
def headFrame (ms : List Pushed) : List OutFrame := (ms.take 1).map fun m => ⟨.pushed m, 1, 1⟩

/-- The frame being sent has left the outbound queue, and the head of the pending list takes the freed place (R191).
A port that sends no frame is unchanged. -/
def PortRecord.sent (r : PortRecord) : PortRecord :=
  if r.sending then
    PortRecord.wake { r with
      outbound := r.outbound.tail ++ headFrame r.pushedWaiting
      pushedWaiting := r.pushedWaiting.tail
      sending := false }
  else r

/-- A pushed message is formed on a port. -/
def State.push (s : State) (p : Port) (m : Pushed) : State := s.setPort p ((s.port p).push m)

/-- Whether a pushed message is a STEP_ORDER. -/
def Pushed.isStepOrder : Pushed → Bool
  | .stepOrder _ => true
  | _ => false

/-- A STEP_ORDER that still stands in the pending list is removed from it (R191). -/
def State.dropStepOrder (s : State) (g : Gantry) : State :=
  s.setPort (.gantry g)
    { s.port (.gantry g) with
      pushedWaiting := (s.port (.gantry g)).pushedWaiting.filter fun m => !m.isStepOrder }

/-! ## Replies -/

/-- How many frames a reply is carried in (TABLE 10.13). -/
def Reply.parts (p : Port) : Reply → Nat
  | .areaReply _ => 2
  | .withdrawReply ns => if ns.length ≤ 30 then 1 else 2
  | .countsReply _ => 2
  | .statusReply _ => if p = .planner then 3 else 1
  | .sawStateReply v => 1 + (v.books.length + 1) / 2
  | _ => 1

/-- The frames of a reply, numbered from 1 (R190). -/
def Reply.frames (p : Port) (r : Reply) : List OutFrame :=
  (List.range (r.parts p)).map fun i => ⟨.reply r, i + 1, r.parts p⟩

/-- A reply takes the places that were free for it when its frame began to be processed (R189).  Pushed messages that
the same processing formed stand before it in so far as further places were free, and lead the pending list otherwise
(DESIGN CHOICE, log entry 6). -/
def PortRecord.place (r : PortRecord) (fs : List OutFrame) : PortRecord :=
  PortRecord.wake { r with
    outbound := r.outbound.take (outboundPlaces - fs.length) ++ fs
    pushedWaiting :=
      ((r.outbound.drop (outboundPlaces - fs.length)).filterMap fun f =>
        match f.message with
        | .pushed m => some m
        | .reply _ => none) ++ r.pushedWaiting }

/-- A reply is placed in its port's outbound queue. -/
def State.placeReply (s : State) (p : Port) (r : Reply) : State :=
  s.setPort p ((s.port p).place (r.frames p))

/-- The ACCEPTED that carries no more than the message code. -/
def acceptedReply (m : Message) : Reply := .accepted m.code 0 none

/-- The REFUSED of a message. -/
def refusedReply (m : Message) (c : RefusalCode) (detail : Nat) : Reply := .refused m.code c (BitVec.ofNat 16 detail)

/-- A refusal whose detail word the manual does not state: a free value (log entry 1). -/
def State.refuseFree (s : State) (m : Message) (c : RefusalCode) : State × Reply :=
  (s.freeDetail.2, .refused m.code c s.freeDetail.1)

/-! ## Processing -/

/-- A message command's frame stands at the head of its port's inbound queue, or it is taken as arriving now when the
queue is empty (DESIGN CHOICE, log entry 7; R188, R189). -/
def State.arrive (s : State) (p : Port) (f : Frame) : State :=
  if (s.port p).inbound = [] then s.setPort p { s.port p with inbound := [f] } else s

/-- The frame at the head of the inbound queue leaves it (R189). -/
def State.takeFrame (s : State) (p : Port) : State :=
  s.setPort p { s.port p with inbound := (s.port p).inbound.tail }

/-- Whether the frame stands at the head of the port's inbound queue. -/
def State.atHead (s : State) (p : Port) (f : Frame) : Bool := decide ((s.port p).inbound.head? = some f)

/-- Whether the port's outbound queue has room for every frame of a reply (R189). -/
def State.hasRoom (s : State) (p : Port) (r : Reply) : Bool :=
  decide ((s.port p).outbound.length + r.parts p ≤ outboundPlaces)

/-- A cell-state refusal: the detail word is the number of the cell state (R172). -/
def State.refuseOnCell (s : State) (m : Message) : State × Reply :=
  (s, refusedReply m .cellState s.cell.number)

/-- The checks and the effects of a message (R189, R172): the message-level checks, then the cell-state check, then what
the message itself does. -/
def State.handleMessage (s : State) (m : Message) (p : Port) (payload : List Word)
    (body : State → State × Reply) : State × Reply :=
  match m.check p payload with
  | some (c, d) => (s, refusedReply m c d)
  | none => if m.accepts s.cell then body s else s.refuseOnCell m

/-- The same for the frame of one cell command (R173). -/
def State.handleCommand (s : State) (k : CellCommand) (p : Port) (body : State → State × Reply) : State × Reply :=
  match Message.cellCommand.check p [BitVec.ofNat 16 k.number] with
  | some (c, d) => (s, refusedReply .cellCommand c d)
  | none => if k.accepts s.cell then body s else s.refuseOnCell .cellCommand

/-- The frame of one cell command (TABLE 10.12). -/
def CellCommand.frame (k : CellCommand) : Frame := ⟨Message.cellCommand.code, [BitVec.ofNat 16 k.number]⟩

end Sys2Proof.Machine
end

