-- ==== Sys2Proof/Machine/Geometry.lean ====
section
/-! DEFINITION. The layout record (chapter 1): its words, its validation, and the quantities that follow from it.
Every derived quantity is computed from the active layout where it is used (R14). -/

namespace Sys2Proof.Machine

/-! ## The record and its words -/

/-- The seven fields of one gantry, from word `i` (TABLE 1.2). -/
def gantryOfWords (ws : List Word) (i : Nat) : GantryGeometry :=
  { half := word ws i, limLo := word ws (i + 1), limHi := word ws (i + 2), vmax := word ws (i + 3),
    accel := word ws (i + 4), pickTime := word ws (i + 5), placeTime := word ws (i + 6) }

/-- The four fields of one saw, from word `i` (TABLE 1.2). -/
def sawOfWords (ws : List Word) (i : Nat) : SawPlace :=
  { present := word ws i, infeedX := word ws (i + 1), outfeedX := word ws (i + 2), tableY := word ws (i + 3) }

/-- The layout record that 44 words carry (R2, TABLE 1.2). -/
def layoutOfWords (ws : List Word) : Layout :=
  { runwayLength := word ws 0, margin := word ws 1, gantries := ⟨gantryOfWords ws 2, gantryOfWords ws 9⟩,
    lanes := word ws 16, bays := word ws 17, bayPitch := word ws 18, originX := word ws 19, laneY0 := word ws 20,
    lanePitch := word ws 21, maxStackHeight := word ws 22, dwellReverse := word ws 23, dwellHead := word ws 24,
    overrunSlack := word ws 25, hoverLimit := word ws 26 * 65536 + word ws 27,
    saws := ⟨sawOfWords ws 28, sawOfWords ws 32, sawOfWords ws 36, sawOfWords ws 40⟩ }

/-- The words of one gantry's fields. -/
def GantryGeometry.words (g : GantryGeometry) : List Word :=
  [lowWord g.half, lowWord g.limLo, lowWord g.limHi, lowWord g.vmax, lowWord g.accel, lowWord g.pickTime,
   lowWord g.placeTime]

/-- The words of one saw's fields. -/
def SawPlace.words (p : SawPlace) : List Word :=
  [lowWord p.present, lowWord p.infeedX, lowWord p.outfeedX, lowWord p.tableY]

/-- The 44 words that carry a layout record (R2, TABLE 1.2). -/
def Layout.words (l : Layout) : List Word :=
  [lowWord l.runwayLength, lowWord l.margin] ++ l.gantries.west.words ++ l.gantries.east.words
    ++ [lowWord l.lanes, lowWord l.bays, lowWord l.bayPitch, lowWord l.originX, lowWord l.laneY0, lowWord l.lanePitch,
        lowWord l.maxStackHeight, lowWord l.dwellReverse, lowWord l.dwellHead, lowWord l.overrunSlack,
        highWord l.hoverLimit, lowWord l.hoverLimit]
    ++ l.saws.saw1.words ++ l.saws.saw2.words ++ l.saws.saw3.words ++ l.saws.saw4.words

/-- The 97 words of the layout memory for a record of 44 words: the record, 52 words of 0, the CRC word (R2, R183). -/
def memoryImage (record : List Word) : List Word :=
  record ++ List.replicate 52 0 ++ [crc (record ++ List.replicate 52 0)]

/-! ## Validation -/

/-- A check of the layout record: its number, and whether it holds. -/
abbrev LayoutCheck := Nat × Bool

/-- `lo ≤ n ≤ hi`, as a check of the given number. -/
def rangeCheck (number n lo hi : Nat) : LayoutCheck := (number, decide (lo ≤ n ∧ n ≤ hi))

/-- The range checks of one gantry's fields, from word `i` (TABLE 1.3). -/
def gantryRangeChecks (g : GantryGeometry) (i : Nat) : List LayoutCheck :=
  [rangeCheck i g.half 300 2000, rangeCheck (i + 3) g.vmax 100 4000, rangeCheck (i + 4) g.accel 100 4000,
   rangeCheck (i + 5) g.pickTime 200 20000, rangeCheck (i + 6) g.placeTime 200 20000]

/-- The range checks of one saw's fields, from word `i`; table_y is checked for a present saw (TABLE 1.3, R2). -/
def sawRangeChecks (p : SawPlace) (i : Nat) : List LayoutCheck :=
  [rangeCheck i p.present 0 1, (i + 3, decide (p.present = 0 ∨ p.tableY ≤ 60000))]

/-- The range stage (TABLE 1.3), in increasing word number. -/
def Layout.rangeChecks (l : Layout) : List LayoutCheck :=
  [rangeCheck 0 l.runwayLength 2000 60000, rangeCheck 1 l.margin 100 1000]
    ++ gantryRangeChecks l.gantries.west 2 ++ gantryRangeChecks l.gantries.east 9
    ++ [rangeCheck 16 l.lanes 1 8, rangeCheck 17 l.bays 1 32, rangeCheck 18 l.bayPitch 400 4000,
        rangeCheck 20 l.laneY0 0 20000, rangeCheck 21 l.lanePitch 400 4000, rangeCheck 22 l.maxStackHeight 1000 20000,
        rangeCheck 23 l.dwellReverse 0 5000, rangeCheck 24 l.dwellHead 0 5000, rangeCheck 25 l.overrunSlack 0 10000,
        rangeCheck 26 l.hoverLimit 1000 600000]
    ++ sawRangeChecks l.saws.saw1 28 ++ sawRangeChecks l.saws.saw2 32 ++ sawRangeChecks l.saws.saw3 36
    ++ sawRangeChecks l.saws.saw4 40

/-- A position lies within the limits of a gantry, both ends included (R5). -/
def GantryGeometry.reaches (g : GantryGeometry) (x : Nat) : Bool := decide (g.limLo ≤ x ∧ x ≤ g.limHi)

/-- A position lies within the limits of at least one gantry (checks 107 and 108). -/
def Layout.someReaches (l : Layout) (x : Nat) : Bool := l.gantries.west.reaches x || l.gantries.east.reaches x

/-- The X of a bay's slots (R8). -/
def Layout.bayX (l : Layout) (bay : Nat) : Nat := l.originX + (bay - 1) * l.bayPitch + l.bayPitch / 2

/-- Check 108 for one saw (TABLE 1.4). -/
def Layout.sawWithinReach (l : Layout) (p : SawPlace) : Bool :=
  decide (p.present = 0) || (l.someReaches p.infeedX && l.someReaches p.outfeedX)

/-- Checks 103 and 104 for one gantry (TABLE 1.4). -/
def Layout.limitsSound (l : Layout) (g : GantryGeometry) : Bool :=
  decide (g.half ≤ g.limLo ∧ g.limLo < g.limHi ∧ g.limHi + g.half ≤ l.runwayLength)

/-- The cross stage (TABLE 1.4), in increasing number.  A difference is written as a sum on the other side, so that whole
numbers of no limited width suffice. -/
def Layout.crossChecks (l : Layout) : List LayoutCheck :=
  [(101, decide (l.lanes * l.bays ≤ 256)),
   (102, decide (l.originX + l.bays * l.bayPitch ≤ l.runwayLength)),
   (103, l.limitsSound l.gantries.west),
   (104, l.limitsSound l.gantries.east),
   (105, decide (l.gantries.west.limLo + l.gantries.west.half + l.margin + (l.gantries.east.half + l.margin)
      < l.gantries.east.limLo)),
   (106, decide (l.gantries.west.limHi + l.gantries.west.half + l.margin + (l.gantries.east.half + l.margin)
      < l.gantries.east.limHi)),
   (107, (List.range l.bays).all fun i => l.someReaches (l.bayX (i + 1))),
   (108, l.sawWithinReach l.saws.saw1 && l.sawWithinReach l.saws.saw2 && l.sawWithinReach l.saws.saw3
      && l.sawWithinReach l.saws.saw4)]

/-- The number of the first check that fails; none when the record is valid (R3). -/
def Layout.firstFailure (l : Layout) : Option Nat :=
  ((l.rangeChecks ++ l.crossChecks).find? fun c => !c.2).map Prod.fst

/-! ## Derived quantities -/

/-- The layout that the blocks read; all fields 0 while no layout is active.  What then shows of it is that every saw counts as
absent, which is the model's choice (log entry 38). -/
def State.geom (s : State) : Layout := s.layout.getD (layoutOfWords [])

/-- slot_count (R7). -/
def Layout.slotCount (l : Layout) : Nat := l.lanes * l.bays

/-- The lane of a slot (TABLE 1.10). -/
def Layout.laneOf (l : Layout) (n : Nat) : Nat := n / l.bays

/-- The bay of a slot (TABLE 1.10). -/
def Layout.bayOf (l : Layout) (n : Nat) : Nat := n % l.bays + 1

/-- A slot named in both forms (R12). -/
def Layout.slotName (l : Layout) (n : Nat) : SlotName := ⟨n, l.laneOf n, l.bayOf n⟩

/-- Slot X (R8). -/
def Layout.slotX (l : Layout) (n : Nat) : Nat := l.bayX (l.bayOf n)

/-- Lane Y of a slot (R8). -/
def Layout.slotY (l : Layout) (n : Nat) : Nat := l.laneY0 + l.laneOf n * l.lanePitch

/-- The home position of a gantry (R5). -/
def Layout.home (l : Layout) : Gantry → Nat
  | .west => l.gantries.west.limLo
  | .east => l.gantries.east.limHi

/-- The place of a saw. -/
def Layout.sawPlace (l : Layout) (w : Saw) : SawPlace := l.saws.get w

/-- Whether a saw is present in the active layout (R9, R123).  While no layout is active no present flag exists and R9 says nothing of
it: DESIGN CHOICE, every saw then counts as absent (log entry 38). -/
def State.sawPresent (s : State) (w : Saw) : Bool := decide ((s.geom.sawPlace w).present = 1)

/-- The slot a slot address word names under the active layout, when it is in range (R11). -/
def State.addressed (s : State) (w : Nat) : Option Nat := (slotAddress w).slot s.geom.lanes s.geom.bays

/-- The standing span of a gantry at a position (R74). -/
def Layout.standing (l : Layout) (g : Gantry) (x : Nat) : Span :=
  ⟨x - ((l.gantries.get g).half + l.margin), min l.runwayLength (x + (l.gantries.get g).half + l.margin)⟩

/-- The travel span of a gantry between two positions (R74). -/
def Layout.travel (l : Layout) (g : Gantry) (a b : Nat) : Span :=
  ⟨min a b - ((l.gantries.get g).half + l.margin),
   min l.runwayLength (max a b + (l.gantries.get g).half + l.margin)⟩

/-- A span of a gantry is clear of a span of the other gantry, in the order of the runway (R75). -/
def clearOf (g : Gantry) (span other : Span) : Bool :=
  match g with
  | .west => decide (span.hi < other.lo)
  | .east => decide (other.hi < span.lo)

end Sys2Proof.Machine
end

