-- ==== Sys2Proof/Machine/Store.lean ====
section
/-! DEFINITION. The Stack Map (chapter 2): the kind table, the panel pool and its serials, the slot records with their
claims and suspect flags, and the store changes it passes to Lift Execution. -/

namespace Sys2Proof.Machine

/-! ## The kind table -/

/-- The entry of a kind code, when it is defined (R15). -/
def State.kind (s : State) (code : Nat) : Option Kind := (s.kinds.find? fun e => decide (e.1 = code)).map Prod.snd

/-- The thickness of a kind; 0 for an undefined one (R15). -/
def State.thickness (s : State) (code : Nat) : Nat := ((s.kind code).map Kind.thickness).getD 0

/-- The material of a kind; 0 for an undefined one (R15). -/
def State.material (s : State) (code : Nat) : Nat := ((s.kind code).map Kind.material).getD 0

/-- The table with one kind undefined. -/
def removeKind (code : Nat) (t : List (Nat × Kind)) : List (Nat × Kind) := t.filter fun e => decide (e.1 ≠ code)

/-- The table with one kind defined; the codes stay in rising order. -/
def insertKind (code : Nat) (k : Kind) : List (Nat × Kind) → List (Nat × Kind)
  | [] => [(code, k)]
  | e :: t =>
    if code < e.1 then (code, k) :: e :: t
    else if e.1 = code then (code, k) :: t
    else e :: insertKind code k t

/-- The table with one entry written (R18). -/
def writeKind (code : Nat) (k : Option Kind) (t : List (Nat × Kind)) : List (Nat × Kind) :=
  match k with
  | some k => insertKind code k t
  | none => removeKind code t

/-! ## Slots -/

/-- A slot record that holds nothing (R36). -/
def emptySlot : Slot := ⟨[], false, none⟩

/-- The record of a slot; an empty one for a number that names no slot. -/
def State.slot (s : State) (n : Nat) : Slot := s.slots.getD n emptySlot

/-- Replaces a slot's record; a number that names no slot changes nothing. -/
def State.setSlot (s : State) (n : Nat) (r : Slot) : State := { s with slots := s.slots.set n r }

/-- The slot numbers 0 to slot_count − 1 (R23). -/
def State.slotNumbers (s : State) : List Nat := List.range s.slots.length

/-- The top panel of a slot (R23). -/
def Slot.top (r : Slot) : Option Panel := r.stack.getLast?

/-- The sum of the thicknesses of panels (R23). -/
def State.heightOf (s : State) (ps : List Panel) : Nat := (ps.map fun p => s.thickness p.kind).sum

/-- The height of a slot's stack (R23, R15). -/
def State.height (s : State) (n : Nat) : Nat := s.heightOf (s.slot n).stack

/-- A slot has room for a panel of a kind (R24). -/
def State.hasRoomFor (s : State) (n kind : Nat) : Bool :=
  decide ((s.slot n).stack.length < 40 ∧ s.height n + s.thickness kind ≤ s.geom.maxStackHeight)

/-- The number of suspect slots (R27). -/
def State.suspectCount (s : State) : Nat := (s.slots.filter Slot.suspect).length

/-! ## Panels and the pool -/

/-- The panel a gantry carries or that its fault record holds (R20). -/
def GantryRecord.panels (r : GantryRecord) : List Panel :=
  r.carried.toList ++ (r.fault.bind FaultRecord.panel).toList

/-- Every LIVE panel of the cell (R20). -/
def State.livePanels (s : State) : List Panel :=
  s.slots.flatMap Slot.stack ++ s.gantries.west.panels ++ s.gantries.east.panels

/-- The pool records that are BLANK (R20). -/
def State.blanks (s : State) : List Nat :=
  (s.gantries.west.task.bind Task.blank).toList ++ (s.gantries.east.task.bind Task.blank).toList

/-- How many records the pool has (R20). -/
def poolSize : Nat := 4096

/-- The number of FREE records (R20). -/
def State.freeCount (s : State) : Nat := (poolSize - s.free.fresh) + s.free.returned.length

/-- The record at the head of the free list; 0 when the list is empty, which R21 says is never met. -/
def FreeList.head (f : FreeList) : Nat := if f.fresh < poolSize then f.fresh else f.returned.headD 0

/-- The free list without its head (R20). -/
def FreeList.tail (f : FreeList) : FreeList :=
  if f.fresh < poolSize then { f with fresh := f.fresh + 1 } else { f with returned := f.returned.tail }

/-- The free list with a record returned to its tail (R20). -/
def FreeList.return (f : FreeList) (r : Nat) : FreeList := { f with returned := f.returned ++ [r] }

/-- A record is returned to the free list. -/
def State.freeRecord (s : State) (r : Nat) : State := { s with free := s.free.return r }

/-- A list of panels' records are returned to the free list, in order. -/
def State.freePanels (s : State) (ps : List Panel) : State := ps.foldl (fun t p => t.freeRecord p.record) s

/-- The largest serial (R22). -/
def maxSerial : Nat := 16777215

/-- The serial counter steps, from 16,777,215 to 1 (R22). -/
def nextSerial (n : Nat) : Nat := if maxSerial ≤ n then 1 else n + 1

/-- Whether a serial is live (R22). -/
def State.serialLive (s : State) (n : Nat) : Bool := s.livePanels.any fun p => decide (p.serial = n)

/-- The first value from `n` on that is not live, looked for among at most `fuel` values (R22). -/
def State.findSerial (s : State) : Nat → Nat → Nat
  | 0, n => n
  | fuel + 1, n => if s.serialLive n then s.findSerial fuel (nextSerial n) else n

/-- The serial that is assigned next (R22).  At most 4,096 serials are live, so the search ends. -/
def State.serialToGive (s : State) : Nat := s.findSerial (poolSize + 1) s.serialCounter

/-- The serial has been given: the counter is stepped once past it (R22). -/
def State.giveSerial (s : State) : State := { s with serialCounter := nextSerial s.serialToGive }

/-- A record that is taken from the head of the free list, filled and given a serial (R30): the new panel. -/
def State.newPanel (s : State) (kind : Nat) (origin : Origin) (length width : Nat) : Panel :=
  ⟨s.free.head, s.serialToGive, kind, origin, length, width⟩

/-- The state after a record has been taken from the free list and a serial given (R30). -/
def State.takeRecord (s : State) : State := { s.giveSerial with free := s.free.tail }

/-! ## Store changes -/

/-- Whether a gantry's search waits for a store change: its lift is in SOURCE_WAIT, or it is STRANDED (R154, R165). -/
def GantryRecord.waits (r : GantryRecord) : Bool :=
  (decide (r.state = .stranded) && decide (r.task.map Task.phase = some .stranded)) ||
    (decide (r.state = .dwell ∧ r.current = none) && decide (r.task.map Task.phase = some .sourceWait))

/-- A gantry's waiting search is to run again, when it waits. -/
def State.retry (s : State) (g : Gantry) : State :=
  if (s.gantry g).waits then { s with duties := { s.duties with retry := s.duties.retry.set g true } } else s

/-- A store change is passed to Lift Execution (R26): each search that waits at this moment runs again. -/
def State.storeChange (s : State) : State := (s.retry .west).retry .east

/-! ## Claims and suspect slots -/

/-- A claim is taken on a slot that holds none and is not suspect; it is refused otherwise (R25). -/
def State.claim (s : State) (n : Nat) (g : Gantry) (p : Purpose) : State :=
  if (s.slot n).claim = none ∧ (s.slot n).suspect = false then s.setSlot n { s.slot n with claim := some ⟨g, p⟩ } else s

/-- A slot's claim is released; a release is a store change (R26).  A slot without a claim is unchanged. -/
def State.releaseClaim (s : State) (n : Nat) : State :=
  if (s.slot n).claim = none then s else (s.setSlot n { s.slot n with claim := none }).storeChange

/-- The slots that a gantry has claimed. -/
def State.claimedBy (s : State) (g : Gantry) : List Nat :=
  s.slotNumbers.filter fun n => decide ((s.slot n).claim.map Claim.gantry = some g)

/-- Every claim of a gantry is released without a suspect mark (R26). -/
def State.releaseClaims (s : State) (g : Gantry) : State := (s.claimedBy g).foldl State.releaseClaim s

/-- A slot is marked suspect: its claim is released, it becomes the slot most recently marked, and SUSPECT_MARKED
latches in the planner's status record (R27).  The stack is left as it was. -/
def State.markSuspect (s : State) (n : Nat) : State :=
  State.latch { (s.releaseClaim n).setSlot n { (s.releaseClaim n).slot n with suspect := true } with
    lastMarked := some n } .planner .suspectMarked

/-! ## Panels in and out of stacks -/

/-- A panel is laid on top of a slot's stack (R34). -/
def State.lay (s : State) (n : Nat) (p : Panel) : State := s.setSlot n { s.slot n with stack := (s.slot n).stack ++ [p] }

/-- The top panels of a slot's stack are taken away, `count` of them (R31, R33). -/
def State.unlay (s : State) (n count : Nat) : State :=
  s.setSlot n { s.slot n with stack := (s.slot n).stack.take ((s.slot n).stack.length - count) }

end Sys2Proof.Machine
end

