-- ==== Sys2Proof/Machine/Areas.lean ====
section
/-! DEFINITION. The Area Decoder (chapter 3): alignment, containment, and the pick area and put area of a slot. -/

namespace Sys2Proof.Machine

/-- The effective base: the base rounded down to a multiple of 2^k (R39). -/
def effectiveBase (base k : Nat) : Nat := base - base % 2 ^ k

/-- An enabled window contains a slot number within its range (R39). -/
def Window.contains (w : Window) (n : Nat) : Bool :=
  w.enabled && decide (w.base ≤ n ∧ n < w.base + 2 ^ w.k)

/-- The window of an index. -/
def State.window (s : State) (i : Nat) : Window := s.windows.getD i .initial

/-- The index of the pick area of a slot: the enabled window of lowest index that contains it (R40). -/
def State.pickArea (s : State) (n : Nat) : Option Nat := s.windows.findIdx? fun w => w.contains n

/-- The index of the put area of a slot: the enabled window of lowest index that contains it and is not pick_only (R41). -/
def State.putArea (s : State) (n : Nat) : Option Nat := s.windows.findIdx? fun w => w.contains n && !w.pickOnly

/-- Whether a slot has a pick area (R42). -/
def State.hasPickArea (s : State) (n : Nat) : Bool := (s.pickArea n).isSome

/-- The remnant flag of an area, when there is one (R43). -/
def State.areaRemnant (s : State) (a : Option Nat) : Option Bool := a.map fun i => (s.window i).remnant

/-- An area as SLOT_REPLY gives it: the window's index with its remnant flag (TABLE 2.4). -/
def State.areaView (s : State) (a : Option Nat) : Option (Nat × Bool) := a.map fun i => (i, (s.window i).remnant)

/-- The number of slots of the grid within a window's range, whether or not the window is enabled (R47). -/
def windowSlotCount (w : Window) (slotCount : Nat) : Nat := min (w.base + 2 ^ w.k) slotCount - w.base

/-- One window as AREA_REPLY gives it (TABLE 3.4). -/
def State.windowView (s : State) (i : Nat) : WindowView :=
  { index := i, enabled := (s.window i).enabled, base := (s.window i).base,
    grid := if (s.window i).base < s.geom.slotCount then some (s.geom.slotName (s.window i).base) else none,
    k := (s.window i).k, pickOnly := (s.window i).pickOnly, remnant := (s.window i).remnant,
    slotCount := windowSlotCount (s.window i) s.geom.slotCount }

/-- AREA_REPLY (R47). -/
def State.areaReply (s : State) : Reply := .areaReply ((List.range 8).map s.windowView)

end Sys2Proof.Machine
end

