-- ==== Sys2Proof/Machine/Locator.lean ====
section
/-! DEFINITION. The Kind Locator (section 4.4): its sets and ways, the three rank operations (R59), lookup (R60) and the
updates after a scan (R61, R62). -/

namespace Sys2Proof.Machine

/-- The set of a kind (R58). -/
def locatorSet (kind : Nat) : Nat := kind % 32

/-- The tag of a kind within its set (R58). -/
def locatorTag (kind : Nat) : Nat := kind / 32

/-- The tag of a valid way. -/
def Way.tag? : Way → Option Nat
  | .invalid => none
  | .ranked _ t _ => some t
  | .pinned t _ => some t

/-- The slot of a valid way. -/
def Way.slot? : Way → Option Nat
  | .invalid => none
  | .ranked _ _ n => some n
  | .pinned _ n => some n

/-- Whether a way is INVALID. -/
def Way.isInvalid : Way → Bool
  | .invalid => true
  | _ => false

/-- Whether a way is unpinned and valid, that is, ranked. -/
def Way.isRanked : Way → Bool
  | .ranked _ _ _ => true
  | _ => false

/-- Whether a way holds rank 1. -/
def Way.isLeastRecent : Way → Bool
  | .ranked r _ _ => decide (r = 1)
  | _ => false

/-- The number n of unpinned valid ways of a set (R58). -/
def rankedCount (ws : List Way) : Nat := (ws.filter Way.isRanked).length

/-- Every way whose rank is above `r` goes down by one (R59). -/
def Way.lower (r : Nat) : Way → Way
  | .ranked q t n => .ranked (if r < q then q - 1 else q) t n
  | w => w

/-- Raise an unpinned way to most recent, with the given slot (R59). -/
def raiseWay (ws : List Way) (i r tag slot : Nat) : List Way :=
  (ws.map (Way.lower r)).set i (.ranked (rankedCount ws) tag slot)

/-- Remove an unpinned way of rank `r` from the ranks (R59). -/
def removeWay (ws : List Way) (i r : Nat) : List Way := (ws.map (Way.lower r)).set i .invalid

/-- The set of a kind as it stands. -/
def State.locatorWays (s : State) (kind : Nat) : List Way := s.locator.getD (locatorSet kind) []

/-- The state with a kind's set replaced. -/
def State.setLocatorWays (s : State) (kind : Nat) (ws : List Way) : State :=
  { s with locator := s.locator.set (locatorSet kind) ws }

/-- The way that a lookup hits, when it is a hit (R60). -/
def State.lookup (s : State) (kind : Nat) : Option Nat :=
  (s.locatorWays kind).findIdx? fun w => decide (w.tag? = some (locatorTag kind))

/-- The way of an index in a set. -/
def wayAt (ws : List Way) (i : Nat) : Way := ws.getD i .invalid

/-- A set after a verified hit: an unpinned way is raised, a PINNED way is unchanged (R60). -/
def afterVerifiedHit (ws : List Way) (i : Nat) : List Way :=
  match wayAt ws i with
  | .ranked r t n => raiseWay ws i r t n
  | _ => ws

/-- A set after a failed hit and its scan (R61). -/
def afterFailedHit (ws : List Way) (i : Nat) (scan : Option Nat) : List Way :=
  match wayAt ws i, scan with
  | .ranked r t _, some n => raiseWay ws i r t n
  | .ranked r _ _, none => removeWay ws i r
  | .pinned t _, some n => ws.set i (.pinned t n)
  | _, _ => ws

/-- The way an insertion takes: the lowest-numbered INVALID way, else the unpinned way of rank 1 (R62). -/
def insertionWay (ws : List Way) : Option Nat :=
  match ws.findIdx? Way.isInvalid with
  | some i => some i
  | none => ws.findIdx? Way.isLeastRecent

/-- The set in which the way to be inserted into holds no rank any more (R62). -/
def clearedFor (ws : List Way) (i : Nat) : List Way :=
  match wayAt ws i with
  | .ranked r _ _ => removeWay ws i r
  | _ => ws

/-- A set after a miss whose scan chose a slot (R62). -/
def afterMiss (ws : List Way) (pin : Bool) (tag slot : Nat) : List Way :=
  match insertionWay ws with
  | none => ws
  | some i =>
    (clearedFor ws i).set i
      (if pin then .pinned tag slot else .ranked (rankedCount (clearedFor ws i) + 1) tag slot)

/-- A flush makes every way INVALID; the counters and pin mode stand (R65). -/
def State.flushLocator (s : State) : State := { s with locator := emptyLocator }

end Sys2Proof.Machine
end

