-- ==== Sys2Proof/Machine/Selection.lean ====
section
/-! DEFINITION. Source and Destination Selection (chapter 4): reach, the source search of a book entry, and the searches
for a destination.  Each reads the state as it stands when it begins and is taken whole (R50). -/

namespace Sys2Proof.Machine

/-! ## Reach -/

/-- The layout fields of a gantry. -/
def State.gantryGeom (s : State) (g : Gantry) : GantryGeometry := s.geom.gantries.get g

/-- A gantry's position as its record holds it; 0 before the first layout. -/
def State.pos (s : State) (g : Gantry) : Nat := (s.gantry g).position.getD 0

/-- A gantry's reservation; the empty stretch at 0 before the first layout. -/
def State.span (s : State) (g : Gantry) : Span := (s.gantry g).reservation.getD ⟨0, 0⟩

/-- A gantry is immovable while it is OFFLINE, PARKED or FAULTED (R51). -/
def GantryState.immovable : GantryState → Bool
  | .offline | .parked | .faulted => true
  | _ => false

/-- A gantry is in service in every state other than OFFLINE, PARKED and FAULTED (R69). -/
def State.inService (s : State) (g : Gantry) : Bool := !(s.gantry g).state.immovable

/-- Condition 2 of R51 at a position: when the other gantry is immovable, the standing span is clear of its reservation. -/
def State.pastOther (s : State) (g : Gantry) (x : Nat) : Bool :=
  !(s.gantry (otherGantry g)).state.immovable || clearOf g (s.geom.standing g x) (s.span (otherGantry g))

/-- A position is reachable for a gantry by the two conditions of R51. -/
def State.reachableX (s : State) (g : Gantry) (x : Nat) : Bool := (s.gantryGeom g).reaches x && s.pastOther g x

/-- A slot is reachable for a gantry (R51). -/
def State.reachable (s : State) (g : Gantry) (n : Nat) : Bool := s.reachableX g (s.geom.slotX n)

/-! ## Choosing -/

/-- `a` comes strictly before `b` by the first key, and by the second where the first are equal. -/
def keyBefore (a b : Nat × Nat) : Bool := decide (a.1 < b.1 ∨ (a.1 = b.1 ∧ a.2 < b.2))

/-- The number of least key; the earliest in the list among equal keys. -/
def leastBy (key : Nat → Nat × Nat) : List Nat → Option Nat
  | [] => none
  | n :: ns =>
    match leastBy key ns with
    | none => some n
    | some m => if keyBefore (key m) (key n) then some m else some n

/-- Whether a slot is unclaimed. -/
def State.unclaimed (s : State) (n : Nat) : Bool := decide ((s.slot n).claim = none)

/-! ## The source of a book entry -/

/-- A slot is an eligible source for a kind, for a gantry (R52). -/
def State.eligible (s : State) (g : Gantry) (kind n : Nat) : Bool :=
  s.reachable g n && s.hasPickArea n && !(s.slot n).suspect &&
    ((s.slot n).top.any fun p => decide (p.origin = .raw ∧ p.kind = kind))

/-- A slot is a remnant candidate for a kind and required dimensions, for a gantry (R54). -/
def State.remnantCandidate (s : State) (g : Gantry) (kind length width n : Nat) : Bool :=
  s.reachable g n && decide (s.areaRemnant (s.pickArea n) = some true) && !(s.slot n).suspect &&
    ((s.slot n).top.any fun p =>
      decide (p.origin = .remnant ∧ s.material p.kind = s.material kind ∧ s.thickness p.kind = s.thickness kind ∧
        length ≤ p.length ∧ width ≤ p.width))

/-- The area, length × width, of the top panel of a slot (R54). -/
def State.topArea (s : State) (n : Nat) : Nat := ((s.slot n).top.map fun p => p.length * p.width).getD 0

/-- The required dimensions that the remnant search of an entry looks for, when it is taken (R53, step 1). -/
def State.remnantRequirement (s : State) (w : Saw) (e : BookEntry) : Option (Nat × Nat) :=
  if (s.saw w).settings.remnantAllowed then e.required else none

/-- The remnant candidates of an entry; none when step 1 is not taken. -/
def State.remnantCandidates (s : State) (g : Gantry) (w : Saw) (e : BookEntry) : List Nat :=
  match s.remnantRequirement w e with
  | some (l, b) => s.slotNumbers.filter (s.remnantCandidate g e.kind l b)
  | none => []

/-- The remnant search (R54): the smallest area, then the smallest distance to the infeed, then the lowest number. -/
def State.remnantSearch (s : State) (g : Gantry) (w : Saw) (e : BookEntry) : Option Nat :=
  leastBy (fun n => (s.topArea n, distance (s.geom.slotX n) (s.geom.sawPlace w).infeedX))
    ((s.remnantCandidates g w e).filter s.unclaimed)

/-- The eligible sources of a kind. -/
def State.sources (s : State) (g : Gantry) (kind : Nat) : List Nat := s.slotNumbers.filter (s.eligible g kind)

/-- The scan (R56): the smallest distance to the infeed, then the lowest number. -/
def State.scan (s : State) (g : Gantry) (w : Saw) (kind : Nat) : Option Nat :=
  leastBy (fun n => (distance (s.geom.slotX n) (s.geom.sawPlace w).infeedX, 0)) ((s.sources g kind).filter s.unclaimed)

/-- A hit's slot is verified: an eligible source of the kind for the gantry, and unclaimed (R55). -/
def State.verified (s : State) (g : Gantry) (kind n : Nat) : Bool :=
  decide (n < s.slots.length) && s.eligible g kind n && s.unclaimed n

/-- The result of a source search (R53, R57). -/
inductive SourceResult where
  | slot (n : Nat)
  | wait
  | none
  deriving DecidableEq, Repr

/-- WAIT when a claimed slot would have been chosen, NONE otherwise (R57). -/
def State.waitOrNone (s : State) (g : Gantry) (w : Saw) (e : BookEntry) : SourceResult :=
  if ((s.remnantCandidates g w e ++ s.sources g e.kind).any fun n => !s.unclaimed n) then .wait else .none

/-- What a slot or no slot comes to as the result of a search. -/
def State.resultOf (s : State) (g : Gantry) (w : Saw) (e : BookEntry) : Option Nat → SourceResult
  | some n => .slot n
  | none => s.waitOrNone g w e

/-- Step 2 and step 3 of the source search (R55, R56), with the Kind Locator's counters and updates (R60 to R62): the
result, and the state with the locator updated. -/
def State.locatorStep (s : State) (g : Gantry) (w : Saw) (e : BookEntry) : SourceResult × State :=
  match s.lookup e.kind with
  | some i =>
    match (wayAt (s.locatorWays e.kind) i).slot? with
    | some n =>
      if s.verified g e.kind n then
        (.slot n, { s.setLocatorWays e.kind (afterVerifiedHit (s.locatorWays e.kind) i) with
          verifiedHits := s.verifiedHits.step })
      else
        (s.resultOf g w e (s.scan g w e.kind),
          { s.setLocatorWays e.kind (afterFailedHit (s.locatorWays e.kind) i (s.scan g w e.kind)) with
            failedHits := s.failedHits.step })
    | none => (s.resultOf g w e (s.scan g w e.kind), s)
  | none =>
    (s.resultOf g w e (s.scan g w e.kind),
      { (match s.scan g w e.kind with
          | some n => s.setLocatorWays e.kind (afterMiss (s.locatorWays e.kind) s.pinMode (locatorTag e.kind) n)
          | none => s) with
        misses := s.misses.step })

/-- The source search of an entry of a book of a saw, for a gantry (R53).  A chosen slot is claimed for PICK. -/
def State.sourceSearch (s : State) (g : Gantry) (w : Saw) (e : BookEntry) : SourceResult × State :=
  match s.remnantSearch g w e with
  | some n => (.slot n, s.claim n g .pick)
  | none =>
    match (s.locatorStep g w e).1 with
    | .slot n => (.slot n, (s.locatorStep g w e).2.claim n g .pick)
    | r => (r, (s.locatorStep g w e).2)

/-! ## Destinations -/

/-- A slot is a remnant-return candidate for a kind offered by a saw, for a gantry (R67). -/
def State.remnantReturnCandidate (s : State) (g : Gantry) (w : Saw) (kind n : Nat) : Bool :=
  (s.gantryGeom g).reaches (s.geom.sawPlace w).outfeedX && s.reachable g n &&
    decide (s.areaRemnant (s.putArea n) = some true) && !(s.slot n).suspect && s.unclaimed n && s.hasRoomFor n kind

/-- The candidates of a remnant return. -/
def State.remnantReturnCandidates (s : State) (g : Gantry) (w : Saw) (kind : Nat) : List Nat :=
  s.slotNumbers.filter (s.remnantReturnCandidate g w kind)

/-- The tier of a candidate: 0 for the first, 1 for the second (R68). -/
def State.tier (s : State) (kind n : Nat) : Nat :=
  if ((s.slot n).top.any fun p => decide (s.material p.kind = s.material kind ∧ s.thickness p.kind = s.thickness kind))
  then 0 else 1

/-- The remnant-return search (R68): the tier, then the distance to the outfeed, then the lowest number. -/
def State.remnantReturnSearch (s : State) (g : Gantry) (w : Saw) (kind : Nat) : Option Nat :=
  leastBy (fun n => (s.tier kind n, distance (s.geom.slotX n) (s.geom.sawPlace w).outfeedX))
    (s.remnantReturnCandidates g w kind)

/-- The destination test for one gantry (R69). -/
def State.destinationTest (s : State) (g : Gantry) (w : Saw) (kind : Nat) : Bool :=
  !(s.remnantReturnCandidates g w kind).isEmpty

/-- The destination test for every gantry in service (R69). -/
def State.destinationTestAll (s : State) (w : Saw) (kind : Nat) : Bool :=
  (s.inService .west && s.destinationTest .west w kind) || (s.inService .east && s.destinationTest .east w kind)

/-- The conditions that every destination of a panel return meets (R70, R71). -/
def State.putSound (s : State) (g : Gantry) (kind n : Nat) : Bool :=
  decide (n < s.slots.length) && s.reachable g n && !(s.slot n).suspect && s.unclaimed n && s.hasRoomFor n kind

/-- A slot is a candidate of the panel-return search after the source slot (R71). -/
def State.returnCandidate (s : State) (g : Gantry) (p : Panel) (n : Nat) : Bool :=
  s.putSound g p.kind n && decide (s.areaRemnant (s.putArea n) = some (decide (p.origin = .remnant)))

/-- The panel-return search for a panel with a source slot or none (R70, R71). -/
def State.returnSearch (s : State) (g : Gantry) (p : Panel) (source : Option Nat) : Option Nat :=
  match source.filter fun n => s.hasPickArea n && s.putSound g p.kind n with
  | some n => some n
  | none =>
    leastBy (fun n => (distance (s.geom.slotX n) (s.pos g), 0)) (s.slotNumbers.filter (s.returnCandidate g p))

end Sys2Proof.Machine
end

