-- ==== Sys2Proof/Machine/Runway.lean ====
section
/-! DEFINITION. The Runway Reservation Unit (chapter 5) and the issue of steps (section 6.4): travel time, limits, dwell,
grants, yields and crossing conflicts.  A step that is not granted because its way is blocked by an immovable gantry is
handed back with the answer true: what follows is Lift Execution's matter (R79, R87). -/

namespace Sys2Proof.Machine

/-! ## Travel time, limit and dwell -/

/-- The largest whole number u below 2^32 with u² × A < 4,000,000 × d, built bit by bit from the highest. -/
def largestBelow (d a : Nat) : List Nat → Nat → Nat
  | [], u => u
  | b :: bs, u => largestBelow d a bs (if (u + 2 ^ b) * (u + 2 ^ b) * a < 4000000 * d then u + 2 ^ b else u)

/-- The bit places 31 to 0. -/
def bitPlaces : List Nat := (List.range 32).reverse

/-- The smallest whole number t with t² × A ≥ 4,000,000 × d, for d above 0 (R91, the short case). -/
def shortTime (d a : Nat) : Nat := largestBelow d a bitPlaces 0 + 1

/-- The travel time over a distance, in ms (R91). -/
def travelTime (d v a : Nat) : Nat :=
  if d = 0 then 0
  else if v * v ≤ d * a then ceilDiv (1000 * d) v + ceilDiv (1000 * v) a
  else shortTime d a

/-- The handling time of a step kind (R92). -/
def GantryGeometry.handling (g : GantryGeometry) : StepKind → Nat
  | .travelPick => g.pickTime
  | .travelPut | .place => g.placeTime
  | .travelHover | .travelOnly => 0

/-- The limit of a step over a distance (R92). -/
def Layout.stepLimit (l : Layout) (g : Gantry) (kind : StepKind) (d : Nat) : Nat :=
  min 600000
    (ceilDiv (3 * (travelTime d (l.gantries.get g).vmax (l.gantries.get g).accel + (l.gantries.get g).handling kind)) 2
      + l.overrunSlack)

/-- The direction of a travel; none for a travel of length 0 (R93). -/
def travelDirection (a b : Nat) : Option Direction :=
  if a < b then some .east else if b < a then some .west else none

/-- The saw's offer that a gantry's remnant return holds (R166). -/
def State.offerOf (s : State) (g : Gantry) (w : Saw) : Option Offer :=
  (s.saw w).offers.find? fun o => decide (o.state = .inProgress g)

/-- The kind of the panel that a pick's STEP_ORDER names: the source slot's top panel, or the offer's kind (R93). -/
def State.pickKind (s : State) (g : Gantry) (step : Step) : Option Nat :=
  match step.slot, step.saw with
  | some n, _ => (s.slot n).top.map Panel.kind
  | none, some w => (s.offerOf g w).map Offer.kind
  | none, none => none

/-- dwell_reverse when the step travels against the last travel direction, 0 otherwise (R93). -/
def State.reverseDwell (s : State) (g : Gantry) (step : Step) : Nat :=
  match travelDirection (s.pos g) step.target, (s.gantry g).lastDirection with
  | some d, some l => if d = l then 0 else s.geom.dwellReverse
  | _, _ => 0

/-- dwell_head when the step picks a panel of a material other than the last, 0 otherwise (R93). -/
def State.headDwell (s : State) (g : Gantry) (step : Step) : Nat :=
  match decide (step.kind = .travelPick), s.pickKind g step, (s.gantry g).lastMaterial with
  | true, some k, some m => if s.material k = m then 0 else s.geom.dwellHead
  | _, _, _ => 0

/-- The dwell due for a step (R93). -/
def State.dwellDue (s : State) (g : Gantry) (step : Step) : Nat := max (s.reverseDwell g step) (s.headDwell g step)

/-- The dwell a step still owes, measured from the gantry's last completion (R94, R177). -/
def State.dwellOwed (s : State) (g : Gantry) (step : Step) : Option Moment :=
  match (s.gantry g).lastCompletion with
  | some t => if elapsed s.clock t < s.dwellDue g step then some ⟨t, s.dwellDue g step⟩ else none
  | none => none

/-! ## STEP_ORDER -/

/-- The book a gantry assembles: the record of its task's saw and tag (R127). -/
def State.bookOf (s : State) (w : Saw) (tag : Word) : Option Book :=
  (s.saw w).books.find? fun b => decide (b.tag = tag ∧ b.state = .assembling)

/-- The sum of the thicknesses of a book's panels already placed: of its entries 1 to the placed count (TABLE 6.4).  A
remnant that served an entry has the thickness of the entry's kind (R54). -/
def State.placedHeight (s : State) (g : Gantry) : Nat :=
  match (s.gantry g).task.map Task.kind with
  | some (.book w tag) =>
    ((s.bookOf w tag).map fun b => ((b.entries.take b.placed.length).map fun e => s.thickness e.kind).sum).getD 0
  | _ => 0

/-- The thickness of the panel a gantry carries, or 0. -/
def State.carriedThickness (s : State) (g : Gantry) : Nat :=
  ((s.gantry g).carried.map fun p => s.thickness p.kind).getD 0

/-- The serial of the panel a gantry carries, or 0. -/
def State.carriedSerial (s : State) (g : Gantry) : Nat := ((s.gantry g).carried.map Panel.serial).getD 0

/-- The table_y of a step's saw. -/
def State.stepTableY (s : State) (step : Step) : Nat := (step.saw.map fun w => (s.geom.sawPlace w).tableY).getD 0

/-- The STEP_ORDER of a step at its issue (R104, TABLE 6.4). -/
def State.stepOrder (s : State) (g : Gantry) (step : Step) (token : BitVec 8) : StepOrder :=
  match step.kind, step.slot with
  | .travelPick, some n =>
    { kind := .travelPick, token := token, marker := .slot, targetX := step.target, targetY := s.geom.slotY n,
      slot := some (s.geom.slotName n), height := s.height n,
      thickness := ((s.slot n).top.map fun p => s.thickness p.kind).getD 0,
      serial := ((s.slot n).top.map Panel.serial).getD 0 }
  | .travelPick, none =>
    { kind := .travelPick, token := token, marker := .outfeed, targetX := step.target, targetY := s.stepTableY step,
      slot := none, height := 0, thickness := ((s.pickKind g step).map s.thickness).getD 0, serial := 0 }
  | .travelHover, _ =>
    { kind := .travelHover, token := token, marker := .table, targetX := step.target, targetY := s.stepTableY step,
      slot := none, height := 0, thickness := s.carriedThickness g, serial := s.carriedSerial g }
  | .place, _ =>
    { kind := .place, token := token, marker := .table, targetX := step.target, targetY := s.stepTableY step,
      slot := none, height := s.placedHeight g, thickness := s.carriedThickness g, serial := s.carriedSerial g }
  | .travelPut, n =>
    { kind := .travelPut, token := token, marker := .slot, targetX := step.target,
      targetY := (n.map s.geom.slotY).getD 0, slot := n.map s.geom.slotName, height := (n.map s.height).getD 0,
      thickness := s.carriedThickness g, serial := s.carriedSerial g }
  | .travelOnly, _ =>
    { kind := .travelOnly, token := token, marker := .none, targetX := step.target, targetY := 0, slot := none,
      height := 0, thickness := s.carriedThickness g, serial := s.carriedSerial g }

/-! ## Grants -/

/-- A step is issued at its grant (R77, R103): the reservation becomes the granted span, the step takes the next token, the
issue time and the limit, and the STEP_ORDER is placed on the gantry's port. -/
def State.issue (s : State) (g : Gantry) (step : Step) (span : Span) : State :=
  (s.setGantry g
    { s.gantry g with
      state := .stepping
      reservation := some span
      current := some { step with
        request := none
        issued := some ⟨(s.gantry g).nextToken, span, s.clock,
          s.geom.stepLimit g step.kind (distance (s.pos g) step.target)⟩ }
      dwellEnd := none
      nextToken := (s.gantry g).nextToken + 1 }).push (.gantry g)
    (.stepOrder (s.stepOrder g step (s.gantry g).nextToken))

/-- A step waits for its grant with a verdict (R79). -/
def State.await (s : State) (g : Gantry) (step : Step) (span : Span) (v : Verdict) : State :=
  s.setGantry g
    { s.gantry g with
      state := .waitGrant
      current := some { step with request := some ⟨span, v⟩, issued := none }
      dwellEnd := none }

/-- A step dwells before its grant is requested (R94, R101). -/
def State.dwellFor (s : State) (g : Gantry) (step : Step) (m : Moment) : State :=
  s.setGantry g
    { s.gantry g with
      state := .dwell
      current := some { step with request := none, issued := none }
      dwellEnd := some m }

/-- The requested span of a step (R77): the travel span, bounded for a yield on the requester's side by the yielder's
resting span (R82), and the reservation as it stands for a PLACE. -/
def State.requestedSpan (s : State) (g : Gantry) (step : Step) : Span :=
  match step.kind with
  | .place => s.span g
  | .travelOnly =>
    match g with
    | .west => ⟨(s.geom.travel g (s.pos g) step.target).lo, (s.span g).hi⟩
    | .east => ⟨(s.span g).lo, (s.geom.travel g (s.pos g) step.target).hi⟩
  | _ => s.geom.travel g (s.pos g) step.target

/-- Whether a span of a gantry is clear of the other gantry's reservation as it stands (R77). -/
def State.isClear (s : State) (g : Gantry) (span : Span) : Bool := clearOf g span (s.span (otherGantry g))

/-- The grant of a yield is requested (R82).  It is granted at its first request (R83); a span that is not clear, which R83
says is never met, waits. -/
def State.requestYield (s : State) (g : Gantry) (step : Step) (span : Span) : State :=
  if s.isClear g span then s.issue g step span else s.await g step span .waiting

/-- A yield enters the path of every step: dwell, then grant (R82, R101). -/
def State.prepareYield (s : State) (g : Gantry) (step : Step) : State :=
  match s.dwellOwed g step with
  | some m => s.dwellFor g step m
  | none => s.requestYield g step (s.requestedSpan g step)

/-- The yield target that clears a requested span (TABLE 5.4). -/
def State.yieldTarget (s : State) (g : Gantry) (span : Span) : Nat :=
  match g with
  | .west => min (s.pos g) (span.lo - ((s.gantryGeom g).half + s.geom.margin + 1))
  | .east => max (s.pos g) (span.hi + (s.gantryGeom g).half + s.geom.margin + 1)

/-- The TRAVEL_ONLY step of a yield. -/
def yieldStep (target : Nat) : Step := ⟨.travelOnly, target, none, none, none, none⟩

/-- The former state that a yield order records for a blocker that is IDLE or STRANDED (R82). -/
def GantryState.former : GantryState → Option FormerState
  | .idle => some .idle
  | .stranded => some .stranded
  | _ => none

/-- A gantry is ordered to yield before a requested span (R82): its former state is kept, its counter steps, and the yield
is prepared. -/
def State.orderYield (s : State) (g : Gantry) (span : Span) (former : Option FormerState) : State :=
  (s.setGantry g
    { s.gantry g with
      former := former
      yieldsMade := (s.gantry g).yieldsMade.step }).prepareYield g (yieldStep (s.yieldTarget g span))

/-- The requested span of a gantry that waits. -/
def GantryRecord.requestSpan (r : GantryRecord) : Span := ((r.current.bind Step.request).map Request.span).getD ⟨0, 0⟩

/-- The start time of a gantry's task. -/
def State.taskStart (s : State) (g : Gantry) : Time := ((s.gantry g).task.map Task.start).getD 0

/-- The gantry that yields in a crossing conflict: the one whose task started later, the east gantry when the start times
are equal (R85, R177). -/
def State.crossingYielder (s : State) : Gantry :=
  if elapsed s.clock (s.taskStart .west) < elapsed s.clock (s.taskStart .east) then .west else .east

/-- A step set aside keeps neither its request nor an issue (R85). -/
def Step.bare (step : Step) : Step := { step with request := none, issued := none }

/-- A crossing conflict is settled (R85): the yielder's step is set aside and it yields, with no
former state, before the other's request. -/
def State.cross (s : State) (g : Gantry) (step : Step) (span : Span) : State :=
  if s.crossingYielder = g then
    (s.setGantry g { s.gantry g with setAside := some step.bare, current := none, dwellEnd := none }).orderYield g
      (s.gantry (otherGantry g)).requestSpan none
  else
    let t := s.await g step span .crossing
    (t.setGantry (otherGantry g)
      { t.gantry (otherGantry g) with
        setAside := (t.gantry (otherGantry g)).current.map Step.bare, current := none }).orderYield (otherGantry g) span none

/-- A step's requested span is judged against the other gantry's reservation and state (R77, R79).  The answer is true when
the verdict is BLOCKED: the step is withdrawn.  A blocker in WAIT_GRANT whose own request does not overlap the
requester's reservation is about to be granted, and is waited for (R80, R85; log entry 8). -/
def State.judge (s : State) (g : Gantry) (step : Step) (span : Span) : State × Bool :=
  if s.isClear g span then (s.issue g step span, false)
  else
    match (s.gantry (otherGantry g)).state with
    | .idle | .stranded =>
      ((s.await g step span .yielding).orderYield (otherGantry g) span (s.gantry (otherGantry g)).state.former, false)
    | .waitGrant =>
      if clearOf (otherGantry g) (s.gantry (otherGantry g)).requestSpan (s.span g) then
        (s.await g step span .waiting, false)
      else (s.cross g step span, false)
    | .dwell | .stepping | .hoverHold => (s.await g step span .waiting, false)
    | .offline | .parked | .faulted => (s.setGantry g { s.gantry g with current := none, dwellEnd := none }, true)

/-- A grant is requested for a step (R77).  A PLACE is granted without a test; a yield is never blocked (R87). -/
def State.request (s : State) (g : Gantry) (step : Step) (span : Span) : State × Bool :=
  match step.kind with
  | .place => (s.issue g step (s.span g), false)
  | .travelOnly => (s.requestYield g step span, false)
  | _ => s.judge g step span

/-- A step is prepared (R101): it dwells when a dwell is owed, and requests its grant at once otherwise. -/
def State.prepare (s : State) (g : Gantry) (step : Step) : State × Bool :=
  match s.dwellOwed g step with
  | some m => (s.dwellFor g step m, false)
  | none => s.request g step (s.requestedSpan g step)

end Sys2Proof.Machine
end

