-- ==== Sys2Proof/Machine/Saws.lean ====
section
/-! DEFINITION. The Saw Station Unit (chapter 7): hold sets, pacing, the ends of books and offers with their reports. -/

namespace Sys2Proof.Machine

/-! ## Links and holds -/

/-- A saw's link state follows the carrier of its port (TABLE 7.1). -/
def State.sawLinkUp (s : State) (w : Saw) : Bool := (s.port (.saw w)).carrierUp

/-- A gantry's link state follows the carrier of its port (TABLE 6.2). -/
def State.gantryLinkUp (s : State) (g : Gantry) : Bool := (s.port (.gantry g)).carrierUp

/-- The number of a saw's books in a state. -/
def SawRecord.count (r : SawRecord) (b : BookState) : Nat := (r.books.filter fun x => decide (x.state = b)).length

/-- A saw's head book: its oldest QUEUED record (R128). -/
def SawRecord.headBook (r : SawRecord) : Option Book := r.books.find? fun b => decide (b.state = .queued)

/-- A saw's oldest RELEASED record (R135). -/
def SawRecord.oldestReleased (r : SawRecord) : Option Book := r.books.find? fun b => decide (b.state = .released)

/-- Pacing rule k is satisfied: its window is 0, or fewer than k recorded times lie within the last Wk ms (R132). -/
def SawRecord.ruleSatisfied (r : SawRecord) (now : Time) (k w : Nat) : Bool :=
  decide (w = 0) || decide ((r.pacing.filter fun t => withinLast now t w).length < k)

/-- The three pacing rules with their windows (R132). -/
def Settings.rules (c : Settings) : List (Nat × Nat) := [(1, c.w1), (2, c.w2), (3, c.w3)]

/-- The pacing rules that are not satisfied. -/
def SawRecord.unsatisfied (r : SawRecord) (now : Time) : List (Nat × Nat) :=
  r.settings.rules.filter fun k => !r.ruleSatisfied now k.1 k.2

/-- How long it is until an unsatisfied rule k of window w becomes satisfied (R133): until the first moment at which a start
leaves the window and fewer than k starts are left in it.  Where the starts' readings lie in their order that moment is
s_k + Wk; after the clock's return it is judged by the readings alone (R177; DEDUCED, log entry 35). -/
def SawRecord.ruleWait (r : SawRecord) (now : Time) (k : Nat × Nat) : Nat :=
  (((r.pacing.map fun t => elapsed (t + BitVec.ofNat 32 k.2) now).filter fun d =>
    r.ruleSatisfied (now + BitVec.ofNat 32 d) k.1 k.2).min?).getD 0

/-- The pacing end, scheduled from now: the latest of the moments at which the rules not satisfied become so; absent when
every rule is satisfied (R133). -/
def SawRecord.pacingEndAt (r : SawRecord) (now : Time) : Option Moment :=
  ((r.unsatisfied now).map (r.ruleWait now)).max?.map fun d => ⟨now, d⟩

/-- The saw record with its pacing end recomputed (R133). -/
def SawRecord.repaced (r : SawRecord) (now : Time) : SawRecord := { r with pacingEnd := r.pacingEndAt now }

/-- A start time joins the pacing list, of which the last three are kept (R132). -/
def recordStart (ts : List Time) (t : Time) : List Time := (ts ++ [t]).drop ((ts ++ [t]).length - 3)

/-- A gantry can reach a saw's infeed (R131). -/
def State.canReachInfeed (s : State) (w : Saw) (g : Gantry) : Bool :=
  s.inService g && s.reachableX g (s.geom.sawPlace w).infeedX

/-- Whether a hold source is active for a saw (TABLE 7.7). -/
def State.holdActive (s : State) (w : Saw) : HoldSource → Bool
  | .disabled => !(s.saw w).settings.enabled
  | .halt => decide (s.cell = .halted)
  | .backlog => decide ((s.saw w).settings.backlogLimit ≤ (s.saw w).count .released)
  | .pacing => !((s.saw w).unsatisfied s.clock).isEmpty
  | .linkDown => !s.sawLinkUp w
  | .noGantry => !(s.canReachInfeed w .west) && !(s.canReachInfeed w .east)

/-- The hold sources in the order of TABLE 7.7. -/
def HoldSource.all : List HoldSource := [.disabled, .halt, .backlog, .pacing, .linkDown, .noGantry]

/-- The hold set of a saw; an absent saw holds no hold source (R131, R9).  While no layout is active every saw counts as absent, so
the set that STATUS_QUERY shows is empty (DESIGN CHOICE, log entry 38). -/
def State.holdSet (s : State) (w : Saw) : List HoldSource :=
  if s.sawPresent w then HoldSource.all.filter (s.holdActive w) else []

/-- The table counts as clear only when it is CLEAR and the link is UP (R134). -/
def State.tableClear (s : State) (w : Saw) : Bool := decide ((s.saw w).table = .clear) && s.sawLinkUp w

/-! ## Timers -/

/-- Whether a saw's timers may run: the saw is present and the cell OPEN or HALTED (R145). -/
def State.timersEnabled (s : State) (w : Saw) : Bool :=
  s.sawPresent w && decide (s.cell = .opened ∨ s.cell = .halted)

/-- The starved timer runs (R145). -/
def State.starvedRuns (s : State) (w : Saw) : Bool :=
  s.timersEnabled w && (s.saw w).settings.enabled && (s.saw w).books.isEmpty

/-- The held timer runs (R145). -/
def State.heldRuns (s : State) (w : Saw) : Bool :=
  s.timersEnabled w && decide ((s.saw w).count .assembling = 0) && decide (0 < (s.saw w).count .queued) &&
    !(s.holdSet w).isEmpty

/-- One millisecond of a saw's timers, under the conditions that held during it (R145, log entry 9). -/
def State.tickTimers (s : State) (w : Saw) : SawRecord :=
  { s.saw w with
    starved := if s.starvedRuns w then (s.saw w).starved.tick else (s.saw w).starved
    held := if s.heldRuns w then (s.saw w).held.tick else (s.saw w).held }

/-! ## Ends of books -/

/-- The records of a book list with the ASSEMBLING record of a tag replaced. -/
def updateAssembling (tag : Word) (f : Book → Book) (bs : List Book) : List Book :=
  bs.map fun b => if b.tag = tag ∧ b.state = .assembling then f b else b

/-- A gantry's book is changed. -/
def State.updateBook (s : State) (w : Saw) (tag : Word) (f : Book → Book) : State :=
  s.setSaw w { s.saw w with books := updateAssembling tag f (s.saw w).books }

/-- The first fault, set when it is absent (R137). -/
def Book.noteFault (b : Book) (c : BookFault) (lift : Nat) : Book :=
  { b with firstFault := b.firstFault.orElse fun _ => some (c, lift) }

/-- The lift index a fault of a book is noted with: 0 for a QUEUED book (R137). -/
def Book.faultLift (b : Book) : Nat := if b.state = .queued then 0 else b.lift

/-- The record of a book that ends aborted with a cause (R137, steps 1 and 2). -/
def Book.endWith (b : Book) (c : BookFault) : Book := { b.noteFault c b.faultLift with endCause := some c }

/-- The BOOK_REPORT of a book that has ended aborted (R138). -/
def Book.abortReport (b : Book) : BookReport := ⟨b.tag, .aborted, b.placed, b.firstFault, b.endCause⟩

/-- A book ends aborted (R137): the aborted counter steps, the BOOK_REPORT goes out, the record leaves the list. -/
def State.abortBook (s : State) (w : Saw) (b : Book) (c : BookFault) : State :=
  (s.setSaw w
    { s.saw w with
      books := (s.saw w).books.filter fun x => decide (x.tag ≠ b.tag)
      aborted := (s.saw w).aborted.step
      lastBookReport := some (b.tag, .aborted) }).push (.saw w) (.bookReport (b.endWith c).abortReport)

/-- A gantry's book ends aborted, as `abortBook`; a book that is not in the list, which is never met, has no end. -/
def State.abortAssembling (s : State) (w : Saw) (tag : Word) (c : BookFault) : State :=
  match s.bookOf w tag with
  | some b => (s.abortBook w b c).opportunity
  | none => s

/-- The record of a released book (R137). -/
def Book.release (b : Book) (now : Time) : Book :=
  { b with state := .released, releaseTime := some now, gantry := none }

/-- A gantry's book ends complete (R137): the record becomes RELEASED, the released counter steps, the BOOK_REPORT goes
out.  The end of an ASSEMBLING book is a dispatch opportunity (R148). -/
def State.releaseBook (s : State) (w : Saw) (tag : Word) : State :=
  match s.bookOf w tag with
  | some b =>
    ((s.setSaw w
      { s.saw w with
        books := updateAssembling tag (fun x => x.release s.clock) (s.saw w).books
        released := (s.saw w).released.step
        lastBookReport := some (tag, .complete) }).push (.saw w)
      (.bookReport ⟨tag, .complete, b.placed, b.firstFault, none⟩)).opportunity
  | none => s

/-! ## Ends of offers -/

/-- The offers of a saw without the one that a gantry holds. -/
def dropOffer (g : Gantry) (os : List Offer) : List Offer := os.filter fun o => decide (o.state ≠ .inProgress g)

/-- A remnant return's offer leaves the saw's list without a report (R168). -/
def State.removeOffer (s : State) (g : Gantry) (w : Saw) : State :=
  s.setSaw w { s.saw w with offers := dropOffer g (s.saw w).offers }

/-- The offer that a gantry holds ends: its OFFER_REPORT is formed and it leaves the list (R141). -/
def State.endOffer (s : State) (g : Gantry) (w : Saw) (outcome : OfferOutcome) (cause : Option BookFault)
    (serial : Nat) (slot : Option SlotName) : State :=
  match s.offerOf g w with
  | some o =>
    (s.setSaw w
      { s.saw w with offers := dropOffer g (s.saw w).offers, lastOfferReport := some outcome }).push (.saw w)
      (.offerReport ⟨o.kind, o.length, o.width, outcome, cause, serial, slot⟩)
  | none => s

end Sys2Proof.Machine
end

