-- ==== Sys2Proof/Machine/Lifts.lean ====
section
/-! DEFINITION. Lift Execution (chapter 8): the lifts of a book, the ends of a book, returns, remnant returns and
stranding.  Each operation takes the step's effects and hands the gantry its next step or its next state. -/

namespace Sys2Proof.Machine

/-! ## Steps -/

/-- The TRAVEL_PICK to a slot (R153). -/
def State.pickStep (s : State) (n : Nat) : Step := ⟨.travelPick, s.geom.slotX n, some n, none, none, none⟩

/-- The TRAVEL_PICK to a saw's outfeed (R166). -/
def State.outfeedStep (s : State) (w : Saw) : Step :=
  ⟨.travelPick, (s.geom.sawPlace w).outfeedX, none, some w, none, none⟩

/-- The TRAVEL_HOVER to a saw's infeed (R155). -/
def State.hoverStep (s : State) (w : Saw) : Step :=
  ⟨.travelHover, (s.geom.sawPlace w).infeedX, none, some w, none, none⟩

/-- The PLACE on a saw's table, at the gantry's position (R157, TABLE 6.4). -/
def State.placeStep (s : State) (g : Gantry) (w : Saw) : Step := ⟨.place, s.pos g, none, some w, none, none⟩

/-- The TRAVEL_PUT to a slot (R163). -/
def State.putStep (s : State) (n : Nat) : Step := ⟨.travelPut, s.geom.slotX n, some n, none, none, none⟩

/-! ## Tasks -/

/-- The saw and the tag of the book a gantry assembles. -/
def State.bookTask (s : State) (g : Gantry) : Option (Saw × Word) :=
  match (s.gantry g).task.map Task.kind with
  | some (.book w tag) => some (w, tag)
  | _ => none

/-- The record of the book a gantry assembles. -/
def State.bookAt (s : State) (g : Gantry) : Option Book := (s.bookTask g).bind fun k => s.bookOf k.1 k.2

/-- The lift record of a gantry's task is changed (TABLE 8.1). -/
def State.updateTask (s : State) (g : Gantry) (f : Task → Task) : State :=
  s.setGantry g { s.gantry g with task := (s.gantry g).task.map f }

/-- The record of the book a gantry assembles is changed (R127). -/
def State.updateBookAt (s : State) (g : Gantry) (f : Book → Book) : State :=
  match s.bookTask g with
  | some (w, tag) => s.updateBook w tag f
  | none => s

/-- Whether the abort of the book a gantry assembles has been requested (R136). -/
def State.abortAsked (s : State) (g : Gantry) : Bool := (s.bookAt g).any Book.abortRequested

/-- A gantry's task ends and the gantry becomes IDLE, a dispatch opportunity (R148). -/
def State.becomeIdle (s : State) (g : Gantry) : State :=
  (s.setGantry g
    { s.gantry g with
      state := .idle
      task := none
      current := none
      setAside := none
      former := none
      dwellEnd := none
      hold := none }).opportunity

/-! ## Returns -/

/-- A gantry becomes STRANDED (R165): GANTRY_STRANDED latches in the planner's status record. -/
def State.strand (s : State) (g : Gantry) : State :=
  State.latch
    (s.setGantry g
      { s.gantry g with
        state := .stranded
        task := (s.gantry g).task.map fun t =>
          { t with phase := .stranded, destination := none, putFailures := 0 }
        current := none
        dwellEnd := none }) .planner .gantryStranded

/-- The slot of a destination search is claimed for PUT and becomes the destination, the phase PUTTING (R163). -/
def State.beginPut (s : State) (g : Gantry) (n : Nat) : State :=
  (s.claim n g .put).updateTask g fun t => { t with phase := .putting, destination := some n }

/-- The claimed destination's TRAVEL_PUT is handed over (R163).  When its way is blocked at once, a further search from the
same state would choose the same slot again for ever: the claim is released and the gantry is STRANDED (DESIGN CHOICE,
log entry 10). -/
def State.putTo (s : State) (g : Gantry) (n : Nat) : State :=
  match (s.beginPut g n).prepare g (s.putStep n) with
  | (t, false) => t
  | (t, true) => (t.releaseClaim n).strand g

/-- The panel-return search for the panel on a gantry's head, from the source slot its lift record holds (R163, R168). -/
def State.putSearch (s : State) (g : Gantry) : Option Nat :=
  match (s.gantry g).carried with
  | some p => s.returnSearch g p ((s.gantry g).task.bind Task.source)
  | none => none

/-- The destination search of a return: the put is handed over, or the gantry is STRANDED (R163, R164). -/
def State.seekPut (s : State) (g : Gantry) : State :=
  match s.putSearch g with
  | some n => s.putTo g n
  | none => s.strand g

/-- A STRANDED gantry searches again; finding nothing it stays STRANDED and latches nothing (R165). -/
def State.seekAgain (s : State) (g : Gantry) : State :=
  match s.putSearch g with
  | some n => s.putTo g n
  | none => s

/-- The task of a return, before its destination is chosen (R163). -/
def returnTask (now : Time) (source : Option Nat) : Task := ⟨.panelReturn, now, .putting, source, none, 0, none⟩

/-- A return begins for the panel on a gantry's head (R163). -/
def State.beginReturn (s : State) (g : Gantry) (source : Option Nat) : State :=
  (s.setGantry g
    { s.gantry g with
      task := some (returnTask s.clock source)
      current := none
      setAside := none
      former := none
      dwellEnd := none
      hold := none }).seekPut g

/-! ## Ends of a book -/

/-- What follows the end of a gantry's book: IDLE with an empty head, a return otherwise (R159, step 3). -/
def State.afterBook (s : State) (g : Gantry) (source : Option Nat) : State :=
  match (s.gantry g).carried with
  | none => s.becomeIdle g
  | some _ => s.beginReturn g source

/-- Lift Execution ends a gantry's book aborted with a cause (R159). -/
def State.endBook (s : State) (g : Gantry) (cause : BookFault) : State :=
  match s.bookTask g with
  | some (w, tag) => (s.abortAssembling w tag cause).afterBook g ((s.gantry g).task.bind Task.source)
  | none => s

/-- The claim that a pick in preparation holds is released without a suspect mark (R153, R160). -/
def State.releasePick (s : State) (g : Gantry) : State :=
  match (s.gantry g).task with
  | some t =>
    match t.phase, t.source with
    | .picking, some n => s.releaseClaim n
    | _, _ => s
  | none => s

/-- The claim on a task's destination is released without a suspect mark (R164, R167). -/
def State.releaseDestination (s : State) (g : Gantry) : State :=
  match (s.gantry g).task.bind Task.destination with
  | some n => s.releaseClaim n
  | none => s

/-- The BLANK record of a gantry's remnant return goes back to FREE (R21). -/
def State.freeBlank (s : State) (g : Gantry) : State :=
  match (s.gantry g).task.bind Task.blank with
  | some r => (s.freeRecord r).updateTask g fun t => { t with blank := none }
  | none => s

/-- The outfeed pickup of a remnant return has missed or is blocked (R167). -/
def State.discardPickup (s : State) (g : Gantry) (w : Saw) (cause : BookFault) : State :=
  ((((s.freeBlank g).releaseDestination g).endOffer g w .discarded (some cause) 0 none)).becomeIdle g

/-! ## Handing over a step -/

/-- RUNWAY_BLOCKED reaches Lift Execution for the withdrawn step of a gantry's task (R87, R159, R164, R167). -/
def State.blocked (s : State) (g : Gantry) : State :=
  match (s.gantry g).task with
  | some t =>
    match t.kind, t.phase with
    | .book _ _, _ => (s.releasePick g).endBook g .runwayBlocked
    | .remnantReturn w, .outfeedPick => s.discardPickup g w .runwayBlocked
    | _, _ => (s.releaseDestination g).seekPut g
  | none => s

/-- A grant has been requested or given up: what the judgement leaves. -/
def State.settleRequest (r : State × Bool) (g : Gantry) : State := if r.2 then r.1.blocked g else r.1

/-- A step is handed to the Gantry Service Unit (R101). -/
def State.handOver (s : State) (g : Gantry) (step : Step) : State := State.settleRequest (s.prepare g step) g

/-! ## The lift of a book -/

/-- The saw of a gantry's book and the entry whose lift is in progress (R153). -/
def State.currentEntry (s : State) (g : Gantry) : Option (Saw × BookEntry) :=
  match s.bookTask g, s.bookAt g with
  | some (w, _), some b => (b.entries[b.lift - 1]?).map fun e => (w, e)
  | _, _ => none

/-- The open wait: DWELL with no dwell end and no current step, in phase SOURCE_WAIT (R102, R153). -/
def State.openWait (s : State) (g : Gantry) : State :=
  s.setGantry g
    { s.gantry g with
      state := .dwell
      current := none
      dwellEnd := none
      task := (s.gantry g).task.map fun t => { t with phase := .sourceWait } }

/-- A chosen and claimed source slot: the phase becomes PICKING and the pick is handed over (R153). -/
def State.pickFrom (s : State) (g : Gantry) (n : Nat) : State :=
  (s.updateTask g fun t => { t with phase := .picking, source := some n }).handOver g (s.pickStep n)

/-- The source search for the current entry, and what follows its result (R153). -/
def State.startLift (s : State) (g : Gantry) : State :=
  match s.currentEntry g with
  | some (w, e) =>
    match s.sourceSearch g w e with
    | (.slot n, t) => t.pickFrom g n
    | (.wait, t) => t.openWait g
    | (.none, t) => t.endBook g .noSource
  | none => s

/-- A panel has come onto a gantry's head at the completion of a pick (R33, R35, R95). -/
def State.takeOnHead (s : State) (g : Gantry) (p : Panel) : State :=
  s.setGantry g { s.gantry g with carried := some p, lastMaterial := some (s.material p.kind) }

/-- The top panel of a slot moves onto a gantry's head and the claim is released: one store change (R33). -/
def State.pickPanel (s : State) (g : Gantry) (n : Nat) : State :=
  match (s.slot n).top with
  | some p => ((s.takeOnHead g p).unlay n 1).releaseClaim n
  | none => s.releaseClaim n

/-- The slot pick of a lift completes OK (R155, R161). -/
def State.pickOk (s : State) (g : Gantry) (w : Saw) (n : Nat) : State :=
  if s.abortAsked g then (s.pickPanel g n).endBook g .sawAbort
  else
    ((s.pickPanel g n).updateTask g fun t => { t with phase := .hovering }).handOver g (s.hoverStep w)

/-- The slot pick of a lift completes with PICK_MISS (R156, R161). -/
def State.pickMiss (s : State) (g : Gantry) (n : Nat) : State :=
  let t := (s.markSuspect n).updateBookAt g fun b => b.noteFault .pickMiss b.lift
  if s.abortAsked g then t.endBook g .sawAbort
  else if (s.bookAt g).any Book.replan then t.endBook g .pickMiss
  else (t.updateBookAt g fun b => { b with replan := true }).startLift g

/-- The PLACE is handed over (R157). -/
def State.beginPlace (s : State) (g : Gantry) (w : Saw) : State :=
  (s.updateTask g fun t => { t with phase := .placing }).handOver g (s.placeStep g w)

/-- A gantry enters HOVER_HOLD over a saw's table, until hover_limit from now (R119, R157). -/
def State.holdOver (s : State) (g : Gantry) (w : Saw) : State :=
  s.setGantry g
    { s.gantry g with
      state := .hoverHold
      hold := some ⟨w, ⟨s.clock, s.geom.hoverLimit⟩⟩
      task := (s.gantry g).task.map fun t => { t with phase := .holding } }

/-- The TRAVEL_HOVER of a lift completes (R157, R161). -/
def State.hoverDone (s : State) (g : Gantry) (w : Saw) : State :=
  if s.abortAsked g then s.endBook g .sawAbort
  else if s.tableClear w then s.beginPlace g w
  else s.holdOver g w

/-- The placed panel leaves the cell, and the book and the saw count it (R158, steps 1 and 2; R35). -/
def State.placePanel (s : State) (g : Gantry) (w : Saw) (p : Panel) : State :=
  let t := ((s.freeRecord p.record).setGantry g { s.gantry g with carried := none }).updateBookAt g fun b =>
    { b with placed := b.placed ++ [p.serial] }
  t.setSaw w { t.saw w with panelsPlaced := (t.saw w).panelsPlaced.step }

/-- The next lift of a book begins (R158, step 4). -/
def State.nextLift (s : State) (g : Gantry) : State :=
  ((s.updateBookAt g fun b => { b with lift := b.lift + 1, replan := false }).updateTask g fun t =>
    { t with source := none, phase := .sourceWait }).startLift g

/-- Whether a gantry's book has an entry after the one in progress (R158). -/
def State.moreEntries (s : State) (g : Gantry) : Bool := (s.bookAt g).any fun b => decide (b.lift < b.entries.length)

/-- A gantry's book is released (R158, step 5). -/
def State.finishBook (s : State) (g : Gantry) : State :=
  match s.bookTask g with
  | some (w, tag) => (s.releaseBook w tag).becomeIdle g
  | none => s

/-- The PLACE of a lift completes OK (R158, R161). -/
def State.placeOk (s : State) (g : Gantry) (w : Saw) : State :=
  match (s.gantry g).carried with
  | some p =>
    if s.abortAsked g then (s.placePanel g w p).endBook g .sawAbort
    else if s.moreEntries g then (s.placePanel g w p).nextLift g
    else (s.placePanel g w p).finishBook g
  | none => s

/-- The PLACE of a lift completes with PLACE_FAIL (R159, R161). -/
def State.placeFail (s : State) (g : Gantry) : State :=
  s.endBook g (if s.abortAsked g then .sawAbort else .placeFail)

/-! ## Puts -/

/-- What a put that completes OK on a slot ends: a remnant return is STORED (R168), a return ends with no report (R163). -/
def State.putEnds (s : State) (g : Gantry) (n serial : Nat) : State :=
  match (s.gantry g).task.map Task.kind with
  | some (.remnantReturn w) => s.endOffer g w .stored none serial (some (s.geom.slotName n))
  | _ => s

/-- A TRAVEL_PUT completes OK (R34, R163, R168). -/
def State.putOk (s : State) (g : Gantry) (n : Nat) : State :=
  match (s.gantry g).carried with
  | some p =>
    (((((s.setGantry g { s.gantry g with carried := none }).lay n p).releaseClaim n).putEnds g n p.serial)).becomeIdle g
  | none => s

/-- How many puts of a gantry's task have failed in a row. -/
def State.putFailures (s : State) (g : Gantry) : Nat := ((s.gantry g).task.map Task.putFailures).getD 0

/-- A TRAVEL_PUT completes with PUT_FAIL (R164). -/
def State.putFail (s : State) (g : Gantry) (n : Nat) : State :=
  if s.putFailures g = 0 then
    ((s.markSuspect n).updateTask g fun t => { t with putFailures := 1, destination := none }).seekPut g
  else (s.markSuspect n).strand g

/-! ## Remnant returns -/

/-- The panel that the BLANK record of a remnant return becomes (R35). -/
def State.offcut (s : State) (record : Nat) (o : Offer) : Panel :=
  ⟨record, s.serialToGive, o.kind, .remnant, o.length, o.width⟩

/-- The outfeed pickup of a remnant return completes OK (R167, R35). -/
def State.pickupOk (s : State) (g : Gantry) (w : Saw) : State :=
  match s.offerOf g w, (s.gantry g).task.bind Task.blank, (s.gantry g).task.bind Task.destination with
  | some o, some r, some n =>
    ((s.giveSerial.takeOnHead g (s.offcut r o)).updateTask g fun t => { t with blank := none, phase := .putting }).handOver g
      (s.putStep n)
  | _, _, _ => s

/-! ## Yields -/

/-- A yield completes: the yielder returns to its former state, takes its set-aside step back, or goes on to what the end
of its task calls for (R84, R86, R162). -/
def State.yieldDone (s : State) (g : Gantry) : State :=
  match (s.gantry g).former, (s.gantry g).setAside with
  | some .idle, _ => s.becomeIdle g
  | some .stranded, _ => (s.setGantry g { s.gantry g with state := .stranded, former := none }).seekAgain g
  | none, some step => (s.setGantry g { s.gantry g with setAside := none }).handOver g step
  | none, none => s.afterBook g ((s.gantry g).task.bind Task.source)

/-! ## Completion -/

/-- Lift Execution takes the outcome of a completed step (R106, step 4; the mapping of R107 is that every outcome but OK
counts as the step's own failure, and that a travel without handling cannot fail). -/
def State.stepCompleted (s : State) (g : Gantry) (step : Step) (ok : Bool) : State :=
  match step.kind, step.slot, step.saw, ok with
  | .travelPick, some n, _, true => s.pickOk g (((s.bookTask g).map Prod.fst).getD .saw1) n
  | .travelPick, some n, _, false => s.pickMiss g n
  | .travelPick, none, some w, true => s.pickupOk g w
  | .travelPick, none, some w, false => s.discardPickup g w .pickMiss
  | .travelHover, _, some w, _ => s.hoverDone g w
  | .place, _, some w, true => s.placeOk g w
  | .place, _, some _, false => s.placeFail g
  | .travelPut, some n, _, true => s.putOk g n
  | .travelPut, some n, _, false => s.putFail g n
  | .travelOnly, _, _, _ => s.yieldDone g
  | _, _, _, _ => s

/-! ## Aborts -/

/-- A book's abort is taken while its step is set aside (R162).  A panel on the head keeps a return task through the yield
(DEDUCED, log entry 11); the return itself begins when the yield completes. -/
def State.abortDuringYield (s : State) (g : Gantry) (w : Saw) (tag : Word) : State :=
  let t := (s.releasePick g).abortAssembling w tag .sawAbort
  t.setGantry g
    { t.gantry g with
      setAside := none
      task := (t.gantry g).carried.map fun _ => returnTask t.clock ((t.gantry g).task.bind Task.source) }

/-- Lift Execution acts on the requested abort of a gantry's book (R160). -/
def State.actOnAbort (s : State) (g : Gantry) : State :=
  match s.bookTask g with
  | some (w, tag) =>
    if (s.gantry g).setAside.isSome then s.abortDuringYield g w tag
    else if (s.gantry g).state = .stepping then s
    else (s.releasePick g).endBook g .sawAbort
  | none => s

end Sys2Proof.Machine
end

