-- ==== Sys2Proof/Machine/Faults.lean ====
section
/-! DEFINITION. What becoming FAULTED does (R88, R110, R111, R169), and the second cause of a fault record (R111). -/

namespace Sys2Proof.Machine

/-- The outstanding step as the fault record holds it (R111); none when no step is outstanding. -/
def GantryRecord.faultStep (r : GantryRecord) : Option FaultStep :=
  r.current.bind fun c => c.issued.map fun i => ⟨c.kind, i.token, i.time, c.slot⟩

/-- The fault record of a gantry that becomes FAULTED now (R111). -/
def State.faultRecord (s : State) (g : Gantry) (cause : FaultCause) (subCode : BitVec 8) : FaultRecord :=
  { cause := cause, subCode := subCode, time := s.clock, state := (s.gantry g).state, step := (s.gantry g).faultStep,
    panel := (s.gantry g).carried, task := (s.gantry g).task.map Task.kind, span := (s.gantry g).reservation,
    second := none }

/-- The record of a gantry that has become FAULTED (R110): its reservation is frozen as it stands (R88), and it holds no
step, no panel and no task. -/
def GantryRecord.faulted (r : GantryRecord) (f : FaultRecord) : GantryRecord :=
  { r with
    state := .faulted
    frozen := true
    carried := none
    task := none
    current := none
    setAside := none
    former := none
    dwellEnd := none
    hold := none
    fault := some f }

/-- The slot of an outstanding slot pick, which the fault makes suspect (R27, R110). -/
def GantryRecord.pickedSlot (r : GantryRecord) : Option Nat :=
  r.current.bind fun c => if c.kind = .travelPick ∧ c.issued.isSome then c.slot else none

/-- A slot is marked suspect, when there is one. -/
def State.markSuspectOpt (s : State) (n : Option Nat) : State :=
  match n with
  | some n => s.markSuspect n
  | none => s

/-- A pool record that was BLANK goes back to FREE, when there is one (R21). -/
def State.freeRecordOpt (s : State) (r : Option Nat) : State :=
  match r with
  | some r => s.freeRecord r
  | none => s

/-- The task of a gantry that has become FAULTED ends with its report (R169): `serial` is the serial of the panel that was
on the head, or 0. -/
def State.endFaultedTask (s : State) (g : Gantry) (kind : Option TaskKind) (serial : Nat) : State :=
  match kind with
  | some (.book w tag) => s.abortAssembling w tag .gantryFault
  | some (.remnantReturn w) => s.endOffer g w .discarded (some .gantryFault) serial none
  | _ => s

/-- SERVICE_CHANGED latches on the gantry's port, unless the controller itself reported the fault (R122). -/
def State.latchService (s : State) (g : Gantry) (cause : FaultCause) : State :=
  if cause = .driveFault then s else s.latch (.gantry g) .serviceChanged

/-- A gantry becomes FAULTED (R110).  A silent fault, that of CELL_RESET, ends the task with no report (R118). -/
def State.becomeFaulted (s : State) (g : Gantry) (cause : FaultCause) (subCode : BitVec 8) (silent : Bool) : State :=
  let r := s.gantry g
  let frozen := s.setGantry g (r.faulted (s.faultRecord g cause subCode))
  let disposed := (((frozen.markSuspectOpt r.pickedSlot).releaseClaims g).freeRecordOpt (r.task.bind Task.blank))
  let ended := if silent then disposed
    else disposed.endFaultedTask g (r.task.map Task.kind) ((r.carried.map Panel.serial).getD 0)
  ((ended.latch .planner .gantryFaulted).latchService g cause).dropStepOrder g

/-- A second cause reaches a FAULTED gantry (R111): the first one is recorded with its time and latches GANTRY_FAULTED
again; a later one changes nothing. -/
def State.secondCause (s : State) (g : Gantry) (cause : FaultCause) : State :=
  match (s.gantry g).fault with
  | some f =>
    if f.second = none then
      (s.setGantry g { s.gantry g with fault := some { f with second := some ⟨cause, s.clock⟩ } }).latch .planner
        .gantryFaulted
    else s
  | none => s

end Sys2Proof.Machine
end

