-- ==== Sys2Proof/Machine/Dispatcher.lean ====
section
/-! DEFINITION. The Dispatcher (section 8.2): the dispatch pass over the saws, and the starts of books and of remnant
returns (R149 to R152, R166). -/

namespace Sys2Proof.Machine

/-- The work that a saw's turn finds (R150). -/
inductive Work where
  | offer (o : Offer)
  | book (b : Book)
  deriving DecidableEq, Repr

/-- The saws in the order of a pass: from the one after the pointer to the one it names (R149). -/
def sawsAfter : Saw → List Saw
  | .saw1 => [.saw2, .saw3, .saw4, .saw1]
  | .saw2 => [.saw3, .saw4, .saw1, .saw2]
  | .saw3 => [.saw4, .saw1, .saw2, .saw3]
  | .saw4 => [.saw1, .saw2, .saw3, .saw4]

/-- The head offer is offered to an idle gantry (R150, order 1). -/
def State.offerQualifies (s : State) (w : Saw) (o : Offer) (g : Gantry) : Bool :=
  decide (o.state = .waiting) && s.destinationTest g w o.kind && decide (1 ≤ s.freeCount)

/-- The head book is offered to an idle gantry (R150, order 2). -/
def State.bookQualifies (s : State) (w : Saw) (g : Gantry) : Bool :=
  decide (s.cell = .opened ∨ s.cell = .halted) && (s.holdSet w).isEmpty && decide ((s.saw w).count .assembling = 0) &&
    (s.gantryGeom g).reaches (s.geom.sawPlace w).infeedX

/-- Of the idle gantries that a work qualifies for, the one nearer the work; the west gantry when both are as near
(R151). -/
def State.nearest (s : State) (x : Nat) (gs : List Gantry) : Option Gantry :=
  if gs.contains .west then
    if gs.contains .east && decide (distance (s.pos .east) x < distance (s.pos .west) x) then some .east else some .west
  else if gs.contains .east then some .east
  else none

/-- The head offer of a saw, and the gantry it goes to (R150, R151). -/
def State.offerTurn (s : State) (gs : List Gantry) (w : Saw) : Option (Gantry × Saw × Work) :=
  (s.saw w).offers.head?.bind fun o =>
    (s.nearest (s.geom.sawPlace w).outfeedX (gs.filter (s.offerQualifies w o))).map fun g => (g, w, .offer o)

/-- The head book of a saw, and the gantry it goes to (R150, R151). -/
def State.bookTurn (s : State) (gs : List Gantry) (w : Saw) : Option (Gantry × Saw × Work) :=
  (s.saw w).headBook.bind fun b =>
    (s.nearest (s.geom.sawPlace w).infeedX (gs.filter (s.bookQualifies w))).map fun g => (g, w, .book b)

/-- A saw's turn (R149, R150): an absent saw is passed over; the head offer comes before the head book. -/
def State.turn (s : State) (gs : List Gantry) (w : Saw) : Option (Gantry × Saw × Work) :=
  if s.sawPresent w then (s.offerTurn gs w).orElse fun _ => s.bookTurn gs w else none

/-- One round of the saws for some idle gantries: the first turn that yields a task (R149). -/
def State.round (s : State) (gs : List Gantry) : Option (Gantry × Saw × Work) :=
  (sawsAfter s.pointer).findSome? (s.turn gs)

/-- The record of a book that starts on a gantry (R152, step 1). -/
def Book.start (b : Book) (g : Gantry) (now : Time) : Book :=
  { b with state := .assembling, gantry := some g, startTime := some now, lift := 1, replan := false }

/-- A saw's records after a book of it has started (R152, steps 1 and 2). -/
def SawRecord.withStart (r : SawRecord) (tag : Word) (g : Gantry) (now : Time) : SawRecord :=
  SawRecord.repaced { r with
    books := r.books.map fun b => if b.tag = tag ∧ b.state = .queued then b.start g now else b
    pacing := recordStart r.pacing now
    started := r.started.step } now

/-- A gantry takes a task and leaves IDLE (R147). -/
def State.attach (s : State) (g : Gantry) (t : Task) : State :=
  s.setGantry g { s.gantry g with state := .dwell, task := some t }

/-- A saw's head book starts on a gantry (R152). -/
def State.startBook (s : State) (g : Gantry) (w : Saw) (b : Book) : State :=
  ((s.setSaw w ((s.saw w).withStart b.tag g s.clock)).attach g
    ⟨.book w b.tag, s.clock, .sourceWait, none, none, 0, none⟩).startLift g

/-- The head offer becomes IN_PROGRESS, held by a gantry (R166, step 3). -/
def holdOffer (g : Gantry) : List Offer → List Offer
  | [] => []
  | o :: os => { o with state := .inProgress g } :: os

/-- A saw's head offer is given to a gantry (R166). -/
def State.startRemnantReturn (s : State) (g : Gantry) (w : Saw) (o : Offer) : State :=
  match s.remnantReturnSearch g w o.kind with
  | some n =>
    let t := s.claim n g .put
    let u := { t with free := t.free.tail }
    let v := u.setSaw w { u.saw w with offers := holdOffer g (u.saw w).offers }
    (v.attach g ⟨.remnantReturn w, s.clock, .outfeedPick, none, some n, 0, some t.free.head⟩).handOver g
      (v.outfeedStep w)
  | none => s

/-- The task that a turn has yielded is attached, and the pointer takes the saw's number (R149). -/
def State.give (s : State) (g : Gantry) (w : Saw) (k : Work) : State :=
  match k with
  | .offer o => State.startRemnantReturn { s with pointer := w } g w o
  | .book b => State.startBook { s with pointer := w } g w b

/-- The gantries of a list that are IDLE. -/
def State.stillIdle (s : State) (gs : List Gantry) : List Gantry := gs.filter fun g => decide ((s.gantry g).state = .idle)

/-- A round for some idle gantries, and its task attached: the state, and the gantries that remain for a further round
(R149).  The gantry that the round has given its task takes no part in it, also where the task has ended at once and left it IDLE
again: it gets the pass that the task's end prompts (DESIGN CHOICE, log entry 37). -/
def State.dispatchRound (s : State) (gs : List Gantry) : Option (State × List Gantry) :=
  (s.round gs).map fun k =>
    (s.give k.1 k.2.1 k.2.2, (s.give k.1 k.2.1 k.2.2).stillIdle (gs.filter fun g => decide (g ≠ k.1)))

/-- A dispatch pass (R149): a round for the gantries that are IDLE when it begins, and a second one for the gantry that is
left idle by the first. -/
def State.dispatchPass (s : State) : State :=
  match s.dispatchRound (s.stillIdle [.west, .east]) with
  | none => s
  | some (t, gs) =>
    match t.dispatchRound gs with
    | none => t
    | some (u, _) => u

end Sys2Proof.Machine
end

