-- ==== Sys2Proof/Machine/Settle.lean ====
section
/-! DEFINITION. The consequences of an event that follow once the event has been taken whole: searches run again (R154,
R165), waiting requests tested again (R80) and dispatch passes (R148).  Where several are due the manual leaves their
order open, and a free value chooses (log entry 2). -/

namespace Sys2Proof.Machine

/-- A consequence to be taken. -/
inductive Duty where
  | retry (g : Gantry)
  | retest (g : Gantry)
  | dispatch
  deriving DecidableEq, Repr

/-- Every consequence there is. -/
def Duty.all : List Duty := [.retry .west, .retry .east, .retest .west, .retest .east, .dispatch]

/-- Whether a dispatch pass is made: the cell is OPEN or HALTED and a gantry is IDLE (R148). -/
def State.passDue (s : State) : Bool :=
  decide (s.cell = .opened ∨ s.cell = .halted) && !(s.stillIdle [.west, .east]).isEmpty

/-- Whether a consequence is due: it has been prompted, and what it acts on is still there. -/
def State.due (s : State) : Duty → Bool
  | .retry g => s.duties.retry.get g && (s.gantry g).waits
  | .retest g => s.duties.retest.get g && decide ((s.gantry g).state = .waitGrant)
  | .dispatch => s.duties.dispatch && s.passDue

/-- The consequence is no longer to be taken. -/
def Duties.clear (d : Duties) : Duty → Duties
  | .retry g => { d with retry := d.retry.set g false }
  | .retest g => { d with retest := d.retest.set g false }
  | .dispatch => { d with dispatch := false }

/-- A waiting search runs again: a lift's source search, or a STRANDED gantry's destination search (R154, R165). -/
def State.searchAgain (s : State) (g : Gantry) : State :=
  if (s.gantry g).state = .stranded then s.seekAgain g else s.startLift g

/-- A waiting request is tested again (R80). -/
def State.testAgain (s : State) (g : Gantry) : State :=
  match (s.gantry g).current with
  | some step => State.settleRequest (s.request g step (s.gantry g).requestSpan) g
  | none => s

/-- A consequence is taken. -/
def State.take (s : State) (d : Duty) : State :=
  let t := { s with duties := s.duties.clear d }
  match d with
  | .retry g => t.searchAgain g
  | .retest g => t.testAgain g
  | .dispatch => t.dispatchPass

/-- The consequence that is taken next, and the state in which the choice has been made (log entry 2). -/
def State.chooseDuty (s : State) (d : Duty) (ds : List Duty) : Duty × State :=
  match ds with
  | [] => (d, s)
  | _ :: _ =>
    ((d :: ds).getD (Config.freeOrder s.freeNext % (ds.length + 1)) d, { s with freeNext := s.freeNext + 1 })

/-- Consequences are taken until none is due, at most `fuel` of them. -/
def State.settleFor : Nat → State → State
  | 0, s => { s with duties := .none }
  | fuel + 1, s =>
    match Duty.all.filter s.due with
    | [] => { s with duties := .none }
    | d :: ds => State.settleFor fuel ((s.chooseDuty d ds).2.take (s.chooseDuty d ds).1)

/-- The consequences of an event are all taken.  Each pass that starts a task takes a book or an offer from a list that
holds at most 24 of them together, so a thousand consequences are never due (log entry 12). -/
def State.settle (s : State) : State := State.settleFor 1000 s

/-! ## Frames -/

/-- The frame at the head of a port's inbound queue is processed (R189): when the outbound queue has room for every frame of
the reply, the frame leaves the queue, its checks and effects are made and its reply is placed.  Where the room is lacking
the frame waits.  Where another frame stands at the head the command changes nothing (log entry 7). -/
def State.process (s : State) (p : Port) (f : Frame) (handle : State → State × Reply) : State :=
  let a := s.arrive p f
  if a.atHead p f then
    if a.hasRoom p (handle (a.takeFrame p)).2 then
      State.placeReply (handle (a.takeFrame p)).1.settle p (handle (a.takeFrame p)).2
    else a
  else s

/-- A message's frame is processed. -/
def State.message (s : State) (m : Message) (p : Port) (payload : List Word) (body : State → State × Reply) : State :=
  s.process p ⟨m.code, payload⟩ fun t => t.handleMessage m p payload body

/-- A cell command's frame is processed. -/
def State.command (s : State) (k : CellCommand) (p : Port) (body : State → State × Reply) : State :=
  s.process p k.frame fun t => t.handleCommand k p body

end Sys2Proof.Machine
end

