-- ==== Sys2Proof/Machine/Views.lean ====
section
/-! DEFINITION. What the outside reads: the live views of the status records (TABLE 10.3, R120, R122, R146, R180), the saw's
state (R126), the slot's state (TABLE 2.4), the kinds in use (R17) and the latched counts (R176). -/

namespace Sys2Proof.Machine

/-! ## Kinds -/

/-- A kind is in use (R17): by a panel in a stack, on a head or in a fault record, by an entry of a book, or by an offer.  The
offcut that a gantry returns is a panel on a head once its pickup has completed, and an offer in the list before. -/
def State.kindInUse (s : State) (code : Nat) : Bool :=
  s.livePanels.any (fun p => decide (p.kind = code)) ||
    [Saw.saw1, .saw2, .saw3, .saw4].any fun w =>
      (s.saw w).books.any (fun b => b.entries.any fun e => decide (e.kind = code)) ||
        (s.saw w).offers.any fun o => decide (o.kind = code)

/-! ## Slots -/

/-- A panel as a reply gives it (TABLE 2.4). -/
def Panel.view (p : Panel) : PanelView := ⟨p.serial, p.kind, p.origin, p.length, p.width⟩

/-- SLOT_REPLY's contents (R32, TABLE 2.4). -/
def State.slotView (s : State) (n first : Nat) : SlotView :=
  { slot := s.geom.slotName n, count := (s.slot n).stack.length, height := s.height n, suspect := (s.slot n).suspect,
    claim := (s.slot n).claim, pickArea := s.areaView (s.pickArea n), putArea := s.areaView (s.putArea n), first := first,
    panels := (((s.slot n).stack.drop first).take 10).map Panel.view }

/-! ## Saws -/

/-- SAW_STATE_REPLY's contents (R126). -/
def State.sawStateView (s : State) (w : Saw) : SawStateView :=
  let r := s.saw w
  { saw := w, settings := r.settings, table := r.table, linkUp := s.sawLinkUp w, holds := s.holdSet w,
    pacingEnd := r.pacingEnd.map Moment.time, pacing := r.pacing, books := r.books, offers := r.offers,
    started := r.started.live, released := r.released.live, aborted := r.aborted.live, taken := r.taken.live,
    panelsPlaced := r.panelsPlaced.live, extraAcks := r.extraAcks.live, starved := r.starved.live, held := r.held.live }

/-- The placed count and the abort requested field of a saw's ASSEMBLING record. -/
def SawRecord.assemblingView (r : SawRecord) : Option (Nat × Bool) :=
  (r.books.find? fun b => decide (b.state = .assembling)).map fun b => (b.placed.length, b.abortRequested)

/-- The live view of a saw's port (R146). -/
def State.sawView (s : State) (w : Saw) : SawView :=
  let r := s.saw w
  { settings := r.settings, table := r.table, linkUp := s.sawLinkUp w, holds := s.holdSet w,
    pacingEnd := r.pacingEnd.map Moment.time, books := r.books.map fun b => (b.tag, b.state),
    assembling := r.assemblingView, offers := r.offers.map fun o => (o.kind, o.state),
    lastBookReport := r.lastBookReport, lastOfferReport := r.lastOfferReport }

/-! ## Gantries -/

/-- The token of a gantry's outstanding step. -/
def GantryRecord.token (r : GantryRecord) : Option (BitVec 8) := (r.current.bind Step.issued).map Issued.token

/-- A fault record as a reply gives it: the slot of its step is named in both forms under the active layout (R111, R12). -/
def State.faultView (s : State) (f : FaultRecord) : FaultView :=
  { cause := f.cause, subCode := f.subCode, time := f.time, state := f.state,
    step := f.step.map fun c => ⟨c.kind, c.token, c.time, c.slot.map s.geom.slotName⟩,
    panel := f.panel.map Panel.view, task := f.task, span := f.span, second := f.second }

/-- One gantry in the planner's live view (R120, R96, R147). -/
def State.gantryPlannerView (s : State) (g : Gantry) : GantryPlannerView :=
  let r := s.gantry g
  { state := r.state, position := r.position, linkUp := s.gantryLinkUp g, reservation := r.reservation,
    frozen := r.frozen, request := r.current.bind Step.request, carried := r.carried.map Panel.serial,
    task := r.task.map fun t => (t.kind, t.phase),
    outstanding := r.current.bind fun c => c.issued.map fun i => (c.kind, i.token),
    dwellEnd := r.dwellEnd.map Moment.time, holdEnd := r.hold.map fun h => h.ends.time, lastOutcome := r.lastOutcome,
    fault := r.fault.map s.faultView }

/-- The live view of a gantry's port (R122). -/
def State.gantryView (s : State) (g : Gantry) : GantryView :=
  let r := s.gantry g
  { state := r.state, position := r.position, reservation := r.reservation, token := r.token,
    fault := r.fault.map fun f => (f.cause, f.subCode) }

/-! ## Status records -/

/-- The live view of the planner's port (TABLE 10.3, R27, R180). -/
def State.plannerView (s : State) : PlannerView :=
  { cell := s.cell, clock := s.clock, loader := s.loader, pinMode := s.pinMode, layoutActive := s.layout.isSome,
    invalidCheck := s.invalidCheck, gantries := ⟨s.gantryPlannerView .west, s.gantryPlannerView .east⟩,
    suspectCount := s.suspectCount, lastMarked := s.lastMarked.map s.geom.slotName, freeCount := s.freeCount,
    carriers :=
      ⟨s.ports.planner.carrierUp,
       ⟨s.ports.saws.saw1.carrierUp, s.ports.saws.saw2.carrierUp, s.ports.saws.saw3.carrierUp,
        s.ports.saws.saw4.carrierUp⟩,
       ⟨s.ports.gantries.west.carrierUp, s.ports.gantries.east.carrierUp⟩⟩ }

/-- The live view of a port's role. -/
def State.roleView (s : State) : Port → RoleView
  | .planner => .planner s.plannerView
  | .saw w => .saw (s.sawView w)
  | .gantry g => .gantry (s.gantryView g)

/-- A port's status record as it stands (R193). -/
def State.statusView (s : State) (p : Port) : StatusView :=
  let r := s.port p
  { role := s.roleView p, cell := s.cell, flags := r.flags, carrierUp := r.carrierUp, flowGo := r.flowGo,
    framingCount := r.framingCount, crcCount := r.crcCount, inboundFill := r.inbound.length,
    outboundFill := r.outbound.length, pendingFill := r.pushedWaiting.length }

/-! ## Counts -/

/-- The latched counters of a gantry, in the order of R176. -/
def GantryRecord.latchedCounts (r : GantryRecord) : List Count :=
  [r.stepsCompleted.latched, r.yieldsMade.latched, r.overruns.latched, r.driveFaults.latched]

/-- The latched counters and timers of a saw, in the order of R176. -/
def SawRecord.latchedCounts (r : SawRecord) : List Count :=
  [r.started.latched, r.released.latched, r.aborted.latched, r.taken.latched, r.panelsPlaced.latched,
   r.extraAcks.latched, r.starved.latched, r.held.latched]

/-- The latched values in the order of R176. -/
def State.latchedCounts (s : State) : List Count :=
  [s.verifiedHits.latched, s.failedHits.latched, s.misses.latched]
    ++ s.gantries.west.latchedCounts ++ s.gantries.east.latchedCounts
    ++ s.saws.saw1.latchedCounts ++ s.saws.saw2.latchedCounts ++ s.saws.saw3.latchedCounts ++ s.saws.saw4.latchedCounts

/-- A gantry's counters, each changed. -/
def GantryRecord.mapCounters (r : GantryRecord) (f : Counter → Counter) : GantryRecord :=
  { r with
    stepsCompleted := f r.stepsCompleted
    yieldsMade := f r.yieldsMade
    overruns := f r.overruns
    driveFaults := f r.driveFaults }

/-- A saw's counters and timers, each changed. -/
def SawRecord.mapCounters (r : SawRecord) (f : Counter → Counter) (h : Timer → Timer) : SawRecord :=
  { r with
    started := f r.started
    released := f r.released
    aborted := f r.aborted
    taken := f r.taken
    panelsPlaced := f r.panelsPlaced
    extraAcks := f r.extraAcks
    starved := h r.starved
    held := h r.held }

/-- Every statistics counter and timer of the part, each changed (R176). -/
def State.mapCounters (s : State) (f : Counter → Counter) (h : Timer → Timer) : State :=
  { s with
    verifiedHits := f s.verifiedHits
    failedHits := f s.failedHits
    misses := f s.misses
    gantries := ⟨s.gantries.west.mapCounters f, s.gantries.east.mapCounters f⟩
    saws :=
      ⟨s.saws.saw1.mapCounters f h, s.saws.saw2.mapCounters f h, s.saws.saw3.mapCounters f h,
       s.saws.saw4.mapCounters f h⟩ }

end Sys2Proof.Machine
end

