-- ==== Sys2Proof/Machine/StoreCommands.lean ====
section
/-! DEFINITION. The meanings of the planner's messages to the Stack Map and the Area Decoder: KIND_SET, KIND_QUERY, AREA_SET,
AREA_QUERY, STACK_REGISTER, STACK_WITHDRAW, SLOT_RELEASE and SLOT_QUERY (chapters 2 and 3). -/

namespace Sys2Proof.Machine

/-! ## Checks taken entry by entry -/

/-- A refusal code and a detail word. -/
abbrev Failure := RefusalCode × Nat

/-- The position, 1 for the first, of the first entry that meets a condition. -/
def firstPosition {α : Type} (c : α → Bool) (es : List α) : Option Nat := (es.findIdx? c).map (· + 1)

/-- A check over entries that names the first failing entry by its position. -/
def entryCheck {α : Type} (code : RefusalCode) (c : α → Bool) (es : List α) : Option Failure :=
  (firstPosition c es).map fun i => (code, i)

/-- A check of one condition. -/
def checkOf (fails : Bool) (code : RefusalCode) (detail : Nat) : Option Failure :=
  if fails then some (code, detail) else none

/-- The first failure of a list of checks. -/
def firstOf (cs : List (Option Failure)) : Option Failure := cs.findSome? id

/-- A message's checks, and its effects when every check passes. -/
def State.unless (s : State) (m : Message) (f : Option Failure) (accepted : State × Reply) : State × Reply :=
  match f with
  | some (c, d) => (s, refusedReply m c d)
  | none => accepted

/-! ## KIND_SET and KIND_QUERY -/

/-- An entry of a KIND_SET, in the order R16 lists its fields (DEDUCED, log entry 13). -/
structure KindWrite where
  code : Nat
  defined : Nat
  material : Nat
  thickness : Nat
  length : Nat
  width : Nat
  deriving DecidableEq, Repr

/-- Entry `i` of a KIND_SET, from word 1 + 6i. -/
def kindWriteAt (ws : List Word) (i : Nat) : KindWrite :=
  ⟨word ws (1 + 6 * i), word ws (2 + 6 * i), word ws (3 + 6 * i), word ws (4 + 6 * i), word ws (5 + 6 * i),
   word ws (6 + 6 * i)⟩

/-- The entries of a KIND_SET. -/
def kindWrites (ws : List Word) : List KindWrite := (List.range (word ws 0)).map (kindWriteAt ws)

/-- The kind that an entry defines; none when it undefines its kind (R16). -/
def KindWrite.kind (e : KindWrite) : Option Kind :=
  if e.defined = 1 then some ⟨e.material, e.thickness, e.length, e.width⟩ else none

/-- The fields of a kind lie within the ranges of TABLE 2.1. -/
def Kind.inRange (k : Kind) : Bool :=
  decide (k.material ≤ 63 ∧ 30 ≤ k.thickness ∧ k.thickness ≤ 600 ∧ 200 ≤ k.length ∧ k.length ≤ 5600 ∧
    100 ≤ k.width ∧ k.width ≤ 2200)

/-- Checks 2 to 5 of R16 for one entry. -/
def State.kindWriteFailure (s : State) (earlier : List Nat) (e : KindWrite) : Option RefusalCode :=
  if 1023 < e.code then some .badField
  else if earlier.contains e.code then some .badField
  else if 1 < e.defined ∨ e.kind.any (fun k => !k.inRange) = true then some .badField
  else if e.kind ≠ s.kind e.code ∧ s.kindInUse e.code = true then some .kindInUse
  else none

/-- The checks of the entries, one entry after another; the detail word is the entry's kind code (R16). -/
def State.kindEntriesFailure (s : State) (earlier : List Nat) : List KindWrite → Option Failure
  | [] => none
  | e :: es =>
    match s.kindWriteFailure earlier e with
    | some c => some (c, e.code)
    | none => s.kindEntriesFailure (e.code :: earlier) es

/-- The checks of a KIND_SET (R16). -/
def State.kindSetFailure (s : State) (ws : List Word) : Option Failure :=
  if word ws 0 < 1 ∨ 8 < word ws 0 then some (.badField, 0) else s.kindEntriesFailure [] (kindWrites ws)

/-- Every entry is written into the kind table (R18). -/
def State.writeKinds (s : State) (es : List KindWrite) : State :=
  { s with kinds := es.foldl (fun t e => writeKind e.code e.kind t) s.kinds }

/-- KIND_SET's checks and effects (R16, R18). -/
def State.kindSet (s : State) (ws : List Word) : State × Reply :=
  s.unless .kindSet (s.kindSetFailure ws) (s.writeKinds (kindWrites ws), acceptedReply .kindSet)

/-- KIND_SET (R16, R18). -/
def execKindSet (p : Port) (payload : List Word) (s : State) : Host.Outcome State Fault Refusal :=
  .next (s.message .kindSet p payload fun t => t.kindSet payload)

/-- KIND_QUERY's check and reply (R18). -/
def State.kindQuery (s : State) (ws : List Word) : State × Reply :=
  if 1023 < word ws 0 then s.refuseFree .kindQuery .badField
  else (s, .kindReply (s.kind (word ws 0)) (s.kindInUse (word ws 0)))

/-- KIND_QUERY (R18). -/
def execKindQuery (p : Port) (payload : List Word) (s : State) : Host.Outcome State Fault Refusal :=
  .next (s.message .kindQuery p payload fun t => t.kindQuery payload)

/-! ## AREA_SET and AREA_QUERY -/

/-- An entry of an AREA_SET, in the order R45 lists its fields (DEDUCED, log entry 13). -/
structure AreaWrite where
  index : Nat
  enabled : Nat
  base : Nat
  k : Nat
  pickOnly : Nat
  remnant : Nat
  deriving DecidableEq, Repr

/-- Entry `i` of an AREA_SET, from word 1 + 6i. -/
def areaWriteAt (ws : List Word) (i : Nat) : AreaWrite :=
  ⟨word ws (1 + 6 * i), word ws (2 + 6 * i), word ws (3 + 6 * i), word ws (4 + 6 * i), word ws (5 + 6 * i),
   word ws (6 + 6 * i)⟩

/-- The entries of an AREA_SET. -/
def areaWrites (ws : List Word) : List AreaWrite := (List.range (word ws 0)).map (areaWriteAt ws)

/-- Checks 2 to 5 of TABLE 3.3 for one entry at a position. -/
def State.areaWriteFailure (s : State) (earlier : List Nat) (position : Nat) (e : AreaWrite) : Option Failure :=
  if 7 < e.index then some (.badField, position)
  else if earlier.contains e.index then some (.badField, position)
  else if 8 < e.k ∨ 1 < e.enabled ∨ 1 < e.pickOnly ∨ 1 < e.remnant then some (.badField, position)
  else if s.addressed e.base = none then some (.badSlot, e.base)
  else none

/-- The checks of the entries, one entry after another (R45). -/
def State.areaEntriesFailure (s : State) (earlier : List Nat) (position : Nat) : List AreaWrite → Option Failure
  | [] => none
  | e :: es =>
    match s.areaWriteFailure earlier position e with
    | some f => some f
    | none => s.areaEntriesFailure (e.index :: earlier) (position + 1) es

/-- The checks of an AREA_SET (R45). -/
def State.areaSetFailure (s : State) (ws : List Word) : Option Failure :=
  if word ws 0 < 1 ∨ 8 < word ws 0 then some (.badField, 0) else s.areaEntriesFailure [] 1 (areaWrites ws)

/-- The window that an entry makes, its base aligned (R39, R46). -/
def State.windowOf (s : State) (e : AreaWrite) : Window :=
  ⟨decide (e.enabled = 1), effectiveBase ((s.addressed e.base).getD 0) e.k, e.k, decide (e.pickOnly = 1),
   decide (e.remnant = 1)⟩

/-- The windows that a message names take their new values, and the Kind Locator is flushed (R46). -/
def State.writeAreas (s : State) (es : List AreaWrite) : State :=
  State.flushLocator { s with windows := es.foldl (fun ws e => ws.set e.index (s.windowOf e)) s.windows }

/-- AREA_SET's checks and effects (R45, R46). -/
def State.areaSet (s : State) (ws : List Word) : State × Reply :=
  s.unless .areaSet (s.areaSetFailure ws) (s.writeAreas (areaWrites ws), (s.writeAreas (areaWrites ws)).areaReply)

/-- AREA_SET (R45, R46). -/
def execAreaSet (p : Port) (payload : List Word) (s : State) : Host.Outcome State Fault Refusal :=
  .next (s.message .areaSet p payload fun t => t.areaSet payload)

/-- AREA_QUERY (R47). -/
def execAreaQuery (p : Port) (payload : List Word) (s : State) : Host.Outcome State Fault Refusal :=
  .next (s.message .areaQuery p payload fun t => (t, t.areaReply))

/-! ## STACK_REGISTER -/

/-- An entry of a STACK_REGISTER (TABLE 10.5). -/
structure StackEntry where
  kind : Nat
  origin : Nat
  length : Nat
  width : Nat
  deriving DecidableEq, Repr

/-- Entry `i` of a STACK_REGISTER (TABLE 10.5). -/
def stackEntryAt (ws : List Word) (i : Nat) : StackEntry :=
  ⟨bits (word ws (2 + 3 * i)) 0 12, bits (word ws (2 + 3 * i)) 12 4, word ws (3 + 3 * i), word ws (4 + 3 * i)⟩

/-- The entries of a STACK_REGISTER. -/
def stackEntries (ws : List Word) : List StackEntry := (List.range (word ws 1)).map (stackEntryAt ws)

/-- Dimensions lie from 200 × 100 to those of a kind (R29, R129, R140). -/
def State.fitsKind (s : State) (code length width : Nat) : Bool :=
  (s.kind code).any fun k => decide (200 ≤ length ∧ length ≤ k.length ∧ 100 ≤ width ∧ width ≤ k.width)

/-- Check 6 of TABLE 2.3 fails. -/
def StackEntry.unsound (e : StackEntry) : Bool := decide (1023 < e.kind ∨ 1 < e.origin)

/-- Check 8 of TABLE 2.3 fails. -/
def State.badRemnant (s : State) (e : StackEntry) : Bool :=
  decide (e.origin = 1) && !(s.fitsKind e.kind e.length e.width)

/-- The sum of the entries' thicknesses. -/
def State.entriesHeight (s : State) (es : List StackEntry) : Nat := (es.map fun e => s.thickness e.kind).sum

/-- Check 9 of TABLE 2.3 fails. -/
def State.stackTooFull (s : State) (n : Nat) (es : List StackEntry) : Bool :=
  decide (40 < (s.slot n).stack.length + es.length ∨ s.geom.maxStackHeight < s.height n + s.entriesHeight es)

/-- The checks of a slot that a registration is laid on: checks 3 to 5 of TABLE 2.3. -/
def State.slotChecks (s : State) (n : Nat) : List (Option Failure) :=
  [checkOf (!s.hasPickArea n) .badSlot n, checkOf (!s.unclaimed n) .slotClaimed n,
   checkOf (s.slot n).suspect .slotSuspect n]

/-- Checks 3 to 10 of TABLE 2.3. -/
def State.stackFailureAt (s : State) (n : Nat) (es : List StackEntry) : Option Failure :=
  firstOf (s.slotChecks n ++
    [entryCheck .badField StackEntry.unsound es, entryCheck .unknownKind (fun e => (s.kind e.kind).isNone) es,
     entryCheck .badField s.badRemnant es, checkOf (s.stackTooFull n es) .stackFull n,
     checkOf (decide (s.freeCount < es.length)) .poolFull n])

/-- The checks of TABLE 2.3. -/
def State.stackRegisterFailure (s : State) (ws : List Word) : Option Failure :=
  if word ws 1 < 1 ∨ 16 < word ws 1 then some (.badField, 0)
  else
    match s.addressed (word ws 0) with
    | none => some (.badSlot, word ws 0)
    | some n => s.stackFailureAt n (stackEntries ws)

/-- The panel that an entry becomes (R30, steps 1 to 3). -/
def State.registered (s : State) (e : StackEntry) : Panel :=
  if e.origin = 1 then s.newPanel e.kind .remnant e.length e.width
  else s.newPanel e.kind .raw (((s.kind e.kind).map Kind.length).getD 0) (((s.kind e.kind).map Kind.width).getD 0)

/-- One entry is registered on a slot (R30). -/
def State.registerOne (s : State) (n : Nat) (e : StackEntry) : State := s.takeRecord.lay n (s.registered e)

/-- The entries are registered on a slot, in message order (R30). -/
def State.registerAll (s : State) (n : Nat) (es : List StackEntry) : State := es.foldl (fun t e => t.registerOne n e) s

/-- REGISTER_REPLY (R30): `before` is the count of the stack before the registration. -/
def State.registerReply (s : State) (n before : Nat) : Reply :=
  .registerReply (s.geom.slotName n) (((s.slot n).stack.drop before).map Panel.serial) (s.slot n).stack.length
    (s.height n) s.freeCount

/-- STACK_REGISTER's checks and effects (R29, R30). -/
def State.stackRegister (s : State) (ws : List Word) : State × Reply :=
  let n := (s.addressed (word ws 0)).getD 0
  s.unless .stackRegister (s.stackRegisterFailure ws)
    (s.registerAll n (stackEntries ws),
      (s.registerAll n (stackEntries ws)).registerReply n (s.slot n).stack.length)

/-- STACK_REGISTER (R29, R30). -/
def execStackRegister (p : Port) (payload : List Word) (s : State) : Host.Outcome State Fault Refusal :=
  .next (s.message .stackRegister p payload fun t => t.stackRegister payload)

/-! ## STACK_WITHDRAW -/

/-- The checks of a STACK_WITHDRAW (R31). -/
def State.withdrawFailure (s : State) (ws : List Word) : Option Failure :=
  if 40 < word ws 1 then some (.badField, 0)
  else
    match s.addressed (word ws 0) with
    | none => some (.badSlot, word ws 0)
    | some n => checkOf (!s.unclaimed n) .slotClaimed n

/-- How many panels a withdrawal removes from a stack: the count asked for, or the whole stack (R31). -/
def withdrawCount (asked size : Nat) : Nat := if asked = 0 then size else min asked size

/-- The panels that a withdrawal removes, top first (R31). -/
def Slot.withdrawn (r : Slot) (asked : Nat) : List Panel :=
  (r.stack.drop (r.stack.length - withdrawCount asked r.stack.length)).reverse

/-- Panels are withdrawn from the top of a slot's stack (R31).  A withdrawal of none is no store change. -/
def State.withdraw (s : State) (n asked : Nat) : State :=
  if (s.slot n).withdrawn asked = [] then s
  else ((s.unlay n (withdrawCount asked (s.slot n).stack.length)).freePanels ((s.slot n).withdrawn asked)).storeChange

/-- STACK_WITHDRAW's checks and effects (R31). -/
def State.stackWithdraw (s : State) (ws : List Word) : State × Reply :=
  let n := (s.addressed (word ws 0)).getD 0
  s.unless .stackWithdraw (s.withdrawFailure ws)
    (s.withdraw n (word ws 1), .withdrawReply (((s.slot n).withdrawn (word ws 1)).map Panel.serial))

/-- STACK_WITHDRAW (R31). -/
def execStackWithdraw (p : Port) (payload : List Word) (s : State) : Host.Outcome State Fault Refusal :=
  .next (s.message .stackWithdraw p payload fun t => t.stackWithdraw payload)

/-! ## SLOT_RELEASE and SLOT_QUERY -/

/-- A suspect flag is cleared, a store change (R28, R26).  A slot whose flag is clear is unchanged. -/
def State.releaseSlot (s : State) (n : Nat) : State :=
  if (s.slot n).suspect then (s.setSlot n { s.slot n with suspect := false }).storeChange else s

/-- SLOT_RELEASE's check and effect (R28). -/
def State.slotRelease (s : State) (ws : List Word) : State × Reply :=
  match s.addressed (word ws 0) with
  | none => (s, refusedReply .slotRelease .badSlot (word ws 0))
  | some n => (s.releaseSlot n, acceptedReply .slotRelease)

/-- SLOT_RELEASE (R28). -/
def execSlotRelease (p : Port) (payload : List Word) (s : State) : Host.Outcome State Fault Refusal :=
  .next (s.message .slotRelease p payload fun t => t.slotRelease payload)

/-- SLOT_QUERY's checks and reply (R32). -/
def State.slotQuery (s : State) (ws : List Word) : State × Reply :=
  if 39 < word ws 1 then (s, refusedReply .slotQuery .badField 0)
  else
    match s.addressed (word ws 0) with
    | none => (s, refusedReply .slotQuery .badSlot (word ws 0))
    | some n => (s, .slotReply (s.slotView n (word ws 1)))

/-- SLOT_QUERY (R32). -/
def execSlotQuery (p : Port) (payload : List Word) (s : State) : Host.Outcome State Fault Refusal :=
  .next (s.message .slotQuery p payload fun t => t.slotQuery payload)

end Sys2Proof.Machine
end

