-- ==== Sys2Proof/Machine/SawCommands.lean ====
section
/-! DEFINITION. The meanings of the planner's SAW_SET and SAW_QUERY and of the saws' messages: BOOK_REQUEST, BOOK_ABORT,
BOOK_TAKEN, TABLE_STATE and REMNANT_OFFER, with the events of pacing and of the saw timers (chapter 7). -/

namespace Sys2Proof.Machine

/-! ## SAW_SET and SAW_QUERY -/

/-- A value clamped to a range (R125). -/
def clamp (lo hi n : Nat) : Nat := max lo (min hi n)

/-- The effective settings that a SAW_SET carries, in the order of TABLE 7.2 (R125; DEDUCED, log entry 13). -/
def carriedSettings (ws : List Word) : Settings :=
  { enabled := decide (word ws 1 = 1), backlogLimit := clamp 1 3 (word ws 2), w1 := clamp 0 60000 (word ws 3),
    w2 := clamp 0 60000 (word ws 4), w3 := clamp 0 60000 (word ws 5), remnantAllowed := decide (word ws 6 = 1),
    maxBookHeight := clamp 30 1500 (word ws 7) }

/-- The tag of a saw's ASSEMBLING book. -/
def SawRecord.assemblingTag (r : SawRecord) : Option Word :=
  (r.books.find? fun b => decide (b.state = .assembling)).map Book.tag

/-- Checks 2 to 4 of R124 for a saw. -/
def State.sawSetFailure (s : State) (w : Saw) (ws : List Word) : Option Failure :=
  if 1 < word ws 1 ∨ 1 < word ws 6 then some (.badField, sawNumber w)
  else if s.sawPresent w = false then some (.sawAbsent, sawNumber w)
  else (s.saw w).assemblingTag.map fun t => (.sawBusy, t.toNat)

/-- New settings replace a saw's settings, and its pacing end is recomputed (R125). -/
def SawRecord.withSettings (r : SawRecord) (c : Settings) (now : Time) : SawRecord :=
  SawRecord.repaced { r with settings := c } now

/-- SETTINGS_CHANGED latches on a saw's port when an effective value differs from the one it replaces (R125). -/
def State.latchSettings (s : State) (w : Saw) (c : Settings) : State :=
  if (s.saw w).settings = c then s else s.latch (.saw w) .settingsChanged

/-- A saw's settings are replaced, a dispatch opportunity (R125, R148). -/
def State.applySettings (s : State) (w : Saw) (c : Settings) : State :=
  ((s.latchSettings w c).setSaw w ((s.saw w).withSettings c s.clock)).opportunity

/-- SAW_SET's checks and effects (R124, R125). -/
def State.sawSet (s : State) (ws : List Word) : State × Reply :=
  match sawOfNumber (word ws 0) with
  | none => (s, refusedReply .sawSet .badField 0)
  | some w =>
    s.unless .sawSet (s.sawSetFailure w ws)
      (s.applySettings w (carriedSettings ws), .sawReply w (carriedSettings ws))

/-- SAW_SET (R124, R125). -/
def execSawSet (p : Port) (payload : List Word) (s : State) : Host.Outcome State Fault Refusal :=
  .next (s.message .sawSet p payload fun t => t.sawSet payload)

/-- SAW_QUERY's checks and reply (R126). -/
def State.sawQuery (s : State) (ws : List Word) : State × Reply :=
  match sawOfNumber (word ws 0) with
  | none => s.refuseFree .sawQuery .badField
  | some w => if s.sawPresent w then (s, .sawStateReply (s.sawStateView w)) else s.refuseFree .sawQuery .sawAbsent

/-- SAW_QUERY (R126). -/
def execSawQuery (p : Port) (payload : List Word) (s : State) : Host.Outcome State Fault Refusal :=
  .next (s.message .sawQuery p payload fun t => t.sawQuery payload)

/-! ## BOOK_REQUEST -/

/-- An entry of a BOOK_REQUEST (TABLE 10.6). -/
structure RequestEntry where
  kind : Nat
  length : Nat
  width : Nat
  deriving DecidableEq, Repr

/-- Entry `i` of a BOOK_REQUEST (TABLE 10.6). -/
def requestEntryAt (ws : List Word) (i : Nat) : RequestEntry :=
  ⟨word ws (2 + 3 * i), word ws (3 + 3 * i), word ws (4 + 3 * i)⟩

/-- The entries of a BOOK_REQUEST. -/
def requestEntries (ws : List Word) : List RequestEntry := (List.range (word ws 1)).map (requestEntryAt ws)

/-- The tag of a BOOK_REQUEST, a BOOK_ABORT or a BOOK_TAKEN. -/
def carriedTag (ws : List Word) : Word := ws.getD 0 0

/-- The entry as the book record holds it: both dimensions 0 mean no requirement (R129). -/
def RequestEntry.entry (e : RequestEntry) : BookEntry :=
  ⟨e.kind, if e.length = 0 ∧ e.width = 0 then none else some (e.length, e.width)⟩

/-- Check 4 of TABLE 7.5 fails. -/
def RequestEntry.halfRequired (e : RequestEntry) : Bool :=
  decide ((e.length = 0 ∧ e.width ≠ 0) ∨ (e.length ≠ 0 ∧ e.width = 0))

/-- Check 8 of TABLE 7.5 fails. -/
def State.badRequirement (s : State) (e : RequestEntry) : Bool :=
  decide (e.entry.required.isSome) && !(s.fitsKind e.kind e.length e.width)

/-- The sum of the thicknesses of the entries' kinds. -/
def State.requestHeight (s : State) (es : List RequestEntry) : Nat := (es.map fun e => s.thickness e.kind).sum

/-- The checks of TABLE 7.5. -/
def State.bookRequestFailure (s : State) (w : Saw) (ws : List Word) : Option Failure :=
  let es := requestEntries ws
  firstOf
    [checkOf (!s.sawPresent w) .sawAbsent (word ws 0),
     checkOf (decide (word ws 1 < 1 ∨ 6 < word ws 1)) .badField 0,
     entryCheck .badField (fun e => decide (1023 < e.kind)) es,
     entryCheck .badField RequestEntry.halfRequired es,
     checkOf (decide (4 ≤ (s.saw w).count .queued)) .queueFull (word ws 0),
     checkOf ((s.saw w).books.any fun b => decide (b.tag = carriedTag ws)) .duplicateTag (word ws 0),
     entryCheck .unknownKind (fun e => (s.kind e.kind).isNone) es,
     entryCheck .badField s.badRequirement es,
     checkOf (decide ((s.saw w).settings.maxBookHeight < s.requestHeight es)) .bookTooHigh (word ws 0)]

/-- The book record of an accepted BOOK_REQUEST (R130). -/
def newBook (tag : Word) (entries : List BookEntry) : Book :=
  { tag := tag, entries := entries, state := .queued, gantry := none, lift := 1, replan := false, placed := [],
    firstFault := none, abortRequested := false, endCause := none, startTime := none, releaseTime := none }

/-- A book record joins the end of a saw's list, a dispatch opportunity (R130). -/
def State.addBook (s : State) (w : Saw) (b : Book) : State :=
  (s.setSaw w { s.saw w with books := (s.saw w).books ++ [b] }).opportunity

/-- BOOK_REQUEST's checks and effects (R129, R130). -/
def State.bookRequest (s : State) (w : Saw) (ws : List Word) : State × Reply :=
  s.unless .bookRequest (s.bookRequestFailure w ws)
    (s.addBook w (newBook (carriedTag ws) ((requestEntries ws).map RequestEntry.entry)), acceptedReply .bookRequest)

/-- BOOK_REQUEST (R129, R130). -/
def execBookRequest (p : Port) (payload : List Word) (s : State) : Host.Outcome State Fault Refusal :=
  .next (s.message .bookRequest p payload fun t => t.bookRequest (portSaw p) payload)

/-! ## BOOK_ABORT -/

/-- The abort of an ASSEMBLING book is requested (R136). -/
def Book.requestAbort (b : Book) : Book := { b.noteFault .sawAbort b.lift with abortRequested := true }

/-- Lift Execution is handed the abort of a book on its gantry, when it has one (R160). -/
def State.actOnAbortBy (s : State) (g : Option Gantry) : State :=
  match g with
  | some g => s.actOnAbort g
  | none => s

/-- A BOOK_ABORT is taken against a record (R136). -/
def State.abortRecord (s : State) (w : Saw) (b : Book) : State × Reply :=
  match b.state with
  | .queued => (s.abortBook w b .sawAbort, acceptedReply .bookAbort)
  | .assembling =>
    (if b.abortRequested then s else (s.updateBook w b.tag Book.requestAbort).actOnAbortBy b.gantry,
      acceptedReply .bookAbort)
  | .released => (s, refusedReply .bookAbort .bookReleased b.tag.toNat)

/-- BOOK_ABORT's checks and effects (R136). -/
def State.bookAbort (s : State) (w : Saw) (ws : List Word) : State × Reply :=
  if s.sawPresent w = false then s.refuseFree .bookAbort .sawAbsent
  else
    match (s.saw w).books.find? fun b => decide (b.tag = carriedTag ws) with
    | some b => s.abortRecord w b
    | none => (s, refusedReply .bookAbort .unknownTag (word ws 0))

/-- BOOK_ABORT (R136). -/
def execBookAbort (p : Port) (payload : List Word) (s : State) : Host.Outcome State Fault Refusal :=
  .next (s.message .bookAbort p payload fun t => t.bookAbort (portSaw p) payload)

/-! ## BOOK_TAKEN -/

/-- A saw's oldest RELEASED record is acknowledged (R135). -/
def State.removeTaken (s : State) (w : Saw) (tag : Word) : State :=
  (s.setSaw w
    { s.saw w with
      books := (s.saw w).books.filter fun b => decide (b.tag ≠ tag)
      taken := (s.saw w).taken.step }).opportunity

/-- An acknowledgement finds no RELEASED record (R135). -/
def State.extraTaken (s : State) (w : Saw) : State :=
  (s.setSaw w { s.saw w with extraAcks := (s.saw w).extraAcks.step }).opportunity

/-- The reply ACCEPTED with the note EXTRA (R135, R190). -/
def extraReply : Reply := .accepted Message.bookTaken.code 1 none

/-- BOOK_TAKEN's checks and effects (R135). -/
def State.bookTaken (s : State) (w : Saw) (ws : List Word) : State × Reply :=
  if s.sawPresent w = false then s.refuseFree .bookTaken .sawAbsent
  else
    match (s.saw w).oldestReleased with
    | some b =>
      if b.tag = carriedTag ws then (s.removeTaken w b.tag, acceptedReply .bookTaken)
      else (s, refusedReply .bookTaken .tagMismatch b.tag.toNat)
    | none => (s.extraTaken w, extraReply)

/-- BOOK_TAKEN (R135). -/
def execBookTaken (p : Port) (payload : List Word) (s : State) : Host.Outcome State Fault Refusal :=
  .next (s.message .bookTaken p payload fun t => t.bookTaken (portSaw p) payload)

/-! ## TABLE_STATE -/

/-- The table state that a TABLE_STATE carries (TABLE 10.12). -/
def carriedTable (ws : List Word) : TableState := if word ws 0 = 0 then .clear else .busy

/-- A gantry in HOVER_HOLD over a saw's table. -/
def State.holdsOver (s : State) (w : Saw) (g : Gantry) : Bool :=
  decide ((s.gantry g).state = .hoverHold ∧ (s.gantry g).hold.map HoverHold.saw = some w)

/-- A hover hold ends because the table has become clear, and the PLACE is handed over (R119). -/
def State.endHold (s : State) (w : Saw) (g : Gantry) : State :=
  if s.holdsOver w g then (s.setGantry g { s.gantry g with hold := none }).beginPlace g w else s

/-- A saw's table state is set (R134). -/
def State.setTable (s : State) (w : Saw) (t : TableState) : State := s.setSaw w { s.saw w with table := t }

/-- A saw reports its table (R134): a change to CLEAR ends a hover hold over it. -/
def State.reportTable (s : State) (w : Saw) (t : TableState) : State :=
  if t = .clear ∧ (s.saw w).table ≠ .clear then ((s.setTable w t).endHold w .west).endHold w .east else s.setTable w t

/-- TABLE_STATE's check and effects (R134). -/
def State.tableState (s : State) (w : Saw) (ws : List Word) : State × Reply :=
  if s.sawPresent w = false then s.refuseFree .tableState .sawAbsent
  else (s.reportTable w (carriedTable ws), acceptedReply .tableState)

/-- TABLE_STATE (R134). -/
def execTableState (p : Port) (payload : List Word) (s : State) : Host.Outcome State Fault Refusal :=
  .next (s.message .tableState p payload fun t => t.tableState (portSaw p) payload)

/-! ## REMNANT_OFFER -/

/-- The checks of R140; the fields stand in the order R140 lists them (DEDUCED, log entry 13). -/
def State.offerFailure (s : State) (w : Saw) (ws : List Word) : Option Failure :=
  firstOf
    [checkOf (!s.sawPresent w) .sawAbsent (sawNumber w),
     checkOf (decide (1023 < word ws 0)) .badField (word ws 0),
     checkOf (s.kind (word ws 0)).isNone .unknownKind (word ws 0),
     checkOf (!s.fitsKind (word ws 0) (word ws 1) (word ws 2)) .badField (word ws 0),
     checkOf (decide (2 ≤ (s.saw w).offers.length)) .offerFull (sawNumber w),
     checkOf (!s.destinationTestAll w (word ws 0)) .storeFull (word ws 0)]

/-- A WAITING offer joins the end of a saw's offer list, a dispatch opportunity (R140). -/
def State.addOffer (s : State) (w : Saw) (kind length width : Nat) : State :=
  (s.setSaw w
    { s.saw w with offers := (s.saw w).offers ++ [⟨kind, length, width, s.clock, .waiting⟩] }).opportunity

/-- REMNANT_OFFER's checks and effects (R140). -/
def State.remnantOffer (s : State) (w : Saw) (ws : List Word) : State × Reply :=
  s.unless .remnantOffer (s.offerFailure w ws)
    (s.addOffer w (word ws 0) (word ws 1) (word ws 2), acceptedReply .remnantOffer)

/-- REMNANT_OFFER (R140). -/
def execRemnantOffer (p : Port) (payload : List Word) (s : State) : Host.Outcome State Fault Refusal :=
  .next (s.message .remnantOffer p payload fun t => t.remnantOffer (portSaw p) payload)

/-! ## Pacing and timers -/

/-- A saw's pacing end has been reached: it is cleared, a dispatch opportunity (R133). -/
def State.endPacing (s : State) (w : Saw) : State :=
  ((s.setSaw w { s.saw w with pacingEnd := none }).opportunity).settle

/-- The clock reaches a saw's pacing end; before that nothing happens. -/
def State.pacingReached (s : State) (w : Saw) : State :=
  if (s.saw w).pacingEnd.any (fun m => m.reached s.clock) then s.endPacing w else s

/-- PACING_END (R133). -/
def execPacingEnd (w : Saw) (s : State) : Host.Outcome State Fault Refusal := .next (s.pacingReached w)

/-- A pacing rule has become unsatisfied without a book start: the pacing end is recomputed (R133).  While every rule is
satisfied nothing happens. -/
def State.repace (s : State) (w : Saw) : State :=
  if (s.saw w).unsatisfied s.clock = [] then s else s.setSaw w ((s.saw w).repaced s.clock)

/-- PACING_RULE_UNSATISFIED (R133). -/
def execPacingRuleUnsatisfied (w : Saw) (s : State) : Host.Outcome State Fault Refusal := .next (s.repace w)

/-- A saw timer's residue has reached 100 (R145). -/
def State.stepTimer (s : State) (w : Saw) (t : SawTimer) : State :=
  match t with
  | .starved => s.setSaw w { s.saw w with starved := (s.saw w).starved.step }
  | .held => s.setSaw w { s.saw w with held := (s.saw w).held.step }

/-- SAW_TIMER_STEP (R145). -/
def execSawTimerStep (w : Saw) (t : SawTimer) (s : State) : Host.Outcome State Fault Refusal := .next (s.stepTimer w t)

end Sys2Proof.Machine
end

