-- ==== Sys2Proof/Machine/GantryCommands.lean ====
section
/-! DEFINITION. The meanings of the planner's GANTRY_PARK and GANTRY_RESTORE, of the drive controllers' GANTRY_READY, STEP_DONE
and GANTRY_FAULT, and of the timed events of a gantry: OVERRUN, DWELL_END and HOVER_TIMEOUT (chapter 6). -/

namespace Sys2Proof.Machine

/-! ## Positions that are given -/

/-- The gantry that a message of the planner names (TABLE 10.12). -/
def gantryOfNumber (n : Nat) : Gantry := if n = 0 then .west else .east

/-- The detail word of SPAN_CONFLICT: the bound of the other gantry's reservation that is met (R96). -/
def State.conflictDetail (s : State) : Gantry → Nat
  | .west => (s.span .east).lo
  | .east => (s.span .west).hi

/-- The checks of a position that a gantry is announced or restored at (R89). -/
def State.positionChecks (s : State) (g : Gantry) (x : Nat) : List (Option Failure) :=
  [checkOf (!((s.gantryGeom g).reaches x)) .outOfReach x,
   checkOf (!s.isClear g (s.geom.standing g x)) .spanConflict (s.conflictDetail g)]

/-- A gantry's record at a position that has been given: its full standing span, the frozen flag clear, the dwell values
none (R89, R95). -/
def GantryRecord.placedAt (r : GantryRecord) (x : Nat) (span : Span) : GantryRecord :=
  { r with
    position := some x
    reservation := some span
    frozen := false
    lastDirection := none
    lastMaterial := none
    lastCompletion := none }

/-! ## GANTRY_READY -/

/-- The checks of a GANTRY_READY (R99). -/
def State.readyFailure (s : State) (g : Gantry) (x : Nat) : Option Failure :=
  firstOf (checkOf (decide ((s.gantry g).state ≠ .offline)) .gantryState (s.gantry g).state.number :: s.positionChecks g x)

/-- A gantry is announced (R100). -/
def State.announce (s : State) (g : Gantry) (x : Nat) : State :=
  ((s.setGantry g { (s.gantry g).placedAt x (s.geom.standing g x) with state := .idle }).opportunity).retry
    (otherGantry g)

/-- GANTRY_READY's checks and effects (R99, R100). -/
def State.gantryReady (s : State) (g : Gantry) (ws : List Word) : State × Reply :=
  s.unless .gantryReady (s.readyFailure g (word ws 0)) (s.announce g (word ws 0), acceptedReply .gantryReady)

/-- GANTRY_READY (R99, R100). -/
def execGantryReady (p : Port) (payload : List Word) (s : State) : Host.Outcome State Fault Refusal :=
  .next (s.message .gantryReady p payload fun t => t.gantryReady (portGantry p) payload)

/-! ## GANTRY_PARK -/

/-- GANTRY_PARK's check and effects (R114, R122). -/
def State.gantryPark (s : State) (g : Gantry) : State × Reply :=
  if (s.gantry g).state = .idle then
    ((s.setGantry g { s.gantry g with state := .parked }).latch (.gantry g) .serviceChanged, acceptedReply .gantryPark)
  else (s, refusedReply .gantryPark .gantryState (s.gantry g).state.number)

/-- GANTRY_PARK (R114). -/
def execGantryPark (p : Port) (payload : List Word) (s : State) : Host.Outcome State Fault Refusal :=
  .next (s.message .gantryPark p payload fun t => t.gantryPark (gantryOfNumber (word payload 0)))

/-! ## GANTRY_RESTORE -/

/-- The panel of a restore: the one in the fault record of a FAULTED gantry, or the carried panel of a STRANDED one
(R115). -/
def State.restorePanel (s : State) (g : Gantry) : Option Panel :=
  match (s.gantry g).state with
  | .faulted => (s.gantry g).fault.bind FaultRecord.panel
  | .stranded => (s.gantry g).carried
  | _ => none

/-- Whether a gantry's state lets it be restored (TABLE 6.5, check 1). -/
def GantryState.restorable : GantryState → Bool
  | .offline | .parked | .faulted | .stranded => true
  | _ => false

/-- Checks 5 to 9 of TABLE 6.5, for a panel that is to be placed on an addressed slot. -/
def State.placeOnFailure (s : State) (address : Nat) (p : Panel) : Option Failure :=
  match s.addressed address with
  | none => some (.badSlot, address)
  | some n => firstOf (s.slotChecks n ++ [checkOf (!s.hasRoomFor n p.kind) .stackFull n])

/-- Checks 4 to 9 of TABLE 6.5. -/
def State.dispositionFailure (s : State) (g : Gantry) (ws : List Word) : Option Failure :=
  match s.restorePanel g with
  | none => none
  | some p =>
    if word ws 2 = 0 then some (.badField, p.serial % 65536)
    else if word ws 2 = 2 then s.placeOnFailure (word ws 3) p
    else none

/-- The checks of TABLE 6.5. -/
def State.restoreFailure (s : State) (g : Gantry) (ws : List Word) : Option Failure :=
  firstOf ([checkOf (!(s.gantry g).state.restorable) .gantryState (s.gantry g).state.number]
    ++ s.positionChecks g (word ws 1) ++ [s.dispositionFailure g ws])

/-- The slot that the panel of a restore is laid on, when it is (R116, step 1). -/
def State.restoreSlot (s : State) (g : Gantry) (ws : List Word) : Option Nat :=
  if (s.restorePanel g).isSome ∧ word ws 2 = 2 then s.addressed (word ws 3) else none

/-- The panel of a restore is disposed of (R116, step 1). -/
def State.disposePanel (s : State) (g : Gantry) (ws : List Word) : State :=
  match s.restorePanel g, s.restoreSlot g ws with
  | some p, some n => s.lay n p
  | some p, none => s.freeRecord p.record
  | none, _ => s

/-- A STRANDED gantry's task ends with no report; the offer of a remnant return leaves its saw's list (R116, R168). -/
def State.endStrandedTask (s : State) (g : Gantry) : State :=
  match (s.gantry g).task.map Task.kind with
  | some (.remnantReturn w) => s.removeOffer g w
  | _ => s

/-- The state that a restore leaves a gantry in (R116, step 5). -/
def State.restoredState (s : State) (g : Gantry) (ws : List Word) : GantryState :=
  if word ws 4 = 1 then (if s.gantryLinkUp g then .idle else .offline) else .parked

/-- A gantry's record after a restore (R116, steps 2 to 5). -/
def GantryRecord.restored (r : GantryRecord) (x : Nat) (span : Span) (state : GantryState) : GantryRecord :=
  { r.placedAt x span with state := state, carried := none, task := none, fault := none }

/-- The effects of a GANTRY_RESTORE (R116): every restore is a dispatch opportunity (R148), and the other gantry's search
runs again (R154, R165). -/
def State.restore (s : State) (g : Gantry) (ws : List Word) : State :=
  let t := (s.disposePanel g ws).endStrandedTask g
  (((t.setGantry g
    ((t.gantry g).restored (word ws 1) (t.geom.standing g (word ws 1)) (s.restoredState g ws))).latch (.gantry g)
      .serviceChanged).opportunity).retry (otherGantry g)

/-- The data of the reply to a restore (R116, step 6): `s` is the state before it and `t` the state after it. -/
def restoreData (s t : State) (g : Gantry) (ws : List Word) : RestoreData :=
  { serial := ((s.restorePanel g).map Panel.serial).getD 0
    slot := (s.restoreSlot g ws).map t.geom.slotName
    count := ((s.restoreSlot g ws).map fun n => (t.slot n).stack.length).getD 0
    height := ((s.restoreSlot g ws).map t.height).getD 0 }

/-- GANTRY_RESTORE's checks and effects (R115, R116). -/
def State.gantryRestore (s : State) (g : Gantry) (ws : List Word) : State × Reply :=
  s.unless .gantryRestore (s.restoreFailure g ws)
    (s.restore g ws, .accepted Message.gantryRestore.code 0 (some (restoreData s (s.restore g ws) g ws)))

/-- GANTRY_RESTORE (R115 to R117). -/
def execGantryRestore (p : Port) (payload : List Word) (s : State) : Host.Outcome State Fault Refusal :=
  .next (s.message .gantryRestore p payload fun t => t.gantryRestore (gantryOfNumber (word payload 0)) payload)

/-! ## STEP_DONE -/

/-- A position lies within a span. -/
def Span.holds (v : Span) (x : Nat) : Bool := decide (v.lo ≤ x ∧ x ≤ v.hi)

/-- A standing span cut to a granted span (R78). -/
def Span.cut (standing granted : Span) : Span := ⟨max standing.lo granted.lo, min standing.hi granted.hi⟩

/-- A gantry's record as a step completes at a position (R106, steps 1 to 3; R78, R95).  The last material is set where the
panel comes onto the head. -/
def State.completedRecord (s : State) (g : Gantry) (step : Step) (granted : Span) (x : Nat) : GantryRecord :=
  { s.gantry g with
    position := some x
    reservation := some ((s.geom.standing g x).cut granted)
    current := none
    lastDirection := (travelDirection (s.pos g) step.target).orElse fun _ => (s.gantry g).lastDirection
    lastCompletion := some s.clock
    stepsCompleted := (s.gantry g).stepsCompleted.step }

/-- A step completes (R106). -/
def State.completeStep (s : State) (g : Gantry) (step : Step) (granted : Span) (x : Nat) (o : StepOutcome) : State :=
  (s.setGantry g (s.completedRecord g step granted x)).stepCompleted g step (decide (o = .ok))

/-- The last reported outcome is kept (R107). -/
def State.noteOutcome (s : State) (g : Gantry) (o : StepOutcome) : State :=
  s.setGantry g { s.gantry g with lastOutcome := some o }

/-- An accepted STEP_DONE: the step completes, or the gantry becomes FAULTED with SPAN_VIOLATION (R106). -/
def State.acceptStep (s : State) (g : Gantry) (step : Step) (granted : Span) (x : Nat) (o : StepOutcome) : State :=
  if granted.holds x then (s.noteOutcome g o).completeStep g step granted x o
  else (s.noteOutcome g o).becomeFaulted g .spanViolation 0 false

/-- The outstanding step of a gantry with the given token, and its granted span (R105). -/
def GantryRecord.outstanding (r : GantryRecord) (token : Nat) : Option (Step × Span) :=
  if r.state = .stepping then
    r.current.bind fun c => c.issued.bind fun i => if i.token.toNat = token then some (c, i.span) else none
  else none

/-- STEP_DONE's checks and effects (R105, R106). -/
def State.stepDone (s : State) (g : Gantry) (ws : List Word) : State × Reply :=
  match (s.gantry g).outstanding (word ws 0) with
  | some (c, v) => (s.acceptStep g c v (word ws 1) (stepOutcomeOf (word ws 2)), acceptedReply .stepDone)
  | none => (s, refusedReply .stepDone .staleStep (word ws 0))

/-- STEP_DONE (R105 to R107). -/
def execStepDone (p : Port) (payload : List Word) (s : State) : Host.Outcome State Fault Refusal :=
  .next (s.message .stepDone p payload fun t => t.stepDone (portGantry p) payload)

/-! ## GANTRY_FAULT -/

/-- A drive fault is accepted (R109). -/
def State.driveFault (s : State) (g : Gantry) (subCode : Nat) : State :=
  (s.setGantry g { s.gantry g with driveFaults := (s.gantry g).driveFaults.step }).becomeFaulted g .driveFault
    (BitVec.ofNat 8 subCode) false

/-- GANTRY_FAULT's check and effects (R109). -/
def State.gantryFault (s : State) (g : Gantry) (ws : List Word) : State × Reply :=
  if (s.gantry g).state = .offline ∨ (s.gantry g).state = .faulted then
    (s, refusedReply .gantryFault .gantryState (s.gantry g).state.number)
  else (s.driveFault g (word ws 0), acceptedReply .gantryFault)

/-- GANTRY_FAULT (R109). -/
def execGantryFault (p : Port) (payload : List Word) (s : State) : Host.Outcome State Fault Refusal :=
  .next (s.message .gantryFault p payload fun t => t.gantryFault (portGantry p) payload)

/-! ## OVERRUN -/

/-- A gantry's step is outstanding and its limit has elapsed since its issue (R108, R177). -/
def State.overdue (s : State) (g : Gantry) : Bool :=
  decide ((s.gantry g).state = .stepping) &&
    ((s.gantry g).current.bind Step.issued).any fun i => decide (i.limit ≤ elapsed s.clock i.time)

/-- A step overruns (R108). -/
def State.overrunNow (s : State) (g : Gantry) : State :=
  ((s.setGantry g { s.gantry g with overruns := (s.gantry g).overruns.step }).becomeFaulted g .overrun 0 false).settle

/-- OVERRUN (R108); nothing happens while no step of the gantry is overdue. -/
def execOverrun (g : Gantry) (s : State) : Host.Outcome State Fault Refusal :=
  .next (if s.overdue g then s.overrunNow g else s)

/-! ## DWELL_END -/

/-- A gantry dwells and its dwell end is reached (R101, R177). -/
def State.dwellOver (s : State) (g : Gantry) : Bool :=
  decide ((s.gantry g).state = .dwell) && (s.gantry g).dwellEnd.any fun m => m.reached s.clock

/-- The dwell end is cleared and the grant of the step is requested (R101). -/
def State.endDwell (s : State) (g : Gantry) : State :=
  let t := s.setGantry g { s.gantry g with dwellEnd := none }
  match (s.gantry g).current with
  | some step => (State.settleRequest (t.request g step (t.requestedSpan g step)) g).settle
  | none => t

/-- DWELL_END (R101); nothing happens while no dwell end of the gantry is reached. -/
def execDwellEnd (g : Gantry) (s : State) : Host.Outcome State Fault Refusal :=
  .next (if s.dwellOver g then s.endDwell g else s)

/-! ## HOVER_TIMEOUT -/

/-- A gantry's hover hold has reached its end time (R119, R177). -/
def State.holdOverdue (s : State) (g : Gantry) : Bool :=
  decide ((s.gantry g).state = .hoverHold) && (s.gantry g).hold.any fun h => h.ends.reached s.clock

/-- The hover hold is cleared and the book ends aborted with HOVER_TIMEOUT (R119, R157). -/
def State.timeOutHold (s : State) (g : Gantry) : State :=
  ((s.setGantry g { s.gantry g with hold := none }).endBook g .hoverTimeout).settle

/-- HOVER_TIMEOUT (R119); nothing happens while no hover hold of the gantry is overdue. -/
def execHoverTimeout (g : Gantry) (s : State) : Host.Outcome State Fault Refusal :=
  .next (if s.holdOverdue g then s.timeOutHold g else s)

end Sys2Proof.Machine
end

