-- ==== Sys2Proof/Machine/CellCommands.lean ====
section
/-! DEFINITION. The meanings of the cell commands, of COUNTS_QUERY, STATUS_QUERY and STATUS_PEEK, and of the tick of the cell
clock (chapter 9, R192, R193). -/

namespace Sys2Proof.Machine

/-- The ACCEPTED of a cell command. -/
def acceptedCommand : Reply := acceptedReply .cellCommand

/-- A state with the cell in another cell state (R171). -/
def State.setCell (s : State) (c : CellState) : State := { s with cell := c }

/-! ## OPEN, HALT, RESUME, CLOSE -/

/-- OPEN (R174): a dispatch opportunity. -/
def execOpenCell (p : Port) (s : State) : Host.Outcome State Fault Refusal :=
  .next (s.command .openCell p fun t => ((t.setCell .opened).opportunity, acceptedCommand))

/-- HALT (R174). -/
def execHaltCell (p : Port) (s : State) : Host.Outcome State Fault Refusal :=
  .next (s.command .haltCell p fun t => (t.setCell .halted, acceptedCommand))

/-- RESUME (R174): a dispatch opportunity. -/
def execResumeCell (p : Port) (s : State) : Host.Outcome State Fault Refusal :=
  .next (s.command .resumeCell p fun t => ((t.setCell .opened).opportunity, acceptedCommand))

/-- The number of gantries that hold a task (R175). -/
def State.tasks (s : State) : Nat :=
  (if (s.gantry .west).task.isSome then 1 else 0) + (if (s.gantry .east).task.isSome then 1 else 0)

/-- CLOSE's check and effect (R175). -/
def State.close (s : State) : State × Reply :=
  if 0 < s.tasks then (s, refusedReply .cellCommand .cellBusy s.tasks) else (s.setCell .closed, acceptedCommand)

/-- CLOSE (R175). -/
def execCloseCell (p : Port) (s : State) : Host.Outcome State Fault Refusal :=
  .next (s.command .closeCell p State.close)

/-! ## Counts and the Kind Locator -/

/-- Every live value is copied into its latched value (R176). -/
def State.latchCounts (s : State) : State := s.mapCounters Counter.latch Timer.latch

/-- LATCH_COUNTS (R176). -/
def execLatchCounts (p : Port) (s : State) : Host.Outcome State Fault Refusal :=
  .next (s.command .latchCounts p fun t => (t.latchCounts, acceptedCommand))

/-- Every live value, latched value and residue becomes 0 (R176). -/
def State.clearCounts (s : State) : State := s.mapCounters (fun _ => .zero) fun _ => .zero

/-- CLEAR_COUNTS (R176). -/
def execClearCounts (p : Port) (s : State) : Host.Outcome State Fault Refusal :=
  .next (s.command .clearCounts p fun t => (t.clearCounts, acceptedCommand))

/-- LOCATOR_FLUSH (R173, R65). -/
def execLocatorFlush (p : Port) (s : State) : Host.Outcome State Fault Refusal :=
  .next (s.command .locatorFlush p fun t => (t.flushLocator, acceptedCommand))

/-- A state with pin mode on or off (R64). -/
def State.setPinMode (s : State) (b : Bool) : State := { s with pinMode := b }

/-- PIN_ON (R64). -/
def execPinOn (p : Port) (s : State) : Host.Outcome State Fault Refusal :=
  .next (s.command .pinOn p fun t => (t.setPinMode true, acceptedCommand))

/-- PIN_OFF (R64). -/
def execPinOff (p : Port) (s : State) : Host.Outcome State Fault Refusal :=
  .next (s.command .pinOff p fun t => (t.setPinMode false, acceptedCommand))

/-! ## CELL_RESET -/

/-- A gantry that the reset makes IDLE (R118): it drops its task, its steps, its dwell end and its former state, and a BLANK
record goes back to FREE (R37). -/
def State.idleByReset (s : State) (g : Gantry) : State :=
  (s.freeRecordOpt ((s.gantry g).task.bind Task.blank)).setGantry g
    { s.gantry g with
      state := .idle
      task := none
      current := none
      setAside := none
      former := none
      dwellEnd := none }

/-- What CELL_RESET does to a gantry (R118, R111). -/
def State.resetGantry (s : State) (g : Gantry) : State :=
  match (s.gantry g).state with
  | .stepping | .hoverHold | .stranded => s.becomeFaulted g .cellReset 0 true
  | .dwell | .waitGrant =>
    if (s.gantry g).carried.isSome then s.becomeFaulted g .cellReset 0 true else s.idleByReset g
  | .idle | .parked | .offline => s
  | .faulted => s.secondCause g .cellReset

/-- What CELL_RESET does to a saw (R143): its lists are emptied silently, RESET_SEEN latches on its port and its pacing end is
recomputed. -/
def State.resetSaw (s : State) (w : Saw) : State :=
  (s.setSaw w (SawRecord.repaced { s.saw w with books := [], offers := [] } s.clock)).latch (.saw w) .resetSeen

/-- Every claim is released, and no search runs again (R26, R37). -/
def State.releaseEveryClaim (s : State) : State :=
  { s with slots := s.slots.map fun r => { r with claim := none } }

/-- The cell state after CELL_RESET (R171). -/
def CellState.afterReset (c : CellState) : CellState := if c = .noLayout then .noLayout else .closed

/-- CELL_RESET's effects (R184, TABLE 9.6).  The west gantry is taken before the east one, which decides the slot most recently
marked (R27) and the order in which BLANK records go back to the free list (R37): DESIGN CHOICE, log entry 30. -/
def State.cellReset (s : State) : State :=
  let t := ((s.setCell s.cell.afterReset).resetGantry .west).resetGantry .east
  let u := (((t.resetSaw .saw1).resetSaw .saw2).resetSaw .saw3).resetSaw .saw4
  { (u.releaseEveryClaim.flushLocator).setPinMode false with duties := .none }

/-- CELL_RESET (R184). -/
def execCellReset (p : Port) (s : State) : Host.Outcome State Fault Refusal :=
  .next (s.command .cellReset p fun t => (t.cellReset, acceptedCommand))

/-! ## CELL_COMMAND -/

/-- A CELL_COMMAND's payload spells one of the ten commands (TABLE 10.12): the frame is that command's row. -/
def namesCommand (payload : List Word) : Bool := decide (payload.length = 1 ∧ word payload 0 ≤ 9)

/-- CELL_COMMAND (R173): the message checks refuse the frame, since it names none of the ten commands.  A payload that names
one is that command's row, and changes nothing here. -/
def execCellCommand (p : Port) (payload : List Word) (s : State) : Host.Outcome State Fault Refusal :=
  .next (if namesCommand payload then s
    else s.message .cellCommand p payload fun t => (t, refusedReply .cellCommand .badField 0))

/-! ## Queries -/

/-- COUNTS_QUERY (R176). -/
def execCountsQuery (p : Port) (payload : List Word) (s : State) : Host.Outcome State Fault Refusal :=
  .next (s.message .countsQuery p payload fun t => (t, .countsReply t.latchedCounts))

/-- What a STATUS_QUERY clears (R193). -/
def PortRecord.cleared (r : PortRecord) : PortRecord :=
  { r with flags := [], attention := false, framingCount := 0, crcCount := 0 }

/-- STATUS_QUERY (R193). -/
def execStatusQuery (p : Port) (payload : List Word) (s : State) : Host.Outcome State Fault Refusal :=
  .next (s.message .statusQuery p payload fun t =>
    (t.setPort p (t.port p).cleared, .statusReply (t.statusView p)))

/-- STATUS_PEEK (R193). -/
def execStatusPeek (p : Port) (payload : List Word) (s : State) : Host.Outcome State Fault Refusal :=
  .next (s.message .statusPeek p payload fun t => (t, .statusReply (t.statusView p)))

/-! ## The clock -/

/-- The clock steps by one and each running saw timer adds one to its residue (R177, R145). -/
def State.tick (s : State) : State :=
  { s with
    clock := s.clock + 1
    saws := ⟨s.tickTimers .saw1, s.tickTimers .saw2, s.tickTimers .saw3, s.tickTimers .saw4⟩ }

/-- CELL_CLOCK_TICK (R177). -/
def execCellClockTick (s : State) : Host.Outcome State Fault Refusal := .next s.tick

end Sys2Proof.Machine
end

