-- ==== Sys2Proof/Machine/LayoutCommands.lean ====
section
/-! DEFINITION. The meanings of the events of start-up and of the layout: POWER_ON, the ends of a read and of a write of the
layout memory, LAYOUT_SET and LAYOUT_QUERY (chapter 1, R178 to R183). -/

namespace Sys2Proof.Machine

/-! ## Power-on -/

/-- The layout memory when power is lost, `n` words of a write in progress having been written (R183). -/
def State.memoryAtLoss (s : State) (n : Nat) : List Word :=
  match s.loader, s.writeRecord with
  | .writing, some ws => (memoryImage ws).take n ++ s.memory.drop (min n 97)
  | _, _ => s.memory

/-- The state after power-on (R179).  The commands that wait and the number of the next free value are the model's own and
go on. -/
def State.powerOn (s : State) (n : Nat) : State :=
  { State.atPowerOn (s.memoryAtLoss n) with freeNext := s.freeNext, pending := s.pending }

/-- POWER_ON (R179). -/
def execPowerOn (n : Nat) (s : State) : Host.Outcome State Fault Refusal := .next (s.powerOn n)

/-! ## The first layout -/

/-- A gantry at its home under a first layout (R73, R98). -/
def GantryRecord.atHome (r : GantryRecord) (l : Layout) (g : Gantry) : GantryRecord :=
  { r with position := some (l.home g), reservation := some (l.standing g (l.home g)), frozen := false }

/-- A first layout becomes active (R179, R36, R73): the cell becomes CLOSED.  The check number of a layout read as invalid stays
shown (DESIGN CHOICE, log entry 32). -/
def State.firstLayout (s : State) (l : Layout) : State :=
  State.setGantry (State.setGantry
    { s with layout := some l, cell := .closed, slots := List.replicate l.slotCount emptySlot }
    .west (s.gantries.west.atHome l .west)) .east (s.gantries.east.atHome l .east)

/-! ## The end of the read -/

/-- What a read of the layout memory delivers: every word 0xFFFF when the memory does not answer (R179). -/
def State.wordsRead (s : State) (answers : Bool) : List Word :=
  if answers then s.memory else List.replicate 97 0xFFFF

/-- The words agree with their CRC (R178). -/
def memoryAgrees (ws : List Word) : Bool := decide (crc (ws.take 96) = ws.getD 96 0)

/-- The words that a power-on read has delivered are judged (R179). -/
def State.judgeMemory (s : State) (ws : List Word) : State :=
  if ws.getD 0 0xFFFF = 0xFFFF then s.latch .planner .layoutBlank
  else if memoryAgrees ws = false then s.latch .planner .layoutCorrupt
  else
    match (layoutOfWords (ws.take 44)).firstFailure with
    | some c => State.latch { s with invalidCheck := some c } .planner .layoutInvalid
    | none => s.firstLayout (layoutOfWords (ws.take 44))

/-- The read of the layout memory ends; none ends while the loader is not READING. -/
def State.readEnd (s : State) (answers : Bool) : State :=
  if s.loader = .reading then State.settle (State.judgeMemory { s with loader := .idle } (s.wordsRead answers)) else s

/-- LAYOUT_READ_END (R179). -/
def execLayoutReadEnd (answers : Bool) (s : State) : Host.Outcome State Fault Refusal := .next (s.readEnd answers)

/-! ## The end of a write -/

/-- Every word read back equals the word written (R183). -/
def State.writeHolds (s : State) (answers : Bool) (left : List Word) : Bool :=
  answers && decide (s.writeRecord.map memoryImage = some left)

/-- The write of the layout memory ends; none ends while the loader is not WRITING. -/
def State.writeEnd (s : State) (answers : Bool) (left : List Word) : State :=
  if s.loader = .writing then
    State.latch { s with loader := .idle, writeRecord := none, memory := left } .planner
      (if s.writeHolds answers left then .layoutWritten else .layoutWriteFail)
  else s

/-- LAYOUT_WRITE_END (R183). -/
def execLayoutWriteEnd (answers : Bool) (left : List Word) (s : State) : Host.Outcome State Fault Refusal :=
  .next (s.writeEnd answers left)

/-! ## LAYOUT_SET: the checks -/

/-- The lowest slot number that holds a panel (TABLE 9.4, check 4). -/
def State.lowestOccupied (s : State) : Option Nat := s.slotNumbers.find? fun n => !(s.slot n).stack.isEmpty

/-- Whether a layout has the lanes and the bays of the active one. -/
def State.sameGrid (s : State) (l : Layout) : Bool := decide (l.lanes = s.geom.lanes ∧ l.bays = s.geom.bays)

/-- The greatest height of a stack. -/
def State.tallest (s : State) : Nat := (s.slotNumbers.map s.height).foldl max 0

/-- A gantry's reservation recomputed under a new layout (R90). -/
def State.recomputed (s : State) (l : Layout) (g : Gantry) : Span :=
  match (s.gantry g).state with
  | .faulted | .stepping => s.span g
  | _ => l.standing g (s.pos g)

/-- Tests 1 and 2 of TABLE 9.5: the gantry's position, or the target of its outstanding step, lies outside its new limits. -/
def State.outsideLimits (s : State) (l : Layout) (g : Gantry) : Bool :=
  !((l.gantries.get g).reaches (s.pos g)) ||
    (decide ((s.gantry g).state = .stepping) &&
      (s.gantry g).current.any fun c => !((l.gantries.get g).reaches c.target))

/-- The runway tests of check 6, in order: the number of the first that fails (TABLE 9.5). -/
def State.runwayTest (s : State) (l : Layout) : Option Nat :=
  if s.outsideLimits l .west then some 1
  else if s.outsideLimits l .east then some 2
  else if l.runwayLength < (s.recomputed l .west).hi ∨ l.runwayLength < (s.recomputed l .east).hi then some 3
  else if (s.recomputed l .east).lo ≤ (s.recomputed l .west).hi then some 4
  else none

/-- Checks 4 to 6 of TABLE 9.4, made while a layout is active (R181). -/
def State.layoutConflict (s : State) (l : Layout) : Option (RefusalCode × Nat) :=
  match (if s.sameGrid l then none else s.lowestOccupied) with
  | some n => some (.storeNotEmpty, n)
  | none =>
    if l.maxStackHeight < s.tallest then some (.layoutInvalid, 109)
    else (s.runwayTest l).map fun t => (.spanConflict, t)

/-- Whether a LAYOUT_SET's store flag is set. -/
def storeFlag (payload : List Word) : Bool := decide (word payload 44 = 1)

/-- The record that a LAYOUT_SET carries. -/
def carriedLayout (payload : List Word) : Layout := layoutOfWords (payload.take 44)

/-- The checks of TABLE 9.4, in order: the first that fails. -/
def State.layoutRefusal (s : State) (payload : List Word) : Option (RefusalCode × Nat) :=
  if s.loader = .reading then some (.cellBusy, 0)
  else if storeFlag payload = true ∧ s.loader = .writing then some (.cellBusy, 0)
  else
    match (carriedLayout payload).firstFailure with
    | some c => some (.layoutInvalid, c)
    | none => if s.layout.isSome then s.layoutConflict (carriedLayout payload) else none

/-! ## LAYOUT_SET: the effects -/

/-- A change of lanes or bays (R13). -/
def State.renumber (s : State) (l : Layout) : State :=
  if s.sameGrid l then s
  else State.flushLocator { s with slots := List.replicate l.slotCount emptySlot, lastMarked := none }

/-- The state that a gantry whose yield is withdrawn goes back to (R90).  A crossing yielder whose step was dropped by a
BOOK_ABORT has no former state; it goes back to IDLE (DESIGN CHOICE, log entry 31). -/
def GantryRecord.formerState (r : GantryRecord) : GantryState :=
  match r.former with
  | some .stranded => .stranded
  | _ => .idle

/-- A gantry's record with a yield not yet granted withdrawn (R90). -/
def GantryRecord.withdrawYield (r : GantryRecord) : GantryRecord :=
  if (r.state = .dwell ∨ r.state = .waitGrant) ∧ r.current.map Step.kind = some .travelOnly then
    { r with state := r.formerState, current := none, former := none, dwellEnd := none }
  else r

/-- A gantry's reservation is recomputed, and its yield withdrawn (R90). -/
def State.recompute (s : State) (l : Layout) (g : Gantry) : State :=
  s.setGantry g { (s.gantry g).withdrawYield with reservation := some (s.recomputed l g) }

/-- A saw that a new layout makes absent loses its lists silently, and RESET_SEEN latches on its port (R123). -/
def State.loseSaw (s : State) (l : Layout) (w : Saw) : State :=
  if s.sawPresent w = true ∧ (l.sawPlace w).present ≠ 1 then
    (s.setSaw w { s.saw w with books := [], offers := [] }).latch (.saw w) .resetSeen
  else s

/-- The changes from an old layout to a new one (R182, step 2). -/
def State.nextLayout (s : State) (l : Layout) : State :=
  let t := ((((s.loseSaw l .saw1).loseSaw l .saw2).loseSaw l .saw3).loseSaw l .saw4).renumber l
  { (t.recompute l .west).recompute l .east with layout := some l }

/-- A layout becomes active (R182, steps 1 and 2). -/
def State.activate (s : State) (l : Layout) : State := if s.layout.isSome then s.nextLayout l else s.firstLayout l

/-- A write of a record begins (R183). -/
def State.beginWrite (s : State) (record : List Word) : State :=
  { s with loader := .writing, writeRecord := some record }

/-- LAYOUT_SET's checks and effects (R181, R182). -/
def State.layoutSet (s : State) (payload : List Word) : State × Reply :=
  match s.layoutRefusal payload with
  | some (c, d) => (s, refusedReply .layoutSet c d)
  | none =>
    (if storeFlag payload then (s.activate (carriedLayout payload)).beginWrite (payload.take 44)
      else s.activate (carriedLayout payload), acceptedReply .layoutSet)

/-- LAYOUT_SET (R181, R182). -/
def execLayoutSet (p : Port) (payload : List Word) (s : State) : Host.Outcome State Fault Refusal :=
  .next (s.message .layoutSet p payload fun t => t.layoutSet payload)

/-- LAYOUT_REPLY (R180). -/
def State.layoutReply (s : State) : Reply := .layoutReply s.cell s.loader (s.layout.map Layout.words)

/-- LAYOUT_QUERY (R180). -/
def execLayoutQuery (p : Port) (payload : List Word) (s : State) : Host.Outcome State Fault Refusal :=
  .next (s.message .layoutQuery p payload fun t => (t, t.layoutReply))

end Sys2Proof.Machine
end

