-- ==== Sys2Proof/Machine/LinkEvents.lean ====
section
/-! DEFINITION. The meanings of the events of the station links: frames and words received, flow characters, carrier losses
and returns, frames sent, and messages of unknown code (R185 to R195). -/

namespace Sys2Proof.Machine

/-! ## Words -/

/-- The words of a candidate frame have arrived, the last of them end-marked (R187). -/
def State.frameReceived (s : State) (p : Port) (ws : List Word) : State := s.setPort p ((s.port p).receiveFrame ws)

/-- FRAME_RECEIVED (R187, R188). -/
def execFrameReceived (p : Port) (ws : List Word) (s : State) : Host.Outcome State Fault Refusal :=
  .next (s.frameReceived p ws)

/-- Words without an end marker have arrived, so many that the alignment buffer is full (R187). -/
def State.bufferFull (s : State) (p : Port) (ws : List Word) : State := s.setPort p ((s.port p).receiveUnmarked ws)

/-- RECEIVE_BUFFER_FULL (R187). -/
def execReceiveBufferFull (p : Port) (ws : List Word) (s : State) : Host.Outcome State Fault Refusal :=
  .next (s.bufferFull p ws)

/-- An end-marked word arrives at a port. -/
def State.markedWord (s : State) (p : Port) (w : Word) : State := s.setPort p ((s.port p).receive w true)

/-- FLOW_STOP (R186): the end-marked word 0x0F0F arrives. -/
def execFlowStop (p : Port) (s : State) : Host.Outcome State Fault Refusal := .next (s.markedWord p 0x0F0F)

/-- FLOW_GO (R186): the end-marked word 0x0F00 arrives. -/
def execFlowGo (p : Port) (s : State) : Host.Outcome State Fault Refusal := .next (s.markedWord p 0x0F00)

/-- NEXT_END_MARKED_WORD (R187). -/
def execNextEndMarkedWord (p : Port) (w : Word) (s : State) : Host.Outcome State Fault Refusal :=
  .next (s.markedWord p w)

/-! ## Sending -/

/-- FRAME_SENT (R191): the frame being sent leaves the outbound queue. -/
def execFrameSent (p : Port) (s : State) : Host.Outcome State Fault Refusal := .next (s.setPort p (s.port p).sent)

/-! ## Carrier -/

/-- What a port loses at its carrier loss (R194).  It keeps its counts, its change flags and its attention latch. -/
def PortRecord.lostCarrier (r : PortRecord) : PortRecord :=
  { r with
    carrierUp := false
    buffer := []
    inbound := []
    outbound := []
    sending := false
    pushedWaiting := [] }

/-- The loss of a gantry's link (R112). -/
def State.gantryLinkLost (s : State) (g : Gantry) : State :=
  match (s.gantry g).state with
  | .offline | .stepping => s
  | .idle | .parked => s.setGantry g { s.gantry g with state := .offline }
  | .dwell | .waitGrant | .hoverHold | .stranded => s.becomeFaulted g .linkLost 0 false
  | .faulted => s.secondCause g .linkLost

/-- The role's effects of a carrier loss (R194, R112, R142). -/
def State.roleLinkLost (s : State) : Port → State
  | .planner => s
  | .saw w => s.setSaw w { s.saw w with table := .unknown }
  | .gantry g => s.gantryLinkLost g

/-- The carrier of a port is lost; a port whose carrier is DOWN has none to lose. -/
def State.carrierLoss (s : State) (p : Port) : State :=
  if (s.port p).carrierUp then ((s.setPort p (s.port p).lostCarrier).roleLinkLost p).settle else s

/-- CARRIER_LOSS (R194). -/
def execCarrierLoss (p : Port) (s : State) : Host.Outcome State Fault Refusal := .next (s.carrierLoss p)

/-- The role's effects of a carrier return: for a saw's port a dispatch opportunity (R142, R113). -/
def State.roleLinkBack (s : State) : Port → State
  | .saw _ => s.opportunity
  | _ => s

/-- The carrier of a port returns (R194): the flow state becomes GO and sending resumes (R191). -/
def State.carrierReturn (s : State) (p : Port) : State :=
  if (s.port p).carrierUp then s
  else
    ((s.setPort p (PortRecord.wake { s.port p with carrierUp := true, flowGo := true })).roleLinkBack p).settle

/-- CARRIER_RETURN (R194). -/
def execCarrierReturn (p : Port) (s : State) : Host.Outcome State Fault Refusal := .next (s.carrierReturn p)

/-! ## Unknown messages -/

/-- UNKNOWN_MESSAGE (R189, check 1): the detail word is the code.  An inbound code is no unknown message. -/
def execUnknownMessage (p : Port) (code : BitVec 8) (payload : List Word) (s : State) :
    Host.Outcome State Fault Refusal :=
  .next (if inboundCode code then s
    else s.process p ⟨code, payload⟩ fun t => (t, .refused code .unknownMessage (code.setWidth 16)))

end Sys2Proof.Machine
end

