-- ==== Sys2Proof/Machine/Dispatch.lean ====
section
/-! DEFINITION. The effect of a command on everything but the queue of commands: one arm per row of the opcode table. -/

namespace Sys2Proof.Machine

def exec (i : Instr) (s : State) : Host.Outcome State Fault Refusal :=
  match i with
  | .powerOn n => Sys2Proof.Machine.execPowerOn n s
  | .layoutReadEnd b => Sys2Proof.Machine.execLayoutReadEnd b s
  | .layoutWriteEnd b ws => Sys2Proof.Machine.execLayoutWriteEnd b ws s
  | .frameReceived p ws => Sys2Proof.Machine.execFrameReceived p ws s
  | .receiveBufferFull p ws => Sys2Proof.Machine.execReceiveBufferFull p ws s
  | .flowStop p => Sys2Proof.Machine.execFlowStop p s
  | .flowGo p => Sys2Proof.Machine.execFlowGo p s
  | .carrierLoss p => Sys2Proof.Machine.execCarrierLoss p s
  | .carrierReturn p => Sys2Proof.Machine.execCarrierReturn p s
  | .frameSent p => Sys2Proof.Machine.execFrameSent p s
  | .unknownMessage p c ws => Sys2Proof.Machine.execUnknownMessage p c ws s
  | .layoutSet p ws => Sys2Proof.Machine.execLayoutSet p ws s
  | .layoutQuery p ws => Sys2Proof.Machine.execLayoutQuery p ws s
  | .kindSet p ws => Sys2Proof.Machine.execKindSet p ws s
  | .kindQuery p ws => Sys2Proof.Machine.execKindQuery p ws s
  | .areaSet p ws => Sys2Proof.Machine.execAreaSet p ws s
  | .areaQuery p ws => Sys2Proof.Machine.execAreaQuery p ws s
  | .stackRegister p ws => Sys2Proof.Machine.execStackRegister p ws s
  | .stackWithdraw p ws => Sys2Proof.Machine.execStackWithdraw p ws s
  | .slotRelease p ws => Sys2Proof.Machine.execSlotRelease p ws s
  | .slotQuery p ws => Sys2Proof.Machine.execSlotQuery p ws s
  | .sawSet p ws => Sys2Proof.Machine.execSawSet p ws s
  | .sawQuery p ws => Sys2Proof.Machine.execSawQuery p ws s
  | .gantryPark p ws => Sys2Proof.Machine.execGantryPark p ws s
  | .gantryRestore p ws => Sys2Proof.Machine.execGantryRestore p ws s
  | .openCell p => Sys2Proof.Machine.execOpenCell p s
  | .haltCell p => Sys2Proof.Machine.execHaltCell p s
  | .resumeCell p => Sys2Proof.Machine.execResumeCell p s
  | .closeCell p => Sys2Proof.Machine.execCloseCell p s
  | .latchCounts p => Sys2Proof.Machine.execLatchCounts p s
  | .clearCounts p => Sys2Proof.Machine.execClearCounts p s
  | .locatorFlush p => Sys2Proof.Machine.execLocatorFlush p s
  | .pinOn p => Sys2Proof.Machine.execPinOn p s
  | .pinOff p => Sys2Proof.Machine.execPinOff p s
  | .cellReset p => Sys2Proof.Machine.execCellReset p s
  | .countsQuery p ws => Sys2Proof.Machine.execCountsQuery p ws s
  | .bookRequest p ws => Sys2Proof.Machine.execBookRequest p ws s
  | .bookAbort p ws => Sys2Proof.Machine.execBookAbort p ws s
  | .bookTaken p ws => Sys2Proof.Machine.execBookTaken p ws s
  | .tableState p ws => Sys2Proof.Machine.execTableState p ws s
  | .remnantOffer p ws => Sys2Proof.Machine.execRemnantOffer p ws s
  | .gantryReady p ws => Sys2Proof.Machine.execGantryReady p ws s
  | .stepDone p ws => Sys2Proof.Machine.execStepDone p ws s
  | .gantryFault p ws => Sys2Proof.Machine.execGantryFault p ws s
  | .statusQuery p ws => Sys2Proof.Machine.execStatusQuery p ws s
  | .statusPeek p ws => Sys2Proof.Machine.execStatusPeek p ws s
  | .overrun g => Sys2Proof.Machine.execOverrun g s
  | .dwellEnd g => Sys2Proof.Machine.execDwellEnd g s
  | .hoverTimeout g => Sys2Proof.Machine.execHoverTimeout g s
  | .pacingEnd w => Sys2Proof.Machine.execPacingEnd w s
  | .pacingRuleUnsatisfied w => Sys2Proof.Machine.execPacingRuleUnsatisfied w s
  | .sawTimerStep w t => Sys2Proof.Machine.execSawTimerStep w t s
  | .cellClockTick => Sys2Proof.Machine.execCellClockTick s
  | .nextEndMarkedWord p v => Sys2Proof.Machine.execNextEndMarkedWord p v s
  | .cellCommand p ws => Sys2Proof.Machine.execCellCommand p ws s

end Sys2Proof.Machine
end

