-- ==== Sys2Proof/Safety.lean ====
section
/-! DEFINITION. What a sound state is, and the terms in which the statements speak of a message that is answered: the runway
(R73, R75, R88, R98), the station ports (R185, R188, R191, R192), the slots (R23, R25), the Kind Locator (R58), the saws' lists
(R128, R139), the work of the gantries (TABLE 6.1, TABLE 8.1), the pool and the stacks (R20, R22, R24), and a port that is ready to
answer a frame (R189). -/

namespace Sys2Proof.Machine

/-! ## The runway -/

/-- The step that a gantry has outstanding, as issued. -/
def GantryRecord.issued (r : GantryRecord) : Option Issued := r.current.bind Step.issued

/-- Both gantries hold a reservation, and the west one ends before the east one begins (R75). -/
def State.Apart (s : State) : Prop :=
  ∃ w e, (s.gantry .west).reservation = some w ∧ (s.gantry .east).reservation = some e ∧ w.hi < e.lo

/-- The runway is sound: the cell is NO_LAYOUT exactly while no layout is active, the loader reads only then, and the active layout
is valid (R3, R171); before the first layout both gantries are OFFLINE; under a layout their reservations are apart (R73, R75),
and each gantry's recorded position lies within its reservation and the reservation within the runway (R73, R88, R98); a span
that a gantry waits for holds its position and lies within the runway too (R74, R77); and an outstanding step belongs to a
STEPPING gantry, whose reservation is the step's granted span (TABLE 5.2). -/
structure State.RunwaySound (s : State) : Prop where
  noLayout : s.cell = .noLayout ↔ s.layout = none
  reading : s.loader = .reading → s.layout = none
  valid : ∀ l, s.layout = some l → l.firstFailure = none
  before : s.layout = none → ∀ g, (s.gantry g).state = .offline
  apart : s.layout.isSome → s.Apart
  inside : s.layout.isSome → ∀ g, ∃ x v, (s.gantry g).position = some x ∧ (s.gantry g).reservation = some v ∧ v.lo ≤ x ∧
    x ≤ v.hi ∧ v.hi ≤ s.geom.runwayLength
  waiting : ∀ g q, (s.gantry g).state = .waitGrant → (s.gantry g).current.bind Step.request = some q →
    q.span.lo ≤ s.pos g ∧ s.pos g ≤ q.span.hi ∧ q.span.hi ≤ s.geom.runwayLength
  outstanding : ∀ g i, (s.gantry g).issued = some i →
    (s.gantry g).state = .stepping ∧ (s.gantry g).reservation = some i.span

/-! ## The ports -/

/-- A port is sound: the alignment buffer holds fewer than 64 words between two words (R187), the inbound queue at most 4
frames (R188) and the outbound queue at most 8; while the pending list is not empty the outbound queue is full (R191); a frame
is being sent only while there is one and the carrier is UP (R191); and the attention latch is set while a flag is latched
(R192). -/
structure PortRecord.Sound (r : PortRecord) : Prop where
  buffer : r.buffer.length < 64
  inbound : r.inbound.length ≤ 4
  outbound : r.outbound.length ≤ 8
  waiting : r.pushedWaiting ≠ [] → r.outbound.length = 8
  sending : r.sending = true → r.outbound ≠ [] ∧ r.carrierUp = true
  attention : r.flags ≠ [] → r.attention = true

/-- Every port is sound. -/
def State.PortsSound (s : State) : Prop := ∀ p, (s.port p).Sound

/-! ## The slots -/

/-- The slots are sound: there is one record for each slot of the active layout and none before (R23, R36), and no slot is both
claimed and suspect (R25). -/
structure State.SlotsSound (s : State) : Prop where
  count : s.slots.length = (s.layout.map Layout.slotCount).getD 0
  exclusive : ∀ r ∈ s.slots, r.suspect = true → r.claim = none

/-! ## The Kind Locator -/

/-- The ranks that the ways of a set hold. -/
def ranksOf (ws : List Way) : List Nat :=
  ws.filterMap fun w =>
    match w with
    | .ranked r _ _ => some r
    | _ => none

/-- The tags that the ways of a set hold. -/
def tagsOf (ws : List Way) : List Nat := ws.filterMap Way.tag?

/-- The ranks of a set's n unpinned valid ways are 1 to n, each once (R58). -/
def RanksSound (ws : List Way) : Prop := (ranksOf ws).Perm (List.range' 1 (rankedCount ws))

/-- The Kind Locator is sound (R58): 32 sets of 4 ways, in each of which the ranks are sound and no two valid ways share a
tag. -/
def State.LocatorSound (s : State) : Prop :=
  s.locator.length = 32 ∧ ∀ ws ∈ s.locator, ws.length = 4 ∧ RanksSound ws ∧ (tagsOf ws).Nodup

/-! ## The saws -/

/-- A book record agrees with itself (R127, R152, R153, R158): it has 1 to 6 entries and the lift in progress is one of them; as many
panels are placed as lifts have ended, none of a QUEUED book and all of a RELEASED one. -/
structure Book.Sound (b : Book) : Prop where
  entries : b.entries.length ≤ 6
  lift : 1 ≤ b.lift ∧ b.lift ≤ b.entries.length
  placed : b.placed.length =
    match b.state with
    | .queued => 0
    | .assembling => b.lift - 1
    | .released => b.entries.length
  first : b.state = .queued → b.lift = 1

/-- A saw's lists are sound: the backlog limit is 1 to 3 and the pacing windows are at most 60,000 (TABLE 7.2); the pacing list holds at
most three times (R132); the book list holds RELEASED records, then at most one ASSEMBLING
record, then QUEUED ones, at most 3 RELEASED or ASSEMBLING and at most 4 QUEUED, with distinct tags (R128, R131); the offer list
holds at most 2 offers, and none but the head offer is IN_PROGRESS (R139). -/
structure SawRecord.Sound (r : SawRecord) : Prop where
  limit : 1 ≤ r.settings.backlogLimit ∧ r.settings.backlogLimit ≤ 3
  windows : r.settings.w1 ≤ 60000 ∧ r.settings.w2 ≤ 60000 ∧ r.settings.w3 ≤ 60000
  pacing : r.pacing.length ≤ 3
  order : ∃ released assembling queued : Nat, assembling ≤ 1 ∧ released + assembling ≤ 3 ∧ queued ≤ 4 ∧
    r.books.map Book.state =
      List.replicate released .released ++ List.replicate assembling .assembling ++ List.replicate queued .queued
  tags : (r.books.map Book.tag).Nodup
  books : ∀ b ∈ r.books, b.Sound
  offers : r.offers.length ≤ 2
  waiting : ∀ o ∈ r.offers.tail, o.state = .waiting

/-- Every saw's lists are sound. -/
def State.SawsSound (s : State) : Prop := ∀ w, (s.saw w).Sound

/-! ## The work of the gantries -/

/-- The phases of a task whose panel is on the gantry's head (TABLE 8.1). -/
def Phase.loaded : Phase → Bool
  | .hovering | .holding | .placing | .putting | .stranded => true
  | .sourceWait | .picking | .outfeedPick => false

/-- A task agrees with itself and with what the head carries (TABLE 8.1, R21, R163, R166): the phases of a lift are a book's, the outfeed
pickup is a remnant return's, and puts and stranding are no book's; a pool record is BLANK exactly until the pickup; and a destination
is held from the start of a remnant return, and otherwise only while a put is prepared or under way. -/
structure Task.Sound (t : Task) (carried : Option Panel) : Prop where
  head : carried.isSome = t.phase.loaded
  kind : match t.phase with
    | .sourceWait | .picking | .hovering | .holding | .placing => ∃ w tag, t.kind = .book w tag
    | .outfeedPick => ∃ w, t.kind = .remnantReturn w
    | .putting | .stranded => ∀ w tag, t.kind ≠ .book w tag
  blank : t.blank.isSome ↔ t.phase = .outfeedPick
  destination : t.destination.isSome → t.phase = .putting ∨ t.phase = .outfeedPick
  outfeed : t.phase = .outfeedPick → t.destination.isSome

/-- The step that a task's phase calls for (R153, R155, R157, R163, R166). -/
def Task.Calls (t : Task) (c : Step) : Prop :=
  match t.phase with
  | .picking => c.kind = .travelPick ∧ c.slot.isSome ∧ c.slot = t.source
  | .outfeedPick => c.kind = .travelPick ∧ c.slot = none ∧ ∃ w, t.kind = .remnantReturn w ∧ c.saw = some w
  | .hovering => c.kind = .travelHover ∧ ∃ w tag, t.kind = .book w tag ∧ c.saw = some w
  | .placing => c.kind = .place ∧ ∃ w tag, t.kind = .book w tag ∧ c.saw = some w
  | .putting => c.kind = .travelPut ∧ c.slot.isSome ∧ c.slot = t.destination
  | .sourceWait | .holding | .stranded => False

/-- A gantry's current step stands as the gantry's state says (TABLE 6.1, TABLE 6.2): a dwell end in DWELL, a request in WAIT_GRANT, an
issue in STEPPING. -/
def GantryRecord.Prepares (r : GantryRecord) (c : Step) : Prop :=
  match r.state with
  | .dwell => r.dwellEnd.isSome ∧ c.request = none ∧ c.issued = none
  | .waitGrant => r.dwellEnd = none ∧ c.request.isSome ∧ c.issued = none
  | .stepping => r.dwellEnd = none ∧ c.request = none ∧ c.issued.isSome
  | _ => False

/-- The open wait of a lift that waits for a source (R102, R153). -/
def GantryRecord.OpenWait (r : GantryRecord) : Prop :=
  r.state = .dwell ∧ r.current = none ∧ r.setAside = none ∧ r.former = none ∧ r.dwellEnd = none ∧
    r.task.map Task.phase = some .sourceWait

/-- A gantry prepares or makes the step of its task; a PLACE neither dwells nor waits (R77, R101). -/
def GantryRecord.OwnStep (r : GantryRecord) : Prop :=
  ∃ c t, r.current = some c ∧ r.task = some t ∧ t.Calls c ∧ r.Prepares c ∧ r.setAside = none ∧ r.former = none ∧
    (c.kind = .place → r.state = .stepping)

/-- A gantry prepares or makes a yield, which waits for no grant (R82, R83, R85, R162): it was IDLE or STRANDED, or its task's step is
set aside, or its book has ended since, and a panel on its head keeps the task of a return that has no destination yet (log entry
11). -/
def GantryRecord.Yields (r : GantryRecord) : Prop :=
  ∃ c, r.current = some c ∧ c.kind = .travelOnly ∧ r.Prepares c ∧ r.state ≠ .waitGrant ∧
    match r.former, r.setAside with
    | some .idle, none => r.task = none
    | some .stranded, none => r.task.map Task.phase = some .stranded
    | none, some a => a.request = none ∧ a.issued = none ∧ a.kind ≠ .place ∧ ∃ t, r.task = some t ∧ t.Calls a
    | none, none => ∀ t, r.task = some t → t.kind = .panelReturn ∧ t.phase = .putting ∧ t.destination = none
    | some _, some _ => False

/-- A gantry is at rest: it prepares and makes no step (TABLE 6.1). -/
def GantryRecord.AtRest (r : GantryRecord) : Prop :=
  r.current = none ∧ r.setAside = none ∧ r.former = none ∧ r.dwellEnd = none

/-- A gantry's record is sound: its task agrees with its head, which is empty without a task; it holds a fault record exactly while it is
FAULTED (R111, R116); and what it does is what its state says (TABLE 6.1). -/
structure GantryRecord.Sound (r : GantryRecord) : Prop where
  task : ∀ t, r.task = some t → t.Sound r.carried
  empty : r.task = none → r.carried = none
  fault : r.fault.isSome ↔ r.state = .faulted
  work : match r.state with
    | .offline | .idle | .parked | .faulted => r.AtRest ∧ r.hold = none ∧ r.task = none
    | .hoverHold => r.AtRest ∧ ∃ h t tag, r.hold = some h ∧ r.task = some t ∧ t.phase = .holding ∧ t.kind = .book h.saw tag
    | .stranded => r.AtRest ∧ r.hold = none ∧ r.task.map Task.phase = some .stranded
    | .dwell | .waitGrant | .stepping => r.hold = none ∧ (r.OpenWait ∨ r.OwnStep ∨ r.Yields)

/-- The work of the cell is sound: the gantries' records are; a slot is claimed for PUT exactly by the gantry whose destination it is, and
for PICK exactly by the one that picks from it, and a slot claimed for PICK holds a panel (R23, R25, R26); a gantry has a book's task
exactly while the record of that tag is ASSEMBLING on it, and a remnant return's exactly while an offer of the saw is IN_PROGRESS on it
(R127, R139); and no gantry has a task while the cell is CLOSED or NO_LAYOUT (R174, R175, R184). -/
structure State.WorkSound (s : State) : Prop where
  gantry : ∀ g, (s.gantry g).Sound
  puts : ∀ g n, (s.slot n).claim = some ⟨g, .put⟩ ↔ (s.gantry g).task.bind Task.destination = some n
  picks : ∀ g n, (s.slot n).claim = some ⟨g, .pick⟩ ↔
    ∃ t, (s.gantry g).task = some t ∧ t.phase = .picking ∧ t.source = some n
  picked : ∀ g n, (s.slot n).claim = some ⟨g, .pick⟩ → (s.slot n).stack ≠ []
  books : ∀ g w tag, (s.gantry g).task.map Task.kind = some (.book w tag) ↔
    ∃ b ∈ (s.saw w).books, b.tag = tag ∧ b.state = .assembling ∧ b.gantry = some g
  offers : ∀ g w, (s.gantry g).task.map Task.kind = some (.remnantReturn w) ↔
    ∃ o ∈ (s.saw w).offers, o.state = .inProgress g
  closed : s.cell = .closed ∨ s.cell = .noLayout → ∀ g, (s.gantry g).task = none

/-! ## The pool and the stacks -/

/-- The records of the free list, from its head to its tail (R20). -/
def FreeList.order (f : FreeList) : List Nat := List.range' f.fresh (poolSize - f.fresh) ++ f.returned

/-- The store is sound: each of the 4,096 pool records is FREE, BLANK or LIVE, once (R20, R21); the serials of the LIVE panels are distinct
and 1 to 16,777,215, as is the serial counter (R22); a stack holds at most 40 panels and is at most max_stack_height high (R24); and
the destination of a task has room for the panel that is to be put there (R24, R163, R166). -/
structure State.StoreSound (s : State) : Prop where
  pool : (s.free.order ++ s.blanks ++ s.livePanels.map Panel.record).Perm (List.range poolSize)
  serials : (s.livePanels.map Panel.serial).Nodup
  range : ∀ p ∈ s.livePanels, 1 ≤ p.serial ∧ p.serial ≤ maxSerial
  counter : 1 ≤ s.serialCounter ∧ s.serialCounter ≤ maxSerial
  limits : ∀ n, (s.slot n).stack.length ≤ 40 ∧ s.height n ≤ s.geom.maxStackHeight
  room : ∀ g n, (s.gantry g).task.bind Task.destination = some n →
    (∀ p, (s.gantry g).carried = some p → s.hasRoomFor n p.kind = true) ∧
    ∀ w o, (s.gantry g).carried = none → (s.gantry g).task.map Task.kind = some (.remnantReturn w) →
      s.offerOf g w = some o → s.hasRoomFor n o.kind = true

/-- The runway, the slots, the saws, the work and the store are sound. -/
structure State.Sound (s : State) : Prop where
  runway : s.RunwaySound
  slots : s.SlotsSound
  saws : s.SawsSound
  work : s.WorkSound
  store : s.StoreSound

/-! ## What there is to give -/

/-- No gantry's search waits for a store change (R154, R165). -/
def State.NobodyWaits (s : State) : Prop := ∀ g, (s.gantry g).waits = false

/-- A dispatch pass, if one is made, gives out no task (R148, R149). -/
def State.NothingToGive (s : State) : Prop := s.passDue = true → s.round (s.stillIdle [.west, .east]) = none

/-- What happens at a gantry prompts nothing further at the other one: the other gantry waits for no grant and for no store
change, and it is not IDLE in a cell that is OPEN or HALTED. -/
structure State.Undisturbed (s : State) (g : Gantry) : Prop where
  grant : (s.gantry (otherGantry g)).state ≠ .waitGrant
  search : (s.gantry (otherGantry g)).waits = false
  pass : s.cell = .opened ∨ s.cell = .halted → (s.gantry (otherGantry g)).state ≠ .idle

/-! ## Becoming FAULTED -/

/-- What becoming FAULTED leaves (R88, R110, R111, R122, R169).  `s` is the state before the event, `t` the state after it, and `r`
the gantry's record as the event's own counting has left it. -/
structure State.FaultTaken (s t : State) (g : Gantry) (r : GantryRecord) (cause : FaultCause) (subCode : BitVec 8) :
    Prop where
  /-- The gantry is FAULTED, its reservation frozen as it stands, with no step, panel or task (R88, R110). -/
  record : t.gantry g =
    { r with
      state := .faulted
      frozen := true
      carried := none
      task := none
      current := none
      setAside := none
      former := none
      dwellEnd := none
      hold := none
      fault := some
        { cause := cause, subCode := subCode, time := s.clock, state := r.state,
          step := r.current.bind fun c => c.issued.map fun i => ⟨c.kind, i.token, i.time, c.slot⟩,
          panel := r.carried, task := r.task.map Task.kind, span := r.reservation, second := none } }
  /-- The other gantry is as it was. -/
  other : t.gantry (otherGantry g) = s.gantry (otherGantry g)
  /-- No stack changes. -/
  piles : ∀ n, (t.slot n).stack = (s.slot n).stack
  /-- The slot of an outstanding slot pick becomes suspect, and no other (R27). -/
  suspects : ∀ n, n < s.slots.length →
    (t.slot n).suspect = ((s.slot n).suspect || decide (r.pickedSlot = some n))
  /-- Every claim of the gantry is released, and the claim on the slot made suspect (R26, R27). -/
  claims : ∀ n, (t.slot n).claim =
    if r.pickedSlot = some n ∨ (s.slot n).claim.map Claim.gantry = some g then none else (s.slot n).claim
  /-- A BLANK record goes back to FREE (R21). -/
  blank : t.free = match r.task.bind Task.blank with
    | some k => { s.free with returned := s.free.returned ++ [k] }
    | none => s.free
  /-- A book ends aborted with GANTRY_FAULT and its BOOK_REPORT is formed (R137, R138). -/
  book : ∀ w tag b, r.task.map Task.kind = some (.book w tag) → s.bookOf w tag = some b →
    t.saw w =
      { s.saw w with
        books := (s.saw w).books.filter fun x => decide (x.tag ≠ b.tag)
        aborted := (s.saw w).aborted.step
        lastBookReport := some (b.tag, .aborted) } ∧
    t.port (.saw w) = (s.port (.saw w)).push
      (.bookReport ⟨b.tag, .aborted, b.placed, b.firstFault.or (some (.gantryFault, b.lift)), some .gantryFault⟩)
  /-- An offer ends DISCARDED with GANTRY_FAULT and its OFFER_REPORT is formed (R141). -/
  offer : ∀ w o, r.task.map Task.kind = some (.remnantReturn w) → s.offerOf g w = some o →
    t.saw w =
      { s.saw w with
        offers := (s.saw w).offers.filter fun x => decide (x.state ≠ .inProgress g)
        lastOfferReport := some .discarded } ∧
    t.port (.saw w) = (s.port (.saw w)).push
      (.offerReport ⟨o.kind, o.length, o.width, .discarded, some .gantryFault,
        (r.carried.map Panel.serial).getD 0, none⟩)
  /-- GANTRY_FAULTED latches in the planner's status record, and SUSPECT_MARKED with a mark (R110, R27). -/
  flagged : .gantryFaulted ∈ (t.port .planner).flags ∧ (t.port .planner).attention = true ∧
    (r.pickedSlot.isSome → .suspectMarked ∈ (t.port .planner).flags)
  /-- SERVICE_CHANGED latches on the gantry's port, unless the controller itself reported the fault (R122). -/
  service : if cause = .driveFault then (t.port (.gantry g)).flags = (s.port (.gantry g)).flags
    else .serviceChanged ∈ (t.port (.gantry g)).flags ∧ (t.port (.gantry g)).attention = true
  /-- No STEP_ORDER of the gantry stands in its pending list any more (R191). -/
  orders : ∀ o, .stepOrder o ∉ (t.port (.gantry g)).pushedWaiting
  /-- Neither the cell, the clock, the layout, the kinds nor the windows change. -/
  rest : t.cell = s.cell ∧ t.clock = s.clock ∧ t.layout = s.layout ∧ t.kinds = s.kinds ∧ t.windows = s.windows

/-! ## The commands of the messages -/

/-- The command that a frame of a message is.  A CELL_COMMAND is this command when its payload names none of the ten. -/
def Message.instr (m : Message) (p : Port) (payload : List Word) : Instr :=
  match m with
  | .layoutSet => .layoutSet p payload
  | .layoutQuery => .layoutQuery p payload
  | .kindSet => .kindSet p payload
  | .kindQuery => .kindQuery p payload
  | .areaSet => .areaSet p payload
  | .areaQuery => .areaQuery p payload
  | .stackRegister => .stackRegister p payload
  | .stackWithdraw => .stackWithdraw p payload
  | .slotRelease => .slotRelease p payload
  | .slotQuery => .slotQuery p payload
  | .sawSet => .sawSet p payload
  | .sawQuery => .sawQuery p payload
  | .gantryPark => .gantryPark p payload
  | .gantryRestore => .gantryRestore p payload
  | .cellCommand => .cellCommand p payload
  | .countsQuery => .countsQuery p payload
  | .bookRequest => .bookRequest p payload
  | .bookAbort => .bookAbort p payload
  | .bookTaken => .bookTaken p payload
  | .tableState => .tableState p payload
  | .remnantOffer => .remnantOffer p payload
  | .gantryReady => .gantryReady p payload
  | .stepDone => .stepDone p payload
  | .gantryFault => .gantryFault p payload
  | .statusQuery => .statusQuery p payload
  | .statusPeek => .statusPeek p payload

/-- The command that a frame of one of the ten cell commands is (TABLE 9.3). -/
def CellCommand.instr (k : CellCommand) (p : Port) : Instr :=
  match k with
  | .openCell => .openCell p
  | .haltCell => .haltCell p
  | .resumeCell => .resumeCell p
  | .closeCell => .closeCell p
  | .latchCounts => .latchCounts p
  | .clearCounts => .clearCounts p
  | .locatorFlush => .locatorFlush p
  | .pinOn => .pinOn p
  | .pinOff => .pinOff p
  | .cellReset => .cellReset p

/-! ## A message that is answered -/

/-- A port is ready to answer a frame with a reply of `k` frames (R189, R190): the frame stands at the head of the inbound queue
or arrives at an empty one, the outbound queue has room for the reply, and no consequence of an earlier event is due. -/
structure State.Ready (s : State) (p : Port) (f : Frame) (k : Nat) : Prop where
  settled : s.duties = .none
  fronted : (s.port p).inbound = [] ∨ (s.port p).inbound.head? = some f
  room : (s.port p).outbound.length + k ≤ 8

/-- The state in which the frame at the head of a port's inbound queue has left the queue (R189). -/
def State.taken (s : State) (p : Port) : State := s.setPort p { s.port p with inbound := (s.port p).inbound.tail }

/-- The port once it has taken the frame at the head of its inbound queue and queued a reply (R189). -/
def PortRecord.answering (r : PortRecord) (fs : List OutFrame) : PortRecord :=
  PortRecord.wake { r with inbound := r.inbound.tail, outbound := r.outbound ++ fs }

/-- The state in which a port has taken its frame and queued a reply to it. -/
def State.answered (s : State) (p : Port) (r : Reply) : State := s.setPort p ((s.port p).answering (r.frames p))

end Sys2Proof.Machine
end

