-- ==== Sys2Proof/Certificates/Slice0/Obligations.lean ====
section
/-! DEFINITION. The statements for the provers.  A statement about a message speaks of a port that is ready for it: its frame stands
at the head of the inbound queue or arrives now, the outbound queue has room for the reply, and no consequence of an earlier
event is due (`State.Ready`); what the message leaves is the state with the effect in it, on which the port has queued the reply
(`State.answered`), so that the equation says the whole frame. -/

open Sys2Proof Sys2Proof.Machine

/-! ## Steps, power-on and what every state keeps -/

/-- The block takes its commands first in, first out: a step runs the command at the front of the queue on the state with the
queue's rest, and idles on an empty queue (the model's own choice: log entry 14). -/
def Obligations.StepRunsFrontCommand : Prop :=
  (∀ (s : State) (c : Instr) (rest : List Instr), s.pending = c :: rest → step s = exec c { s with pending := rest }) ∧
    ∀ s : State, s.pending = [] → step s = .next s

/-- What power-on leaves, as R22, R36, R38, R58, R73, R95, R98, R123, R149, R171, R177, R179 and R195 give it; and the state right
after reset is sound.  That the frozen flags are clear is the model's reading (log entry 28): the manual names no power-on value
for them. -/
def Obligations.ResetHoldsPowerOnValues : Prop :=
  let s := State.reset
  s.Sound ∧ s.PortsSound ∧ s.LocatorSound ∧
    s.cell = .noLayout ∧ s.clock = 0 ∧ s.layout = none ∧ s.loader = .reading ∧ s.kinds = [] ∧ s.freeCount = 4096 ∧
    s.serialCounter = 1 ∧ s.slots = [] ∧ s.lastMarked = none ∧ s.pinMode = false ∧ s.pointer = .saw4 ∧
    s.windows = List.replicate 8 ⟨false, 0, 0, false, false⟩ ∧
    s.locator = List.replicate 32 (List.replicate 4 .invalid) ∧
    (∀ g, (s.gantry g).state = .offline ∧ (s.gantry g).position = none ∧ (s.gantry g).reservation = none ∧
      (s.gantry g).frozen = false ∧ (s.gantry g).carried = none ∧ (s.gantry g).task = none ∧
      (s.gantry g).current = none ∧ (s.gantry g).nextToken = 0 ∧ (s.gantry g).fault = none ∧
      (s.gantry g).lastDirection = none ∧ (s.gantry g).lastMaterial = none ∧ (s.gantry g).lastCompletion = none) ∧
    (∀ w, (s.saw w).settings = ⟨false, 1, 0, 0, 0, false, 800⟩ ∧ (s.saw w).books = [] ∧ (s.saw w).offers = [] ∧
      (s.saw w).pacing = [] ∧ (s.saw w).table = .unknown) ∧
    ∀ p, (s.port p).carrierUp = false ∧ (s.port p).flowGo = true ∧ (s.port p).buffer = [] ∧
      (s.port p).inbound = [] ∧ (s.port p).outbound = [] ∧ (s.port p).pushedWaiting = [] ∧
      (s.port p).framingCount = 0 ∧ (s.port p).crcCount = 0 ∧ (s.port p).flags = [] ∧ (s.port p).attention = false

/-- POWER_ON sets every block to its power-on values whatever the state before (R179): what it leaves differs from the state
after reset in the layout memory alone, and in the model's own queue and counter.  Outside a write the memory is kept; a write
of a record that power loss cut short after `n` words has left its first `n` words and the old ones behind them (R183). -/
def Obligations.PowerOnStartsAfresh : Prop :=
  ∀ (s : State) (n : Nat), ∃ t, exec (.powerOn n) s = .next t ∧
    t = { State.reset with memory := t.memory, freeNext := s.freeNext, pending := s.pending } ∧
    (s.loader ≠ .writing → t.memory = s.memory) ∧
    ∀ record, s.loader = .writing → s.writeRecord = some record → record.length = 44 → s.memory.length = 97 →
      t.memory.length = 97 ∧
        ∀ i, i < 97 → t.memory.getD i 0 = if i < n then (memoryImage record).getD i 0 else s.memory.getD i 0

/-- Every step from a sound state keeps the runway sound (R73, R75, R76, R88, R98, R103): in particular the west gantry's
reservation ends before the east gantry's begins, each gantry stands within its reservation and within the runway, and a STEPPING
gantry's reservation is its step's granted span. -/
def Obligations.SoundRunwayKept : Prop :=
  ∀ s t : State, s.Sound → step s = .next t → t.RunwaySound

/-- Every step keeps every port sound (R187, R188, R191, R192). -/
def Obligations.SoundPortsKept : Prop :=
  ∀ s t : State, s.PortsSound → step s = .next t → t.PortsSound

/-- Every step keeps the slots sound (R23, R25). -/
def Obligations.SoundSlotsKept : Prop :=
  ∀ s t : State, s.SlotsSound → step s = .next t → t.SlotsSound

/-- Every step keeps every saw's lists sound (R128, R131, R132, R139): RELEASED records, then at most one ASSEMBLING one, then QUEUED ones, at
most 3 RELEASED or ASSEMBLING and 4 QUEUED, with distinct tags and as many placed panels as ended lifts; and at most 2 offers, of
which the head alone may be IN_PROGRESS; and at most three start times. -/
def Obligations.SoundSawsKept : Prop :=
  ∀ s t : State, s.SawsSound → step s = .next t → t.SawsSound

/-- Every step from a sound state keeps the work of the gantries sound (R23, R25, R26, R102, R127, R139, R147, R153, R163, R166): each
gantry's state, its task's phase, its step and what its head carries go together, every claim belongs to the task that holds it,
every ASSEMBLING book and IN_PROGRESS offer to the gantry it names, and a CLOSED cell has no tasks. -/
def Obligations.SoundWorkKept : Prop :=
  ∀ s t : State, s.Sound → step s = .next t → t.WorkSound

/-- Every step from a sound state keeps the store sound (R20, R21, R22, R24): no pool record is lost or held twice, the FREE, BLANK and
LIVE records are 4,096 together, no serial is LIVE twice, and no stack holds more than 40 panels or is higher than
max_stack_height. -/
def Obligations.SoundStoreKept : Prop :=
  ∀ s t : State, s.Sound → step s = .next t → t.StoreSound

/-- Every step keeps the Kind Locator sound (R58): the ranks of each set run from 1 to n, each once, and no tag stands twice. -/
def Obligations.SoundLocatorKept : Prop :=
  ∀ s t : State, s.LocatorSound → step s = .next t → t.LocatorSound

/-- A suspect flag that SLOT_RELEASE clears is a store change, at which a lift's source search that waits and a STRANDED gantry's
destination search run again (R26, R28, R154, R165).  Where the search finds a slot, the slot is claimed and the step is prepared; a
source search that yields WAIT leaves the lift waiting, and one that yields NONE ends the book with NO_SOURCE (R153, R159, R137, R138);
a STRANDED gantry that finds no slot stays STRANDED and latches nothing.  This is stated where the other gantry waits for nothing, for a
slot that is found where the way to it is clear, and for the end of a book where no task is there to give.  The model's
own field `duties`, in which an event notes what it prompts, is empty after every step (log entry 3). -/
def Obligations.WaitingSearchRunsAgain : Prop :=
  (∀ s t : State, s.duties = .none → step s = .next t → t.duties = .none) ∧
  ∀ (s : State) (g : Gantry) (a : Word) (m : Nat) (k : Task), s.Ready .planner ⟨0x09, [a]⟩ 1 → s.cell ≠ .noLayout →
    s.addressed a.toNat = some m → m < s.slots.length → (s.slot m).suspect = true → (s.gantry g).task = some k →
    (s.gantry (otherGantry g)).state ≠ .waitGrant → (s.gantry (otherGantry g)).waits = false →
    let r := { s with slots := s.slots.set m { s.slot m with suspect := false } }
    let run := exec (.slotRelease .planner [a]) s
    let clear := fun (v : Span) => match g with
      | .west => v.hi < (s.span .east).lo
      | .east => (s.span .west).hi < v.lo
    let goes := fun (t : State) kind n => ((t.gantry g).state = .dwell ∨ (t.gantry g).state = .stepping) ∧
      (t.gantry g).current.map (fun c => (c.kind, c.slot, c.target)) = some (kind, some n, s.geom.slotX n)
    (∀ w tag b e, (s.gantry g).state = .dwell → (s.gantry g).current = none → k.phase = .sourceWait → k.kind = .book w tag →
      s.bookOf w tag = some b → b.entries[b.lift - 1]? = some e →
      (∀ n, n < s.slots.length → (r.sourceSearch g w e).1 = .slot n → clear (s.geom.travel g (s.pos g) (s.geom.slotX n)) →
        ∃ t, run = .next t ∧ (t.slot n).claim = some ⟨g, .pick⟩ ∧ goes t .travelPick n ∧
          (t.gantry g).task = some { k with phase := .picking, source := some n }) ∧
      ((r.sourceSearch g w e).1 = .wait → ∃ t, run = .next t ∧ t.slots = r.slots ∧
        t.gantry g = { s.gantry g with dwellEnd := none }) ∧
      ((r.sourceSearch g w e).1 = .none → (s.gantry g).carried = none →
        let u : State := { (r.sourceSearch g w e).2 with
          saws := s.saws.set w
            { s.saw w with
              books := (s.saw w).books.filter fun x => decide (x.tag ≠ tag)
              aborted := (s.saw w).aborted.step
              lastBookReport := some (tag, .aborted) }
          gantries := s.gantries.set g
            { s.gantry g with
              state := .idle
              task := none
              setAside := none
              former := none
              dwellEnd := none
              hold := none } }
        u.NothingToGive → run = .next ((u.push (.saw w)
          (.bookReport ⟨tag, .aborted, b.placed, b.firstFault.or (some (.noSource, b.lift)), some .noSource⟩)).answered .planner
            (.accepted 0x09 0 none)))) ∧
    ((s.gantry g).state = .stranded → k.phase = .stranded →
      (∀ n, n < s.slots.length → r.putSearch g = some n → clear (s.geom.travel g (s.pos g) (s.geom.slotX n)) →
        ∃ t, run = .next t ∧ (t.slot n).claim = some ⟨g, .put⟩ ∧ goes t .travelPut n ∧
          (t.gantry g).task = some { k with phase := .putting, destination := some n }) ∧
      (r.putSearch g = none → run = .next (r.answered .planner (.accepted 0x09 0 none))))

/-- Each of these is changed by its own commands and by power-on alone: the cell clock by its tick (R177), the kind table by
KIND_SET (R15), the windows by AREA_SET (R38), pin mode by PIN_ON, PIN_OFF and CELL_RESET (R64), the active layout by LAYOUT_SET
and the end of the layout read (R1), the layout memory by the end of a write (R183), a gantry's recorded position by STEP_DONE,
GANTRY_READY, GANTRY_RESTORE and a first layout (R73, R89, R106). -/
def Obligations.OnlyOwnCommandsChange : Prop :=
  ∀ (c : Instr) (s t : State), exec c s = .next t →
    (t.clock = match c with
      | .cellClockTick => s.clock + 1
      | .powerOn _ => 0
      | _ => s.clock) ∧
    ((∀ n, c ≠ .powerOn n) →
      ((∀ p ws, c ≠ .kindSet p ws) → t.kinds = s.kinds) ∧
      ((∀ p ws, c ≠ .areaSet p ws) → t.windows = s.windows) ∧
      ((∀ p, c ≠ .pinOn p ∧ c ≠ .pinOff p ∧ c ≠ .cellReset p) → t.pinMode = s.pinMode) ∧
      ((∀ p ws, c ≠ .layoutSet p ws) → (∀ b, c ≠ .layoutReadEnd b) → t.layout = s.layout) ∧
      ((∀ b ws, c ≠ .layoutWriteEnd b ws) → t.memory = s.memory) ∧
      ((∀ p ws, c ≠ .stepDone p ws ∧ c ≠ .gantryReady p ws ∧ c ≠ .gantryRestore p ws ∧ c ≠ .layoutSet p ws) →
        (∀ b, c ≠ .layoutReadEnd b) → ∀ g, (t.gantry g).position = (s.gantry g).position))

/-- The cell state changes only as R171 lets it: from NO_LAYOUT to CLOSED when a first layout becomes active, from CLOSED to
OPEN by OPEN, between OPEN and HALTED by HALT and RESUME, to CLOSED by CLOSE or CELL_RESET, and to NO_LAYOUT at power-on. -/
def Obligations.CellStateChanges : Prop :=
  ∀ (c : Instr) (s t : State), s.RunwaySound → exec c s = .next t → t.cell ≠ s.cell →
    match c with
    | .powerOn _ => t.cell = .noLayout
    | .layoutReadEnd _ | .layoutSet _ _ => s.cell = .noLayout ∧ t.cell = .closed ∧ t.layout.isSome
    | .openCell _ => s.cell = .closed ∧ t.cell = .opened
    | .haltCell _ => s.cell = .opened ∧ t.cell = .halted
    | .resumeCell _ => s.cell = .halted ∧ t.cell = .opened
    | .closeCell _ => (s.cell = .opened ∨ s.cell = .halted) ∧ t.cell = .closed
    | .cellReset _ => (s.cell = .opened ∨ s.cell = .halted) ∧ t.cell = .closed
    | _ => False

/-! ## Station links -/

/-- A candidate frame of at most 64 words that begins with an empty buffer and is no flow character is judged in the order of
R187: a length that disagrees steps the framing count, a CRC that disagrees steps the CRC count and latches CRC_ERR, and a good
frame joins the end of the inbound queue, which holds up to 4; where it holds 4, INBOUND_OVERFLOW latches (R188).  So a frame
spelt as section 10.2 says is received as itself, and nothing else changes. -/
def Obligations.CandidateFrameJudged : Prop :=
  (∀ (s : State) (p : Port) (ws : List Word), 1 ≤ ws.length → ws.length ≤ 64 → (s.port p).buffer = [] →
    (s.port p).discarding = false → ws ≠ [0x0F0F] → ws ≠ [0x0F00] →
    let r := s.port p
    exec (.frameReceived p ws) s = .next (s.setPort p
      (if ws.length < 2 ∨ (ws.getD 0 0).toNat % 256 ≠ ws.length - 2 then
        { r with framingCount := if r.framingCount = 255 then 255 else r.framingCount + 1 }
      else if crc (ws.take (ws.length - 1)) ≠ ws.getD (ws.length - 1) 0 then
        { r with
          crcCount := if r.crcCount = 255 then 255 else r.crcCount + 1
          flags := latchFlag .crcErr r.flags
          attention := true }
      else if r.inbound.length < 4 then
        { r with
          inbound := r.inbound ++
            [⟨BitVec.ofNat 8 ((ws.getD 0 0).toNat / 256), (ws.drop 1).take (ws.length - 2)⟩] }
      else { r with flags := latchFlag .inboundOverflow r.flags, attention := true }))) ∧
  ∀ (s : State) (p : Port) (f : Frame), f.payload.length ≤ 62 → (s.port p).buffer = [] →
    (s.port p).discarding = false → (s.port p).inbound.length < 4 →
    exec (.frameReceived p f.words) s =
      .next (s.setPort p { s.port p with inbound := (s.port p).inbound ++ [f] })

/-- The CRC of R178: words followed by a further word leave the register at 0 exactly when that word is their CRC word, and a
change of one word alone is always found. -/
def Obligations.CrcFindsOneChangedWord : Prop :=
  (∀ (ws : List Word) (w : Word), crc (ws ++ [w]) = 0 ↔ w = crc ws) ∧
    ∀ (before after : List Word) (a b : Word), a ≠ b → crc (before ++ a :: after) ≠ crc (before ++ b :: after)

/-- 64 words without an end marker fill the buffer: it is emptied, the framing count steps once, and words are discarded up to
and including the next end-marked one; the word after that begins a new candidate (R187).  A flow character that arrives while
the buffer is empty sets the flow state, also while words are discarded, and takes no place in the buffer; at GO the transmitter
begins to send the head of the outbound queue (R186).  One that arrives while the buffer holds words is the last word of a
candidate frame. -/
def Obligations.BufferAndFlowCharacters : Prop :=
  (∀ (s : State) (p : Port) (ws : List Word), ws.length = 64 → (s.port p).buffer = [] →
    (s.port p).discarding = false →
    exec (.receiveBufferFull p ws) s = .next (s.setPort p
      { s.port p with
        discarding := true
        framingCount := if (s.port p).framingCount = 255 then 255 else (s.port p).framingCount + 1 })) ∧
  (∀ (s : State) (p : Port) (ws : List Word), (s.port p).buffer = [] → (s.port p).discarding = true →
    exec (.receiveBufferFull p ws) s = .next s) ∧
  (∀ (s : State) (p : Port) (w : Word), (s.port p).buffer = [] → (s.port p).discarding = true → w ≠ 0x0F0F →
    w ≠ 0x0F00 →
    exec (.nextEndMarkedWord p w) s = .next (s.setPort p { s.port p with discarding := false })) ∧
  (∀ (s : State) (p : Port), (s.port p).buffer = [] →
    exec (.flowStop p) s = .next (s.setPort p { s.port p with flowGo := false })) ∧
  (∀ (s : State) (p : Port), (s.port p).buffer = [] →
    exec (.flowGo p) s = .next (s.setPort p
      { s.port p with
        flowGo := true
        sending := (s.port p).sending || ((s.port p).carrierUp && decide ((s.port p).outbound ≠ [])) })) ∧
  ∀ (s : State) (p : Port), (s.port p).buffer ≠ [] → (s.port p).discarding = false →
    exec (.flowStop p) s =
      .next (s.setPort p (PortRecord.judge { s.port p with buffer := [] } ((s.port p).buffer ++ [0x0F0F]))) ∧
    exec (.flowGo p) s =
      .next (s.setPort p (PortRecord.judge { s.port p with buffer := [] } ((s.port p).buffer ++ [0x0F00])))

/-- The frame being sent leaves the outbound queue, the head of the pending list takes the freed place, and the next frame is
begun while the flow state is GO and the carrier is UP (R186, R191).  A port that sends nothing has no frame that leaves (the model's
own reading of such a command: log entry 16).  A pushed message joins the end of the outbound queue when one of its 8 places is free and
the end of the pending list otherwise.  A reply is formed in the k frames of TABLE 10.13, with the same code and numbered from 1; each
carries its part word when k is more than 1 and none when k is 1; and an ACCEPTED or a REFUSED is spelt as R190 says. -/
def Obligations.OutboundQueueInOrder : Prop :=
  (∀ (s : State) (p : Port) (f : OutFrame) (fs : List OutFrame), (s.port p).sending = true →
    (s.port p).outbound = f :: fs → (s.port p).pushedWaiting = [] →
    exec (.frameSent p) s = .next (s.setPort p
      { s.port p with
        outbound := fs
        sending := (s.port p).carrierUp && (s.port p).flowGo && decide (fs ≠ []) })) ∧
  (∀ (s : State) (p : Port) (f : OutFrame) (fs : List OutFrame) (m : Pushed) (ms : List Pushed),
    (s.port p).sending = true → (s.port p).outbound = f :: fs → (s.port p).pushedWaiting = m :: ms →
    exec (.frameSent p) s = .next (s.setPort p
      { s.port p with
        outbound := fs ++ [⟨.pushed m, 1, 1⟩]
        pushedWaiting := ms
        sending := (s.port p).carrierUp && (s.port p).flowGo })) ∧
  (∀ (s : State) (p : Port), (s.port p).sending = false → exec (.frameSent p) s = .next s) ∧
  (∀ (p : Port) (r : Reply),
    let k := match r with
      | .areaReply _ | .countsReply _ => 2
      | .withdrawReply ns => if ns.length ≤ 30 then 1 else 2
      | .statusReply _ => if p = .planner then 3 else 1
      | .sawStateReply v => 1 + v.books.length / 2 + v.books.length % 2
      | _ => 1
    (r.frames p).length = k ∧ ∀ i f, (r.frames p)[i]? = some f →
      f.message = .reply r ∧ f.part = i + 1 ∧ f.parts = k ∧
        f.partWord = if k = 1 then [] else [BitVec.ofNat 16 (256 * (i + 1) + k)]) ∧
  (∀ (p : Port) (c : BitVec 8) (e : RefusalCode) (d : Word) (f : OutFrame), Reply.frames p (.refused c e d) = [f] →
    f.frame = some ⟨0x82, [c.setWidth 16, BitVec.ofNat 16 e.number, d]⟩) ∧
  (∀ (p : Port) (c : BitVec 8) (note : Word) (f : OutFrame), Reply.frames p (.accepted c note none) = [f] →
    f.frame = some ⟨0x81, [c.setWidth 16, note]⟩) ∧
  ∀ (s : State) (p : Port) (m : Pushed), (s.port p).Sound →
    let r := (s.push p m).port p
    r.Sound ∧ r.outbound.length + r.pushedWaiting.length =
        (s.port p).outbound.length + (s.port p).pushedWaiting.length + 1 ∧
      ((s.port p).outbound.length < 8 → r.outbound = (s.port p).outbound ++ [⟨.pushed m, 1, 1⟩]) ∧
      ((s.port p).outbound.length = 8 → r.outbound = (s.port p).outbound ∧
        r.pushedWaiting = (s.port p).pushedWaiting ++ [m]) ∧
      ∀ q, q ≠ p → (s.push p m).port q = s.port q

/-- A port whose carrier is lost empties its buffer, its queues and its pending list and keeps its counts, its flags and its
attention latch (R194), and its discarding state too (log entry 18).  Port 0's loss has no further effect, a saw's makes its table UNKNOWN (R142), and a gantry's acts by the
gantry's state: it stays OFFLINE or STEPPING, it becomes OFFLINE from IDLE or PARKED, and a FAULTED one takes its second cause,
once (R111, R112).  At a carrier return the flow state becomes GO and sending resumes with what was formed since the loss (R191,
R194); a gantry's state does not change (R113), and for a saw's port the return is a dispatch opportunity (R142).  A loss of a carrier
that is DOWN and a return of one that is UP change nothing (the model's own reading: log entry 16). -/
def Obligations.CarrierLossAndReturn : Prop :=
  (∀ s : State, s.duties = .none →
    let lost := fun p => s.setPort p
      { s.port p with
        carrierUp := false
        buffer := []
        inbound := []
        outbound := []
        sending := false
        pushedWaiting := [] }
    ((s.port .planner).carrierUp = true → exec (.carrierLoss .planner) s = .next (lost .planner)) ∧
    (∀ w, (s.port (.saw w)).carrierUp = true →
      exec (.carrierLoss (.saw w)) s = .next ((lost (.saw w)).setSaw w { s.saw w with table := .unknown })) ∧
    (∀ g, (s.port (.gantry g)).carrierUp = true → (s.gantry g).state = .offline ∨ (s.gantry g).state = .stepping →
      exec (.carrierLoss (.gantry g)) s = .next (lost (.gantry g))) ∧
    (∀ g, (s.port (.gantry g)).carrierUp = true → (s.gantry g).state = .idle ∨ (s.gantry g).state = .parked →
      (s.gantry (otherGantry g)).state ≠ .waitGrant →
      ∃ t, exec (.carrierLoss (.gantry g)) s = .next t ∧
        t = { lost (.gantry g) with gantries := s.gantries.set g { s.gantry g with state := .offline } }) ∧
    (∀ g f, (s.port (.gantry g)).carrierUp = true → (s.gantry g).state = .faulted → (s.gantry g).fault = some f →
      exec (.carrierLoss (.gantry g)) s = .next
        (if f.second = none then
          ((lost (.gantry g)).setGantry g
            { s.gantry g with fault := some { f with second := some ⟨.linkLost, s.clock⟩ } }).setPort .planner
              { s.port .planner with flags := latchFlag .gantryFaulted (s.port .planner).flags, attention := true }
        else lost (.gantry g))) ∧
    ∀ p, (s.port p).carrierUp = false → exec (.carrierLoss p) s = .next s) ∧
  ∀ (s : State) (p : Port), s.duties = .none →
    let back := s.setPort p
      { s.port p with
        carrierUp := true
        flowGo := true
        sending := (s.port p).sending || decide ((s.port p).outbound ≠ []) }
    ((s.port p).carrierUp = false → ((∃ w, p = .saw w) → back.NothingToGive) →
      exec (.carrierReturn p) s = .next back) ∧
    ((s.port p).carrierUp = true → exec (.carrierReturn p) s = .next s)

/-! ## Processing -/

/-- A frame whose code is not one of the inbound codes is refused with UNKNOWN_MESSAGE, the code in the detail word.  The other
message-level checks are made in the order of R189 and the cell-state check of R172 follows them; the first failure refuses the message,
names its detail word and changes nothing else.  Where several checked fields of a GANTRY_RESTORE are out of their sets the lowest
payload word index is named, which is the model's choice (log entry 33): R189 gives no order.  A CELL_COMMAND's command word that names none of the ten
fails the check of its field, and a cell command is refused in the cell states that TABLE 9.3 does not give it (R173). -/
def Obligations.MessageChecksInOrder : Prop :=
  (∀ (s : State) (p : Port) (code : BitVec 8) (payload : List Word),
    code ∉ [0x01, 0x02, 0x03, 0x04, 0x05, 0x06, 0x07, 0x08, 0x09, 0x0A, 0x0B, 0x0C, 0x0D, 0x0E, 0x0F, 0x10, 0x21, 0x22,
      0x23, 0x24, 0x25, 0x31, 0x32, 0x33, 0x41, 0x42] →
    s.Ready p ⟨code, payload⟩ 1 →
    exec (.unknownMessage p code payload) s =
      .next (s.answered p (.refused code .unknownMessage (code.setWidth 16)))) ∧
  (∀ (s : State) (m : Message) (p : Port) (payload : List Word), s.Ready p ⟨m.code, payload⟩ 1 →
    (m = .cellCommand → namesCommand payload = false) →
    let refused := fun c (d : Nat) => .next (s.answered p (.refused m.code c (BitVec.ofNat 16 d)))
    (m.onPort p = false → exec (m.instr p payload) s = refused .wrongPort (portNumber p)) ∧
    (m.onPort p = true → payload.length ≠ m.payloadLength payload →
      exec (m.instr p payload) s = refused .badLength payload.length) ∧
    (m.onPort p = true → payload.length = m.payloadLength payload →
      ∀ before f after, m.checkedFields = before ++ f :: after → (∀ e ∈ before, word payload e.1 ≤ e.2) →
        f.2 < word payload f.1 → exec (m.instr p payload) s = refused .badField f.1) ∧
    (m.onPort p = true → payload.length = m.payloadLength payload →
      (∀ e ∈ m.checkedFields, word payload e.1 ≤ e.2) → m.accepts s.cell = false →
      exec (m.instr p payload) s = refused .cellState s.cell.number)) ∧
  ∀ (s : State) (k : CellCommand) (p : Port), s.Ready p k.frame 1 →
    (p ≠ .planner → exec (k.instr p) s =
      .next (s.answered p (.refused 0x0F .wrongPort (BitVec.ofNat 16 (portNumber p))))) ∧
    (p = .planner →
      (match k with
        | .openCell => s.cell ≠ .closed
        | .haltCell => s.cell ≠ .opened
        | .resumeCell => s.cell ≠ .halted
        | .closeCell => s.cell ≠ .opened ∧ s.cell ≠ .halted
        | .latchCounts | .clearCounts | .locatorFlush | .pinOn | .pinOff => s.cell = .noLayout
        | .cellReset => False) →
      exec (k.instr p) s =
        .next (s.answered .planner (.refused 0x0F .cellState (BitVec.ofNat 16 s.cell.number))))

/-- No frame is processed without room for every frame of its reply (R189, R190, TABLE 10.13): it waits at the head of the inbound queue and
nothing else changes.  So it is for every message, every cell command and every unknown message while the outbound queue is full, and
for the messages whose replies have several parts while fewer places are free: STATUS_QUERY and STATUS_PEEK on port 0, COUNTS_QUERY,
AREA_QUERY, an AREA_SET that passes its checks, a SAW_QUERY, and a STACK_WITHDRAW of more than 30 panels.  A message whose frame does
not stand at the head changes nothing (the model's own reading of such a command: log entry 7). -/
def Obligations.NoRoomNoProcessing : Prop :=
  ∀ s : State,
    let held := fun p f => .next (if (s.port p).inbound = [] then s.setPort p { s.port p with inbound := [f] } else s)
    let short := fun p k => 8 < (s.port p).outbound.length + k
    (∀ (m : Message) (p : Port) (payload : List Word), (m = .cellCommand → namesCommand payload = false) →
      (short p 1 → exec (m.instr p payload) s = held p ⟨m.code, payload⟩) ∧
      ∀ f, (s.port p).inbound.head? = some f → f ≠ ⟨m.code, payload⟩ → exec (m.instr p payload) s = .next s) ∧
    (∀ (k : CellCommand) (p : Port), short p 1 → exec (k.instr p) s = held p k.frame) ∧
    (∀ (p : Port) (code : BitVec 8) (payload : List Word), inboundCode code = false → short p 1 →
      exec (.unknownMessage p code payload) s = held p ⟨code, payload⟩) ∧
    (∀ p, short p (if p = .planner then 3 else 1) →
      exec (.statusQuery p []) s = held p ⟨0x41, []⟩ ∧ exec (.statusPeek p []) s = held p ⟨0x42, []⟩) ∧
    (short .planner 2 → exec (.countsQuery .planner []) s = held .planner ⟨0x10, []⟩) ∧
    (s.cell ≠ .noLayout →
      (short .planner 2 → exec (.areaQuery .planner []) s = held .planner ⟨0x06, []⟩) ∧
      (∀ (n : Word) w, n.toNat = sawNumber w → s.sawPresent w = true →
        short .planner (1 + ((s.saw w).books.length + 1) / 2) →
        exec (.sawQuery .planner [n]) s = held .planner ⟨0x0C, [n]⟩) ∧
      ∀ (a c : Word) n, s.addressed a.toNat = some n → (s.slot n).claim = none → c.toNat ≤ 40 →
        30 < (if c.toNat = 0 then (s.slot n).stack.length else min c.toNat (s.slot n).stack.length) → short .planner 2 →
        exec (.stackWithdraw .planner [a, c]) s = held .planner ⟨0x08, [a, c]⟩) ∧
    ∀ ws : List Word, s.cell = .closed → ws.length = 1 + 6 * word ws 0 → s.areaSetFailure ws = none → short .planner 2 →
      exec (.areaSet .planner ws) s = held .planner ⟨0x05, ws⟩

/-! ## Geometry and the layout -/

/-- The standing span and the travel span of a gantry, computed on integers and clamped to the runway (R74): the travel span from
a position to itself is the standing span there, and a travel span contains the standing span at every position between. -/
def Obligations.SpansClampedToRunway : Prop :=
  ∀ (l : Layout) (g : Gantry) (a b x : Nat),
    let h : Int := (l.gantries.get g).half
    let c : Int := l.margin
    ((l.standing g x).lo : Int) = max 0 (x - h - c) ∧
      ((l.standing g x).hi : Int) = min (l.runwayLength : Int) (x + h + c) ∧
      ((l.travel g a b).lo : Int) = max 0 (min (a : Int) b - h - c) ∧
      ((l.travel g a b).hi : Int) = min (l.runwayLength : Int) (max (a : Int) b + h + c) ∧
      l.travel g a a = l.standing g a ∧
      (min a b ≤ x → x ≤ max a b →
        (l.travel g a b).lo ≤ (l.standing g x).lo ∧ (l.standing g x).hi ≤ (l.travel g a b).hi)

/-- A slot has one number, one lane and one bay, its centre stands where R8 puts it, and both address forms name it (R11, R12): a
linear address is in range below slot_count, a grid address within the lanes and the bays 1 to `bays`, the test taken on the
fields as carried; and the grid form that a reply gives names the slot again. -/
def Obligations.SlotAddressForms : Prop :=
  ∀ (s : State) (l : Layout), s.layout = some l → l.lanes ≤ 8 → 1 ≤ l.bays → l.bays ≤ 32 →
    (∀ n, n < 512 → s.addressed n = if n < l.lanes * l.bays then some n else none) ∧
    (∀ lane bay, lane < 16 → bay < 64 → s.addressed (32768 + lane * 256 + bay) =
      if lane < l.lanes ∧ 1 ≤ bay ∧ bay ≤ l.bays then some (lane * l.bays + bay - 1) else none) ∧
    ∀ n, n < l.lanes * l.bays →
      s.addressed (l.slotName n).gridWord.toNat = some n ∧ (l.slotName n).number = n ∧
        n = (l.slotName n).lane * l.bays + ((l.slotName n).bay - 1) ∧
        1 ≤ (l.slotName n).bay ∧ (l.slotName n).bay ≤ l.bays ∧
        l.slotX n = l.originX + ((l.slotName n).bay - 1) * l.bayPitch + l.bayPitch / 2 ∧
        l.slotY n = l.laneY0 + (l.slotName n).lane * l.lanePitch

/-- The 44 words of a layout record carry it whole, in both directions (R2): what a record is read from is what it is written as,
and a record whose fields fit their words is read back as it was. -/
def Obligations.LayoutRecordRoundTrip : Prop :=
  (∀ ws : List Word, ws.length = 44 → (layoutOfWords ws).words = ws) ∧
    ∀ l : Layout,
      let fits := fun n : Nat => n < 65536
      let gantry := fun g : GantryGeometry => fits g.half ∧ fits g.limLo ∧ fits g.limHi ∧ fits g.vmax ∧ fits g.accel ∧
        fits g.pickTime ∧ fits g.placeTime
      let saw := fun p : SawPlace => fits p.present ∧ fits p.infeedX ∧ fits p.outfeedX ∧ fits p.tableY
      fits l.runwayLength → fits l.margin → (∀ g, gantry (l.gantries.get g)) → fits l.lanes → fits l.bays → fits l.bayPitch →
      fits l.originX → fits l.laneY0 → fits l.lanePitch → fits l.maxStackHeight → fits l.dwellReverse → fits l.dwellHead →
      fits l.overrunSlack → l.hoverLimit < 4294967296 → (∀ w, saw (l.saws.get w)) → layoutOfWords l.words = l

/-- In a valid layout each home lies within its gantry's limits, the standing spans at the two homes are disjoint, and each gantry
can yield before any travel of the other (checks 103 to 106, R73, R83): the yield target of TABLE 5.4 lies within the yielder's
limits, and the standing span there is clear of the travel. -/
def Obligations.YieldAlwaysPossible : Prop :=
  ∀ (s : State) (l : Layout) (g : Gantry) (a b : Nat), s.layout = some l → l.firstFailure = none →
    (∀ k, (l.gantries.get k).reaches (l.home k) = true) ∧
    (l.standing .west (l.home .west)).hi < (l.standing .east (l.home .east)).lo ∧
    ((l.gantries.get g).reaches (s.pos g) = true →
      (l.gantries.get (otherGantry g)).reaches a = true → (l.gantries.get (otherGantry g)).reaches b = true →
      (l.gantries.get g).reaches (s.yieldTarget g (l.travel (otherGantry g) a b)) = true ∧
        clearOf g (l.standing g (s.yieldTarget g (l.travel (otherGantry g) a b))) (l.travel (otherGantry g) a b) = true)

/-- The read of the layout memory is judged in the order of R179: blank, corrupt, invalid with its check number, or the first
layout, under which the cell is CLOSED, the slots are empty and each gantry stands at its home.  An end of a read while the loader is
not READING changes nothing (the model's own reading of such an event: log entry 16). -/
def Obligations.LayoutReadJudged : Prop :=
  ∀ (s : State) (answers : Bool), s.duties = .none → (∀ g, (s.gantry g).state = .offline) → s.memory.length = 97 →
    let ended := fun f => { s with loader := .idle }.setPort .planner
      { s.port .planner with flags := latchFlag f (s.port .planner).flags, attention := true }
    let record := layoutOfWords (s.memory.take 44)
    (s.loader ≠ .reading → exec (.layoutReadEnd answers) s = .next s) ∧
    (s.loader = .reading → answers = false ∨ s.memory.getD 0 0 = 0xFFFF →
      exec (.layoutReadEnd answers) s = .next (ended .layoutBlank)) ∧
    (s.loader = .reading → answers = true → s.memory.getD 0 0 ≠ 0xFFFF →
      (crc (s.memory.take 96) ≠ s.memory.getD 96 0 →
        exec (.layoutReadEnd answers) s = .next (ended .layoutCorrupt)) ∧
      (crc (s.memory.take 96) = s.memory.getD 96 0 →
        (∀ c, record.firstFailure = some c → exec (.layoutReadEnd answers) s =
          .next { ended .layoutInvalid with invalidCheck := some c }) ∧
        (record.firstFailure = none → exec (.layoutReadEnd answers) s = .next
          { s with
            loader := .idle
            layout := some record
            cell := .closed
            slots := List.replicate (record.lanes * record.bays) ⟨[], false, none⟩
            gantries :=
              ⟨{ s.gantry .west with
                  position := some record.gantries.west.limLo
                  reservation := some (record.standing .west record.gantries.west.limLo)
                  frozen := false },
                { s.gantry .east with
                  position := some record.gantries.east.limHi
                  reservation := some (record.standing .east record.gantries.east.limHi)
                  frozen := false }⟩ })))

/-- The write of the layout memory ends with LAYOUT_WRITTEN when every word read back is the word written, the record, 52 words of
0 and the CRC word, and with LAYOUT_WRITE_FAIL otherwise; the active layout does not depend on it (R183).  What the write has left in the
memory is the event's own operand (log entry 21), and an end of a write while the loader is not WRITING changes nothing (log entry 16).
A layout that has been stored comes back: a valid record whose write has succeeded is the active layout, and the cell is CLOSED, once
power has returned and the memory has been read (R178, R179). -/
def Obligations.LayoutWriteJudged : Prop :=
  (∀ (s : State) (answers : Bool) (left record : List Word), s.writeRecord = some record →
    let ended := fun f => { s with loader := .idle, writeRecord := none, memory := left }.setPort .planner
      { s.port .planner with flags := latchFlag f (s.port .planner).flags, attention := true }
    let image := record ++ List.replicate 52 0 ++ [crc (record ++ List.replicate 52 0)]
    (s.loader = .writing → answers = true → left = image →
      exec (.layoutWriteEnd answers left) s = .next (ended .layoutWritten)) ∧
    (s.loader = .writing → answers = false ∨ left ≠ image →
      exec (.layoutWriteEnd answers left) s = .next (ended .layoutWriteFail)) ∧
    (s.loader ≠ .writing → exec (.layoutWriteEnd answers left) s = .next s)) ∧
  ∀ (s : State) (record : List Word) (n : Nat), record.length = 44 → s.loader = .writing →
    s.writeRecord = some record → (layoutOfWords record).firstFailure = none →
    ∃ written on t : State,
      exec (.layoutWriteEnd true (record ++ List.replicate 52 0 ++ [crc (record ++ List.replicate 52 0)])) s =
        .next written ∧
      exec (.powerOn n) written = .next on ∧ exec (.layoutReadEnd true) on = .next t ∧
      t.layout = some (layoutOfWords record) ∧ t.cell = .closed ∧ t.loader = .idle

/-- LAYOUT_SET is refused by the first check of TABLE 9.4 that fails, and a refused one changes nothing but the port's queues
(R181). -/
def Obligations.LayoutSetRefused : Prop :=
  ∀ (s : State) (ws : List Word), s.Ready .planner ⟨0x01, ws⟩ 1 → ws.length = 45 → word ws 44 ≤ 1 →
    s.cell = .noLayout ∨ s.cell = .closed →
    let refused := fun c (d : Nat) => .next (s.answered .planner (.refused 0x01 c (BitVec.ofNat 16 d)))
    let busy := s.loader = .reading ∨ (word ws 44 = 1 ∧ s.loader = .writing)
    let l := layoutOfWords (ws.take 44)
    (busy → exec (.layoutSet .planner ws) s = refused .cellBusy 0) ∧
    (¬busy → ∀ c, l.firstFailure = some c → exec (.layoutSet .planner ws) s = refused .layoutInvalid c) ∧
    (¬busy → l.firstFailure = none → ∀ old, s.layout = some old →
      let other := l.lanes ≠ old.lanes ∨ l.bays ≠ old.bays
      (∀ n, other → n < s.slots.length → (s.slot n).stack ≠ [] → (∀ m, m < n → (s.slot m).stack = []) →
        exec (.layoutSet .planner ws) s = refused .storeNotEmpty n) ∧
      ((other → ∀ n, n < s.slots.length → (s.slot n).stack = []) →
        (∀ n, n < s.slots.length → l.maxStackHeight < s.height n →
          exec (.layoutSet .planner ws) s = refused .layoutInvalid 109) ∧
        ((∀ n, n < s.slots.length → s.height n ≤ l.maxStackHeight) →
          (s.outsideLimits l .west = true → exec (.layoutSet .planner ws) s = refused .spanConflict 1) ∧
          (s.outsideLimits l .west = false → s.outsideLimits l .east = true →
            exec (.layoutSet .planner ws) s = refused .spanConflict 2) ∧
          (s.outsideLimits l .west = false → s.outsideLimits l .east = false →
            (l.runwayLength < (s.recomputed l .west).hi ∨ l.runwayLength < (s.recomputed l .east).hi →
              exec (.layoutSet .planner ws) s = refused .spanConflict 3) ∧
            ((s.recomputed l .west).hi ≤ l.runwayLength → (s.recomputed l .east).hi ≤ l.runwayLength →
              (s.recomputed l .east).lo ≤ (s.recomputed l .west).hi →
              exec (.layoutSet .planner ws) s = refused .spanConflict 4)))))

/-- A LAYOUT_SET that passes its checks.  In NO_LAYOUT it makes the first layout active, as a valid read does (R182).  While a layout is
active it replaces it as a whole and does to each block what R13, R90, R123 and R182 state: the equation says that all the rest stays as
it is.  A gantry whose yield is withdrawn goes back to the state it left, and to IDLE where it has none to go back to (log entry 31).
That the check number of a layout once read as invalid stays as it is, too, is the model's choice (log entry 32): R180 is silent.
With the store flag a write of the record begins (R183).  The replacement is stated where no gantry waits for a grant. -/
def Obligations.LayoutSetReplaces : Prop :=
  ∀ (s : State) (ws : List Word), s.Ready .planner ⟨0x01, ws⟩ 1 → ws.length = 45 → word ws 44 ≤ 1 →
    let l := layoutOfWords (ws.take 44)
    let store := fun t : State => { t with
      loader := if word ws 44 = 1 then .writing else s.loader
      writeRecord := if word ws 44 = 1 then some (ws.take 44) else s.writeRecord }
    let leaves := fun t => exec (.layoutSet .planner ws) s = .next ((store t).answered .planner (.accepted 0x01 0 none))
    (s.cell = .noLayout → s.layout = none → (∀ g, (s.gantry g).state = .offline) → s.loader ≠ .reading →
      (word ws 44 = 1 → s.loader ≠ .writing) → l.firstFailure = none →
      leaves { s with
        layout := some l
        cell := .closed
        slots := List.replicate (l.lanes * l.bays) ⟨[], false, none⟩
        gantries :=
          ⟨{ s.gantry .west with
              position := some l.gantries.west.limLo
              reservation := some (l.standing .west l.gantries.west.limLo)
              frozen := false },
            { s.gantry .east with
              position := some l.gantries.east.limHi
              reservation := some (l.standing .east l.gantries.east.limHi)
              frozen := false }⟩ }) ∧
    ∀ old, s.cell = .closed → s.layout = some old → s.layoutRefusal ws = none → (∀ g, (s.gantry g).state ≠ .waitGrant) →
      let same := l.lanes = old.lanes ∧ l.bays = old.bays
      let span := fun g => if (s.gantry g).state = .faulted ∨ (s.gantry g).state = .stepping then s.span g
        else l.standing g (s.pos g)
      let gantry := fun g =>
        if (s.gantry g).state = .dwell ∧ (s.gantry g).current.map Step.kind = some .travelOnly then
          { s.gantry g with
            state := if (s.gantry g).former = some .stranded then .stranded else .idle
            reservation := some (span g)
            current := none
            former := none
            dwellEnd := none }
        else { s.gantry g with reservation := some (span g) }
      let lost := fun w => (old.saws.get w).present = 1 ∧ (l.saws.get w).present ≠ 1
      let saw := fun w => if lost w then { s.saw w with books := [], offers := [] } else s.saw w
      let port := fun w =>
        if lost w then
          { s.port (.saw w) with flags := latchFlag .resetSeen (s.port (.saw w)).flags, attention := true }
        else s.port (.saw w)
      leaves { s with
        layout := some l
        slots := if same then s.slots else List.replicate (l.lanes * l.bays) ⟨[], false, none⟩
        locator := if same then s.locator else List.replicate 32 (List.replicate 4 .invalid)
        lastMarked := if same then s.lastMarked else none
        gantries := ⟨gantry .west, gantry .east⟩
        saws := ⟨saw .saw1, saw .saw2, saw .saw3, saw .saw4⟩
        ports := ⟨s.ports.planner, ⟨port .saw1, port .saw2, port .saw3, port .saw4⟩, s.ports.gantries⟩ }

/-! ## The store -/

/-- A KIND_SET of 1 to 8 entries is checked entry by entry, each entry against the checks of R16 and all of them before any is
applied; the first failure refuses the message with the entry's kind code, and a message that passes writes every entry (R18).  The
order of an entry's words is the model's reading (log entry 13). -/
def Obligations.KindSetWritesWhole : Prop :=
  ∀ (s : State) (ws : List Word), s.Ready .planner ⟨0x03, ws⟩ 1 → ws.length = 1 + 6 * word ws 0 →
    s.cell = .closed →
    let refused := fun c (d : Nat) => .next (s.answered .planner (.refused 0x03 c (BitVec.ofNat 16 d)))
    let code := fun i => word ws (1 + 6 * i)
    let kind : Nat → Option Kind := fun i =>
      if word ws (2 + 6 * i) = 1 then
        some ⟨word ws (3 + 6 * i), word ws (4 + 6 * i), word ws (5 + 6 * i), word ws (6 + 6 * i)⟩
      else none
    let bad := fun i => 1023 < code i ∨ (∃ j, j < i ∧ code j = code i) ∨ 1 < word ws (2 + 6 * i) ∨
      ∃ k, kind i = some k ∧ ¬(k.material ≤ 63 ∧ 30 ≤ k.thickness ∧ k.thickness ≤ 600 ∧ 200 ≤ k.length ∧
        k.length ≤ 5600 ∧ 100 ≤ k.width ∧ k.width ≤ 2200)
    let inUse := fun i => kind i ≠ s.kind (code i) ∧ s.kindInUse (code i) = true
    (word ws 0 < 1 ∨ 8 < word ws 0 → exec (.kindSet .planner ws) s = refused .badField 0) ∧
    (1 ≤ word ws 0 → word ws 0 ≤ 8 →
      (∀ i, i < word ws 0 → (∀ j, j < i → ¬bad j ∧ ¬inUse j) →
        (bad i → exec (.kindSet .planner ws) s = refused .badField (code i)) ∧
        (¬bad i → inUse i → exec (.kindSet .planner ws) s = refused .kindInUse (code i))) ∧
      ((∀ i, i < word ws 0 → ¬bad i ∧ ¬inUse i) → ∃ kinds,
        exec (.kindSet .planner ws) s =
          .next (State.answered { s with kinds := kinds } .planner (.accepted 0x03 0 none)) ∧
        (∀ i, i < word ws 0 → State.kind { s with kinds := kinds } (code i) = kind i) ∧
        ∀ c, (∀ i, i < word ws 0 → code i ≠ c) → State.kind { s with kinds := kinds } c = s.kind c))

/-- An AREA_SET whose entries all pass TABLE 3.3 gives each named window its values, the base aligned down to a multiple of 2^k,
leaves the others, flushes the Kind Locator and is answered with all eight windows as they now stand (R39, R46).  One that fails a
check is refused with the first failure, entry by entry, and neither changes a window nor flushes the Kind Locator (R45).  The order
of an entry's words is the model's reading (log entry 13). -/
def Obligations.AreaSetWritesWhole : Prop :=
  (∀ (s : State) (ws : List Word), s.Ready .planner ⟨0x05, ws⟩ 2 → ws.length = 1 + 6 * word ws 0 →
    s.cell = .closed → s.windows.length = 8 → 1 ≤ word ws 0 → word ws 0 ≤ 8 →
    let index := fun i => word ws (1 + 6 * i)
    (∀ i, i < word ws 0 → index i ≤ 7 ∧ (∀ j, j < i → index j ≠ index i) ∧ word ws (4 + 6 * i) ≤ 8 ∧
      word ws (2 + 6 * i) ≤ 1 ∧ word ws (5 + 6 * i) ≤ 1 ∧ word ws (6 + 6 * i) ≤ 1 ∧
      (s.addressed (word ws (3 + 6 * i))).isSome) →
    ∃ windows, windows.length = 8 ∧
      (∀ i n, i < word ws 0 → s.addressed (word ws (3 + 6 * i)) = some n →
        windows.getD (index i) .initial =
          { enabled := decide (word ws (2 + 6 * i) = 1)
            base := n - n % 2 ^ word ws (4 + 6 * i)
            k := word ws (4 + 6 * i)
            pickOnly := decide (word ws (5 + 6 * i) = 1)
            remnant := decide (word ws (6 + 6 * i) = 1) }) ∧
      (∀ j, (∀ i, i < word ws 0 → index i ≠ j) → windows.getD j .initial = s.windows.getD j .initial) ∧
      exec (.areaSet .planner ws) s = .next (State.answered
        { s with windows := windows, locator := List.replicate 32 (List.replicate 4 .invalid) } .planner
        (.areaReply ((List.range 8).map (State.windowView
          { s with windows := windows, locator := List.replicate 32 (List.replicate 4 .invalid) }))))) ∧
  ∀ (s : State) (ws : List Word), s.Ready .planner ⟨0x05, ws⟩ 1 → ws.length = 1 + 6 * word ws 0 →
    s.cell = .closed →
    let refused := fun c (d : Nat) => .next (s.answered .planner (.refused 0x05 c (BitVec.ofNat 16 d)))
    let index := fun i => word ws (1 + 6 * i)
    let bad := fun i => 7 < index i ∨ (∃ j, j < i ∧ index j = index i) ∨ 8 < word ws (4 + 6 * i) ∨
      1 < word ws (2 + 6 * i) ∨ 1 < word ws (5 + 6 * i) ∨ 1 < word ws (6 + 6 * i)
    let off := fun i => s.addressed (word ws (3 + 6 * i)) = none
    (word ws 0 < 1 ∨ 8 < word ws 0 → exec (.areaSet .planner ws) s = refused .badField 0) ∧
    (1 ≤ word ws 0 → word ws 0 ≤ 8 → ∀ i, i < word ws 0 → (∀ j, j < i → ¬bad j ∧ ¬off j) →
      (bad i → exec (.areaSet .planner ws) s = refused .badField (i + 1)) ∧
      (¬bad i → off i → exec (.areaSet .planner ws) s = refused .badSlot (word ws (3 + 6 * i))))


/-- The pick area of a slot is the enabled window of lowest index that contains it, and its put area the one of lowest index among
those that are not pick_only (R40, R41): a slot with a put area has a pick area, of an index that is no higher, and the two are
the same window when the pick area is not pick_only. -/
def Obligations.PickAndPutAreas : Prop :=
  ∀ (s : State) (n : Nat),
    let holds := fun i => i < s.windows.length ∧ (s.window i).enabled = true ∧ (s.window i).base ≤ n ∧
      n ≤ (s.window i).base + 2 ^ (s.window i).k - 1
    (∀ i, s.pickArea n = some i ↔ holds i ∧ ∀ j, j < i → ¬holds j) ∧
    (s.pickArea n = none ↔ ∀ i, ¬holds i) ∧
    (∀ i, s.putArea n = some i ↔ (holds i ∧ (s.window i).pickOnly = false) ∧
      ∀ j, j < i → ¬(holds j ∧ (s.window j).pickOnly = false)) ∧
    (s.putArea n = none ↔ ∀ i, holds i → (s.window i).pickOnly = true) ∧
    ∀ i, s.putArea n = some i → ∃ j, s.pickArea n = some j ∧ j ≤ i ∧ ((s.window j).pickOnly = false → j = i)

/-- A STACK_REGISTER that passes TABLE 2.3 lays one panel for each entry on the slot's stack, in message order, each from the head of
the free list and with the serial of R22: the first value from the serial counter on, cyclically from 16,777,215 to 1, that is not
live, after which the counter stands one past it (R22, R30).  Its reply names the slot, the serials, the new count and
height and the free count, and nothing else changes. -/
def Obligations.StackRegisterLaysPanels : Prop :=
  ∀ (s : State) (ws : List Word) (n : Nat), s.Ready .planner ⟨0x07, ws⟩ 1 → ws.length = 2 + 3 * word ws 1 →
    s.cell ≠ .noLayout → 1 ≤ word ws 1 → word ws 1 ≤ 16 → s.addressed (word ws 0) = some n → n < s.slots.length →
    s.hasPickArea n = true → (s.slot n).claim = none → (s.slot n).suspect = false →
    let entry := fun i => stackEntryAt ws i
    (∀ i, i < word ws 1 → (entry i).kind ≤ 1023 ∧ (entry i).origin ≤ 1 ∧ ∃ k, s.kind (entry i).kind = some k ∧
      ((entry i).origin = 1 → 200 ≤ (entry i).length ∧ (entry i).length ≤ k.length ∧ 100 ≤ (entry i).width ∧
        (entry i).width ≤ k.width)) →
    (s.slot n).stack.length + word ws 1 ≤ 40 →
    s.height n + (((List.range (word ws 1)).map fun i => s.thickness (entry i).kind).sum) ≤ s.geom.maxStackHeight →
    word ws 1 ≤ s.freeCount → s.livePanels.length + word ws 1 ≤ 4096 → 1 ≤ s.serialCounter →
    s.serialCounter ≤ 16777215 →
    ∃ (panels : List Panel) (free : FreeList) (counter : Nat),
      -- the counter as the panel of entry `i` is laid, the values from one on, and those live by then
      let start := fun i => if i = 0 then s.serialCounter else ((panels.map Panel.serial).getD (i - 1) 0) % 16777215 + 1
      let value := fun n j => (n - 1 + j) % 16777215 + 1
      let live := fun i v => s.serialLive v = true ∨ ∃ j, j < i ∧ (panels.map Panel.serial)[j]? = some v
      panels.length = word ws 1 ∧
      (∀ i p, panels[i]? = some p → p.kind = (entry i).kind ∧
        (p.origin = if (entry i).origin = 1 then .remnant else .raw) ∧
        (∀ k, s.kind (entry i).kind = some k →
          (p.length, p.width) = if (entry i).origin = 1 then ((entry i).length, (entry i).width)
            else (k.length, k.width)) ∧
        ∃ m, p.serial = value (start i) m ∧ ¬live i p.serial ∧ ∀ j, j < m → live i (value (start i) j)) ∧
      counter = start (word ws 1) ∧
      panels.map Panel.record = s.free.order.take (word ws 1) ∧ free.order = s.free.order.drop (word ws 1) ∧
      exec (.stackRegister .planner ws) s = .next (State.answered
        { s with
          slots := s.slots.set n { s.slot n with stack := (s.slot n).stack ++ panels }
          free := free
          serialCounter := counter } .planner
        (.registerReply (s.geom.slotName n) (panels.map Panel.serial) ((s.slot n).stack.length + word ws 1)
          (s.height n + ((List.range (word ws 1)).map fun i => s.thickness (entry i).kind).sum)
          (s.freeCount - word ws 1)))

/-- A STACK_REGISTER is refused by the first check of TABLE 2.3 that fails, takes no serial and changes nothing else (R29). -/
def Obligations.StackRegisterRefused : Prop :=
  ∀ (s : State) (ws : List Word), s.Ready .planner ⟨0x07, ws⟩ 1 → ws.length = 2 + 3 * word ws 1 →
    s.cell ≠ .noLayout →
    let refused := fun c (d : Nat) => .next (s.answered .planner (.refused 0x07 c (BitVec.ofNat 16 d)))
    let run := exec (.stackRegister .planner ws) s
    let first := fun (bad : StackEntry → Prop) i => i < word ws 1 ∧ bad (stackEntryAt ws i) ∧
      ∀ j, j < i → ¬bad (stackEntryAt ws j)
    let none' := fun (bad : StackEntry → Prop) => ∀ i, i < word ws 1 → ¬bad (stackEntryAt ws i)
    let unsound := fun e : StackEntry => 1023 < e.kind ∨ 1 < e.origin
    let undefined := fun e : StackEntry => s.kind e.kind = none
    let misfit := fun e : StackEntry => e.origin = 1 ∧ ∀ k, s.kind e.kind = some k →
      ¬(200 ≤ e.length ∧ e.length ≤ k.length ∧ 100 ≤ e.width ∧ e.width ≤ k.width)
    let full := fun n => 40 < (s.slot n).stack.length + word ws 1 ∨
      s.geom.maxStackHeight < s.height n + (((List.range (word ws 1)).map fun i => s.thickness (stackEntryAt ws i).kind).sum)
    (word ws 1 < 1 ∨ 16 < word ws 1 → run = refused .badField 0) ∧
    (1 ≤ word ws 1 → word ws 1 ≤ 16 →
      (s.addressed (word ws 0) = none → run = refused .badSlot (word ws 0)) ∧
      ∀ n, s.addressed (word ws 0) = some n →
        (s.hasPickArea n = false → run = refused .badSlot n) ∧
        (s.hasPickArea n = true → (s.slot n).claim ≠ none → run = refused .slotClaimed n) ∧
        (s.hasPickArea n = true → (s.slot n).claim = none → (s.slot n).suspect = true → run = refused .slotSuspect n) ∧
        (s.hasPickArea n = true → (s.slot n).claim = none → (s.slot n).suspect = false →
          (∀ i, first unsound i → run = refused .badField (i + 1)) ∧
          (none' unsound → ∀ i, first undefined i → run = refused .unknownKind (i + 1)) ∧
          (none' unsound → none' undefined → ∀ i, first misfit i → run = refused .badField (i + 1)) ∧
          (none' unsound → none' undefined → none' misfit → full n → run = refused .stackFull n) ∧
          (none' unsound → none' undefined → none' misfit → ¬full n → s.freeCount < word ws 1 →
            run = refused .poolFull n)))

/-- A STACK_WITHDRAW takes panels off the top of the stack, the count asked for, or the whole stack where it asks for 0 or
for more than there is, returns their records to the tail of the free list and names their serials, top first (R31).  Its
refusals come in the order R31 gives.  SLOT_RELEASE clears the suspect flag of the slot it names and leaves its stack (R28);
an address out of range is refused with BAD_SLOT, with the address as carried (R11), and a slot that is not suspect is
accepted and nothing changes.  The order of a withdrawal's words is the model's reading (log entry 13).  The completions that
are store changes are stated where no search waits, and a withdrawal's where two places are free, which its reply may take. -/
def Obligations.WithdrawAndRelease : Prop :=
  (∀ (s : State) (a c : Word), s.cell ≠ .noLayout →
    let refused := fun code (d : Nat) => .next (s.answered .planner (.refused 0x08 code (BitVec.ofNat 16 d)))
    let run := exec (.stackWithdraw .planner [a, c]) s
    (s.Ready .planner ⟨0x08, [a, c]⟩ 1 →
      (40 < c.toNat → run = refused .badField 0) ∧
      (c.toNat ≤ 40 → s.addressed a.toNat = none → run = refused .badSlot a.toNat) ∧
      (c.toNat ≤ 40 → ∀ n, s.addressed a.toNat = some n → (s.slot n).claim ≠ none → run = refused .slotClaimed n)) ∧
    (s.Ready .planner ⟨0x08, [a, c]⟩ 2 → c.toNat ≤ 40 → s.NobodyWaits →
      ∀ n below above, s.addressed a.toNat = some n → n < s.slots.length → (s.slot n).claim = none →
        (s.slot n).stack = below ++ above →
        (if c.toNat = 0 then below = [] else above.length = min c.toNat (s.slot n).stack.length) →
        run = .next (State.answered
          { s with
            slots := s.slots.set n { s.slot n with stack := below }
            free := { s.free with returned := s.free.returned ++ above.reverse.map Panel.record } } .planner
          (.withdrawReply (above.reverse.map Panel.serial))))) ∧
  ∀ (s : State) (a : Word), s.Ready .planner ⟨0x09, [a]⟩ 1 → s.cell ≠ .noLayout →
    (s.addressed a.toNat = none →
      exec (.slotRelease .planner [a]) s = .next (s.answered .planner (.refused 0x09 .badSlot a))) ∧
    (∀ n, s.addressed a.toNat = some n → (s.slot n).suspect = false →
      exec (.slotRelease .planner [a]) s = .next (s.answered .planner (.accepted 0x09 0 none))) ∧
    ∀ n, s.addressed a.toNat = some n → n < s.slots.length → (s.slot n).suspect = true → s.NobodyWaits →
      exec (.slotRelease .planner [a]) s = .next (State.answered
        { s with slots := s.slots.set n { s.slot n with suspect := false } } .planner (.accepted 0x09 0 none))

/-! ## Queries and status records -/

/-- The planner's queries are answered with what they ask for and change nothing but the port's queues: LAYOUT_QUERY and COUNTS_QUERY
in every cell state (R176, R180), KIND_QUERY, AREA_QUERY, SLOT_QUERY and SAW_QUERY while a layout is active (R18, R32, R47, R126).
A refusal whose detail word the manual does not state answers some word (the model's free value: log entry 1), and the order
of SLOT_QUERY's words is the model's reading (log entry 13). While no layout is active every saw counts as absent, and the
hold set in a saw port's status record is empty: the model's choice (log entry 38). STATUS_QUERY and STATUS_PEEK are answered
on every port and in every cell state with the port's status record as it stands, its change flags and its two link counts in
it; STATUS_PEEK changes nothing but the port's queues, and STATUS_QUERY also clears the flags, the attention latch and the
counts (R193). -/
def Obligations.QueriesAnswerAlone : Prop :=
  (∀ s : State,
    let answer := fun r => .next (s.answered .planner r)
    let freely := fun code c d => .next (State.answered { s with freeNext := s.freeNext + 1 } .planner (.refused code c d))
    let gantry := fun g => [(s.gantry g).stepsCompleted.latched, (s.gantry g).yieldsMade.latched,
      (s.gantry g).overruns.latched, (s.gantry g).driveFaults.latched]
    let saw := fun w => [(s.saw w).started.latched, (s.saw w).released.latched, (s.saw w).aborted.latched,
      (s.saw w).taken.latched, (s.saw w).panelsPlaced.latched, (s.saw w).extraAcks.latched,
      (s.saw w).starved.latched, (s.saw w).held.latched]
    (s.Ready .planner ⟨0x02, []⟩ 1 →
      exec (.layoutQuery .planner []) s = answer (.layoutReply s.cell s.loader (s.layout.map Layout.words))) ∧
    (s.Ready .planner ⟨0x10, []⟩ 2 →
      exec (.countsQuery .planner []) s = answer (.countsReply
        ([s.verifiedHits.latched, s.failedHits.latched, s.misses.latched] ++ gantry .west ++ gantry .east ++ saw .saw1 ++
          saw .saw2 ++ saw .saw3 ++ saw .saw4))) ∧
    (s.cell ≠ .noLayout →
      (∀ w : Word, s.Ready .planner ⟨0x04, [w]⟩ 1 →
        (w.toNat ≤ 1023 →
          exec (.kindQuery .planner [w]) s = answer (.kindReply (s.kind w.toNat) (s.kindInUse w.toNat))) ∧
        (1023 < w.toNat → ∃ d, exec (.kindQuery .planner [w]) s = freely 0x04 .badField d)) ∧
      (s.Ready .planner ⟨0x06, []⟩ 2 →
        exec (.areaQuery .planner []) s = answer (.areaReply ((List.range 8).map s.windowView))) ∧
      (∀ a f : Word, s.Ready .planner ⟨0x0A, [a, f]⟩ 1 →
        (39 < f.toNat → exec (.slotQuery .planner [a, f]) s = answer (.refused 0x0A .badField 0)) ∧
        (f.toNat ≤ 39 → s.addressed a.toNat = none →
          exec (.slotQuery .planner [a, f]) s = answer (.refused 0x0A .badSlot a)) ∧
        (f.toNat ≤ 39 → ∀ n, s.addressed a.toNat = some n →
          exec (.slotQuery .planner [a, f]) s = answer (.slotReply
            { slot := s.geom.slotName n, count := (s.slot n).stack.length, height := s.height n,
              suspect := (s.slot n).suspect, claim := (s.slot n).claim,
              pickArea := (s.pickArea n).map fun i => (i, (s.window i).remnant),
              putArea := (s.putArea n).map fun i => (i, (s.window i).remnant), first := f.toNat,
              panels := (((s.slot n).stack.drop f.toNat).take 10).map fun p =>
                ⟨p.serial, p.kind, p.origin, p.length, p.width⟩ }))) ∧
      (∀ w : Word, s.Ready .planner ⟨0x0C, [w]⟩ 5 →
        (w.toNat = 0 ∨ 4 < w.toNat → ∃ d, exec (.sawQuery .planner [w]) s = freely 0x0C .badField d) ∧
        ∀ v, w.toNat = sawNumber v →
          (s.sawPresent v = false → ∃ d, exec (.sawQuery .planner [w]) s = freely 0x0C .sawAbsent d) ∧
          (s.sawPresent v = true → (s.saw v).books.length ≤ 8 →
            exec (.sawQuery .planner [w]) s = answer (.sawStateReply (s.sawStateView v)))))) ∧
  ∀ (s : State) (p : Port),
    let parts := if p = .planner then 3 else 1
    let view := (s.taken p).statusView p
    (view.cell = s.cell ∧ view.flags = (s.port p).flags ∧ view.carrierUp = (s.port p).carrierUp ∧
      view.flowGo = (s.port p).flowGo ∧ view.framingCount = (s.port p).framingCount ∧
      view.crcCount = (s.port p).crcCount ∧ view.outboundFill = (s.port p).outbound.length ∧
      view.pendingFill = (s.port p).pushedWaiting.length) ∧
    (s.Ready p ⟨0x42, []⟩ parts → exec (.statusPeek p []) s = .next (s.answered p (.statusReply view))) ∧
    (s.Ready p ⟨0x41, []⟩ parts → exec (.statusQuery p []) s = .next (State.answered
      (s.setPort p { s.port p with flags := [], attention := false, framingCount := 0, crcCount := 0 }) p
      (.statusReply view)))

/-! ## Selection -/

/-- Three searches choose what their rules say.  The scan takes, among the unclaimed eligible sources of a kind, the one nearest the
saw's infeed (R52, R56); the remnant return takes the first tier before the second and then the one nearest the outfeed (R67, R68);
the panel return takes the panel's own source slot where it can and else the one nearest the gantry whose put area matches the
panel's origin (R70, R71).  Among equal distances each takes the lower slot number, and none is chosen only where there is none. -/
def Obligations.SearchesTakeNearest : Prop :=
  ∀ (s : State) (g : Gantry) (w : Saw) (kind : Nat), s.slots.length = s.geom.slotCount →
    let source := fun n => n < s.geom.slotCount ∧ s.reachable g n = true ∧ (s.pickArea n).isSome ∧
      (s.slot n).suspect = false ∧ (∃ p, (s.slot n).stack.getLast? = some p ∧ p.origin = .raw ∧ p.kind = kind) ∧
      (s.slot n).claim = none
    let infeed := fun n => distance (s.geom.slotX n) (s.geom.sawPlace w).infeedX
    let room := fun k n => (s.slot n).stack.length < 40 ∧ s.height n + s.thickness k ≤ s.geom.maxStackHeight
    let offcut := fun n => n < s.geom.slotCount ∧ (s.gantryGeom g).reaches (s.geom.sawPlace w).outfeedX = true ∧
      s.reachable g n = true ∧ (∃ i, s.putArea n = some i ∧ (s.window i).remnant = true) ∧
      (s.slot n).suspect = false ∧ (s.slot n).claim = none ∧ room kind n
    let first := fun n => ∃ p, (s.slot n).stack.getLast? = some p ∧ s.material p.kind = s.material kind ∧
      s.thickness p.kind = s.thickness kind
    let outfeed := fun n => distance (s.geom.slotX n) (s.geom.sawPlace w).outfeedX
    let put := fun (p : Panel) n => n < s.geom.slotCount ∧ s.reachable g n = true ∧ (s.slot n).suspect = false ∧
      (s.slot n).claim = none ∧ room p.kind n
    let fits := fun (p : Panel) n => put p n ∧ ∃ i, s.putArea n = some i ∧
      ((s.window i).remnant = true ↔ p.origin = .remnant)
    let near := fun n => distance (s.geom.slotX n) (s.pos g)
    (∀ n, s.scan g w kind = some n ↔
      source n ∧ ∀ m, source m → infeed n < infeed m ∨ (infeed n = infeed m ∧ n ≤ m)) ∧
    (s.scan g w kind = none ↔ ∀ n, ¬source n) ∧
    (∀ n, s.remnantReturnSearch g w kind = some n ↔
      offcut n ∧ ∀ m, offcut m → (first m → first n) ∧
        ((first n ↔ first m) → outfeed n < outfeed m ∨ (outfeed n = outfeed m ∧ n ≤ m))) ∧
    (s.remnantReturnSearch g w kind = none ↔ ∀ n, ¬offcut n) ∧
    (∀ (p : Panel) n, put p n → (s.pickArea n).isSome → s.returnSearch g p (some n) = some n) ∧
    ∀ (p : Panel) (from' : Option Nat), (∀ n, from' = some n → ¬(put p n ∧ (s.pickArea n).isSome)) →
      (∀ n, s.returnSearch g p from' = some n ↔
        fits p n ∧ ∀ m, fits p m → near n < near m ∨ (near n = near m ∧ n ≤ m)) ∧
      (s.returnSearch g p from' = none ↔ ∀ n, ¬fits p n)

/-- The source search of a book entry (R53, R55, R57, R60, R61, R62): the remnant search first, then the Kind Locator, then the scan.  The
remnant search takes the candidate of smallest area, then the one nearest the infeed, then the lower slot number (R54).  A
lookup steps one of the three counters; a verified hit uses its slot and raises an unpinned way to most recent; a failed hit takes the
scan's slot into its way, which an unpinned way loses where the scan finds none; a miss inserts the scan's slot into the lowest INVALID way,
else over the way of rank 1.  The slot chosen is claimed; without one the search yields WAIT where a claim alone stood in the way, else
NONE. -/
def Obligations.SourceSearchSteps : Prop :=
  ∀ (s : State) (g : Gantry) (w : Saw) (e : BookEntry), s.slots.length = s.geom.slotCount → s.LocatorSound →
    let r := s.sourceSearch g w e
    let t := r.2
    let source := fun n => n < s.geom.slotCount ∧ s.reachable g n = true ∧ (s.pickArea n).isSome ∧
      (s.slot n).suspect = false ∧ ∃ p, (s.slot n).stack.getLast? = some p ∧ p.origin = .raw ∧ p.kind = e.kind
    let offcut := fun n => n < s.geom.slotCount ∧ (s.saw w).settings.remnantAllowed = true ∧ s.reachable g n = true ∧
      (∃ i, s.pickArea n = some i ∧ (s.window i).remnant = true) ∧ (s.slot n).suspect = false ∧
      ∃ l b p, e.required = some (l, b) ∧ (s.slot n).stack.getLast? = some p ∧ p.origin = .remnant ∧
        s.material p.kind = s.material e.kind ∧ s.thickness p.kind = s.thickness e.kind ∧ l ≤ p.length ∧ b ≤ p.width
    let free := fun n => (s.slot n).claim = none
    let area := fun n => ((s.slot n).stack.getLast?.map fun p => p.length * p.width).getD 0
    let infeed := fun n => distance (s.geom.slotX n) (s.geom.sawPlace w).infeedX
    let tag := e.kind / 32
    let old := fun j => (s.locatorWays e.kind).getD j .invalid
    let new := fun j => (t.locatorWays e.kind).getD j .invalid
    let ranked := rankedCount (s.locatorWays e.kind)
    let lowered := fun q j => match old j with
      | .ranked p a n => .ranked (if q < p then p - 1 else p) a n
      | x => x
    let raised := fun i q n => new i = .ranked ranked tag n ∧ ∀ j, j ≠ i → new j = lowered q j
    let counted := fun v f m => t.verifiedHits = v ∧ t.failedHits = f ∧ t.misses = m
    let chosen := s.scan g w e.kind
    (s.remnantSearch g w e = none ↔ ∀ n, ¬(offcut n ∧ free n)) ∧
    (∀ n, s.remnantSearch g w e = some n → offcut n ∧ free n ∧ r = (.slot n, s.claim n g .pick) ∧
      ∀ m, offcut m → free m → area n < area m ∨ (area n = area m ∧ (infeed n < infeed m ∨ (infeed n = infeed m ∧ n ≤ m)))) ∧
    (∀ n, r.1 = .slot n → free n ∧ (t.slot n).claim = some ⟨g, .pick⟩) ∧
    (r.1 = .wait ↔ (∀ n, r.1 ≠ .slot n) ∧ ∃ n, (offcut n ∨ source n) ∧ ¬free n) ∧
    (∀ k, k % 32 ≠ e.kind % 32 → t.locatorWays k = s.locatorWays k) ∧
    (s.remnantSearch g w e = none →
      ((∀ j, (old j).tag? ≠ some tag) →
        counted s.verifiedHits s.failedHits s.misses.step ∧
        (chosen = none → (∀ n, r.1 ≠ .slot n) ∧ t.locatorWays e.kind = s.locatorWays e.kind) ∧
        ∀ n, chosen = some n → r.1 = .slot n ∧
          (∀ i, i < 4 → old i = .invalid → (∀ j, j < i → old j ≠ .invalid) →
            new i = (if s.pinMode then .pinned tag n else .ranked (ranked + 1) tag n) ∧ ∀ j, j ≠ i → new j = old j) ∧
          (∀ i a m, (∀ j, j < 4 → old j ≠ .invalid) → i < 4 → old i = .ranked 1 a m →
            new i = (if s.pinMode then .pinned tag n else .ranked ranked tag n) ∧ ∀ j, j ≠ i → new j = lowered 1 j) ∧
          ((∀ j, j < 4 → ∃ a m, old j = .pinned a m) → t.locatorWays e.kind = s.locatorWays e.kind)) ∧
      ∀ i, i < 4 → (old i).tag? = some tag →
        (∀ m, (old i).slot? = some m → source m → free m →
          r.1 = .slot m ∧ counted s.verifiedHits.step s.failedHits s.misses ∧
          (∀ q, old i = .ranked q tag m → raised i q m) ∧
          (old i = .pinned tag m → t.locatorWays e.kind = s.locatorWays e.kind)) ∧
        (∀ m, (old i).slot? = some m → ¬(source m ∧ free m) →
          counted s.verifiedHits s.failedHits.step s.misses ∧
          (∀ n, chosen = some n → r.1 = .slot n ∧ (∀ q, old i = .ranked q tag m → raised i q n) ∧
            (old i = .pinned tag m → new i = .pinned tag n ∧ ∀ j, j ≠ i → new j = old j)) ∧
          (chosen = none → (∀ n, r.1 ≠ .slot n) ∧
            (∀ q, old i = .ranked q tag m → new i = .invalid ∧ ∀ j, j ≠ i → new j = lowered q j) ∧
            (old i = .pinned tag m → t.locatorWays e.kind = s.locatorWays e.kind))))

/-! ## The runway -/

/-- The travel time and the limit of a step (R91, R92): in the cruise case two quotients, each rounded up, in the short case the
smallest whole number t with t² × A ≥ 4,000,000 × d; the limit is ⌈3 × (t + handling) / 2⌉ + overrun_slack, at most 600,000. -/
def Obligations.TravelTimeAndLimit : Prop :=
  (∀ v a : Nat, travelTime 0 v a = 0) ∧
  (∀ d v a : Nat, 1 ≤ d → 1 ≤ v → 1 ≤ a → v * v ≤ d * a → ∃ q r, travelTime d v a = q + r ∧
    (1000 * d ≤ q * v ∧ ∀ k, 1000 * d ≤ k * v → q ≤ k) ∧ (1000 * v ≤ r * a ∧ ∀ k, 1000 * v ≤ k * a → r ≤ k)) ∧
  (∀ d v a : Nat, 1 ≤ d → d ≤ 60000 → 1 ≤ a → d * a < v * v →
    4000000 * d ≤ travelTime d v a * travelTime d v a * a ∧
      ∀ k, 4000000 * d ≤ k * k * a → travelTime d v a ≤ k) ∧
  ∀ (l : Layout) (g : Gantry) (kind : StepKind) (d : Nat),
    let handling := match kind with
      | .travelPick => (l.gantries.get g).pickTime
      | .travelPut | .place => (l.gantries.get g).placeTime
      | .travelHover | .travelOnly => 0
    let t := travelTime d (l.gantries.get g).vmax (l.gantries.get g).accel
    ∃ q, 3 * (t + handling) ≤ 2 * q ∧ (∀ k, 3 * (t + handling) ≤ 2 * k → q ≤ k) ∧
      l.stepLimit g kind d = min 600000 (q + l.overrunSlack)

/-- A step that travels for its own sake is granted when its requested span is clear of the other gantry's reservation, and is judged
by the other gantry's state otherwise (R77, R79, R82, R85): an IDLE or STRANDED blocker is sent out of the way, a blocker that waits
itself with a request that overlaps crosses, a DWELL, STEPPING or HOVER_HOLD blocker is waited for, and an OFFLINE, PARKED or FAULTED
one blocks the step, which is withdrawn.  The requester keeps its reservation until it is granted. -/
def Obligations.RunwayVerdicts : Prop :=
  ∀ (s : State) (g : Gantry) (step : Step) (span : Span), step.kind ≠ .place → step.kind ≠ .travelOnly →
    let r := s.request g step span
    let o := otherGantry g
    let waits := fun v =>
      { s.gantry g with
        state := .waitGrant
        current := some { step with request := some ⟨span, v⟩, issued := none }
        dwellEnd := none }
    let yields := fun h target => ((r.1.gantry h).current.map fun c => (c.kind, c.target)) = some (.travelOnly, target) ∧
      (r.1.gantry h).yieldsMade = (s.gantry h).yieldsMade.step
    let clear := match g with
      | .west => span.hi < (s.span .east).lo
      | .east => (s.span .west).hi < span.lo
    (clear → r.2 = false ∧ r.1.gantry o = s.gantry o ∧ r.1.gantry g =
      { s.gantry g with
        state := .stepping
        reservation := some span
        current := some { step with
          request := none
          issued := some ⟨(s.gantry g).nextToken, span, s.clock,
            s.geom.stepLimit g step.kind (distance (s.pos g) step.target)⟩ }
        dwellEnd := none
        nextToken := (s.gantry g).nextToken + 1 }) ∧
    (¬clear → (s.gantry o).state = .dwell ∨ (s.gantry o).state = .stepping ∨ (s.gantry o).state = .hoverHold →
      r.2 = false ∧ r.1.gantry o = s.gantry o ∧ r.1.gantry g = waits .waiting) ∧
    (¬clear → (s.gantry o).state = .offline ∨ (s.gantry o).state = .parked ∨ (s.gantry o).state = .faulted →
      r.2 = true ∧ r.1.gantry o = s.gantry o ∧
        r.1.gantry g = { s.gantry g with current := none, dwellEnd := none }) ∧
    (¬clear → (s.gantry o).state = .idle ∨ (s.gantry o).state = .stranded →
      r.2 = false ∧ r.1.gantry g = waits .yielding ∧ yields o (s.yieldTarget o span) ∧
        (r.1.gantry o).former = if (s.gantry o).state = .idle then some .idle else some .stranded) ∧
    (¬clear → (s.gantry o).state = .waitGrant → clearOf o (s.gantry o).requestSpan (s.span g) = false →
      let later := if elapsed s.clock (s.taskStart .west) < elapsed s.clock (s.taskStart .east) then Gantry.west else .east
      r.2 = false ∧ (r.1.gantry later).former = none ∧
        (if later = g then
          yields g (s.yieldTarget g (s.gantry o).requestSpan) ∧ r.1.gantry o = s.gantry o ∧
            (r.1.gantry g).setAside = some { step with request := none, issued := none }
        else
          yields o (s.yieldTarget o span) ∧ r.1.gantry g = waits .crossing ∧
            (r.1.gantry o).setAside = (s.gantry o).current.map fun c => { c with request := none, issued := none }))

/-! ## Gantries -/

/-- GANTRY_READY announces an OFFLINE gantry (R99, R100): it becomes IDLE at the position carried, with its full standing span there,
an unfrozen reservation and no dwell values; its token and counters keep their values.  The checks come in the order of R99.
GANTRY_PARK makes an IDLE gantry PARKED, with its position and its span as they were, and is refused in every other state (R114).
The completions are stated where the other gantry waits for nothing and no task is there to give. -/
def Obligations.GantriesAnnouncedAndParked : Prop :=
  (∀ (s : State) (g : Gantry) (x : Word), s.cell ≠ .noLayout → s.Ready (.gantry g) ⟨0x31, [x]⟩ 1 →
    let run := exec (.gantryReady (.gantry g) [x]) s
    let refused := fun c (d : Nat) => .next (s.answered (.gantry g) (.refused 0x31 c (BitVec.ofNat 16 d)))
    let l := s.geom
    let outside := x.toNat < (l.gantries.get g).limLo ∨ (l.gantries.get g).limHi < x.toNat
    let met := match g with
      | .west => (s.span .east).lo ≤ (l.standing .west x.toNat).hi
      | .east => (l.standing .east x.toNat).lo ≤ (s.span .west).hi
    let bound := match g with
      | .west => (s.span .east).lo
      | .east => (s.span .west).hi
    let announced :=
      { s.gantry g with
        state := .idle
        position := some x.toNat
        reservation := some (l.standing g x.toNat)
        frozen := false
        lastDirection := none
        lastMaterial := none
        lastCompletion := none }
    let t := { s with gantries := s.gantries.set g announced }
    ((s.gantry g).state ≠ .offline → run = refused .gantryState (s.gantry g).state.number) ∧
    ((s.gantry g).state = .offline → outside → run = refused .outOfReach x.toNat) ∧
    ((s.gantry g).state = .offline → ¬outside → met → run = refused .spanConflict bound) ∧
    ((s.gantry g).state = .offline → ¬outside → ¬met → (s.gantry (otherGantry g)).state ≠ .waitGrant →
      (s.gantry (otherGantry g)).waits = false → t.NothingToGive →
      run = .next (t.answered (.gantry g) (.accepted 0x31 0 none)))) ∧
  ∀ (s : State) (g : Gantry), s.cell ≠ .noLayout →
    let ws : List Word := [match g with | .west => 0 | .east => 1]
    s.Ready .planner ⟨0x0D, ws⟩ 1 →
    ((s.gantry g).state ≠ .idle → exec (.gantryPark .planner ws) s =
      .next (s.answered .planner (.refused 0x0D .gantryState (BitVec.ofNat 16 (s.gantry g).state.number)))) ∧
    ((s.gantry g).state = .idle → (s.gantry (otherGantry g)).state ≠ .waitGrant → exec (.gantryPark .planner ws) s =
      .next (State.answered
        (State.latch { s with gantries := s.gantries.set g { s.gantry g with state := .parked } } (.gantry g)
          .serviceChanged) .planner (.accepted 0x0D 0 none)))

/-- GANTRY_RESTORE is refused by the first check of TABLE 6.5 that fails, and changes nothing (R115): the gantry's state, its position
against the limits and against the other gantry's reservation, then, where a FAULTED gantry's fault record or a STRANDED gantry's
head holds a panel, what becomes of that panel. -/
def Obligations.GantryRestoreRefused : Prop :=
  ∀ (s : State) (g : Gantry) (x d a v : Word), s.cell ≠ .noLayout → d.toNat ≤ 2 → v.toNat ≤ 1 →
    let ws : List Word := [match g with | .west => 0 | .east => 1, x, d, a, v]
    s.Ready .planner ⟨0x0E, ws⟩ 1 →
    let run := exec (.gantryRestore .planner ws) s
    let refused := fun c (k : Nat) => .next (s.answered .planner (.refused 0x0E c (BitVec.ofNat 16 k)))
    let l := s.geom
    let restorable := (s.gantry g).state = .offline ∨ (s.gantry g).state = .parked ∨ (s.gantry g).state = .faulted ∨
      (s.gantry g).state = .stranded
    let outside := x.toNat < (l.gantries.get g).limLo ∨ (l.gantries.get g).limHi < x.toNat
    let met := match g with
      | .west => (s.span .east).lo ≤ (l.standing .west x.toNat).hi
      | .east => (l.standing .east x.toNat).lo ≤ (s.span .west).hi
    let bound := match g with
      | .west => (s.span .east).lo
      | .east => (s.span .west).hi
    let held := fun p => ((s.gantry g).state = .faulted ∧ ∃ f, (s.gantry g).fault = some f ∧ f.panel = some p) ∨
      ((s.gantry g).state = .stranded ∧ (s.gantry g).carried = some p)
    (¬restorable → run = refused .gantryState (s.gantry g).state.number) ∧
    (restorable → outside → run = refused .outOfReach x.toNat) ∧
    (restorable → ¬outside → met → run = refused .spanConflict bound) ∧
    (restorable → ¬outside → ¬met → ∀ p, held p →
      (d.toNat = 0 → run = refused .badField (p.serial % 65536)) ∧
      (d.toNat = 2 → s.addressed a.toNat = none → run = refused .badSlot a.toNat) ∧
      (d.toNat = 2 → ∀ n, s.addressed a.toNat = some n →
        (s.pickArea n = none → run = refused .badSlot n) ∧
        ((s.pickArea n).isSome → (s.slot n).claim ≠ none → run = refused .slotClaimed n) ∧
        ((s.pickArea n).isSome → (s.slot n).claim = none → (s.slot n).suspect = true → run = refused .slotSuspect n) ∧
        ((s.pickArea n).isSome → (s.slot n).claim = none → (s.slot n).suspect = false →
          ¬((s.slot n).stack.length < 40 ∧ s.height n + s.thickness p.kind ≤ s.geom.maxStackHeight) →
          run = refused .stackFull n)))

/-- An accepted GANTRY_RESTORE lays the panel on the slot it names or returns its record to the tail of the free list, ends a STRANDED
gantry's task without a report, clears the fault record, sets the position and the full standing span, makes the gantry IDLE, OFFLINE or
PARKED, latches SERVICE_CHANGED on the gantry's port, and answers with the serial, the slot and its new count and height (R116, R117,
R122).  It is stated where the other gantry waits for nothing and no task is there to give. -/
def Obligations.GantryRestoreReturns : Prop :=
  ∀ (s : State) (g : Gantry) (x d a v : Word), s.cell ≠ .noLayout → d.toNat ≤ 2 → v.toNat ≤ 1 →
    let ws : List Word := [match g with | .west => 0 | .east => 1, x, d, a, v]
    s.Ready .planner ⟨0x0E, ws⟩ 1 →
    let l := s.geom
    let panel := match (s.gantry g).state with
      | .faulted => (s.gantry g).fault.bind FaultRecord.panel
      | .stranded => (s.gantry g).carried
      | _ => none
    ((s.gantry g).state = .offline ∨ (s.gantry g).state = .parked ∨ (s.gantry g).state = .faulted ∨
      (s.gantry g).state = .stranded) →
    (l.gantries.get g).limLo ≤ x.toNat → x.toNat ≤ (l.gantries.get g).limHi →
    (match g with
      | .west => (l.standing .west x.toNat).hi < (s.span .east).lo
      | .east => (s.span .west).hi < (l.standing .east x.toNat).lo) →
    (s.gantry (otherGantry g)).state ≠ .waitGrant → (s.gantry (otherGantry g)).waits = false →
    let gantry : GantryRecord :=
      { s.gantry g with
        state := if v.toNat = 1 then (if (s.port (.gantry g)).carrierUp then .idle else .offline) else .parked
        position := some x.toNat
        reservation := some (l.standing g x.toNat)
        frozen := false
        carried := none
        task := none
        fault := none
        lastDirection := none
        lastMaterial := none
        lastCompletion := none }
    let saws := match (s.gantry g).task.map Task.kind with
      | some (.remnantReturn w) => s.saws.set w
          { s.saw w with offers := (s.saw w).offers.filter fun o => decide (o.state ≠ .inProgress g) }
      | _ => s.saws
    let t := State.latch { s with gantries := s.gantries.set g gantry, saws := saws } (.gantry g) .serviceChanged
    let answered := fun (u : State) r => exec (.gantryRestore .planner ws) s =
      .next (u.answered .planner (.accepted 0x0E 0 (some r)))
    (panel = none → t.NothingToGive → answered t ⟨0, none, 0, 0⟩) ∧
    (∀ p, panel = some p → d.toNat = 1 →
      let u := { t with free := { t.free with returned := t.free.returned ++ [p.record] } }
      u.NothingToGive → answered u ⟨p.serial, none, 0, 0⟩) ∧
    ∀ p n, panel = some p → d.toNat = 2 → s.addressed a.toNat = some n → n < s.slots.length → (s.pickArea n).isSome →
      (s.slot n).claim = none → (s.slot n).suspect = false → (s.slot n).stack.length < 40 →
      s.height n + s.thickness p.kind ≤ s.geom.maxStackHeight →
      let u := { t with slots := t.slots.set n { t.slot n with stack := (t.slot n).stack ++ [p] } }
      u.NothingToGive →
      answered u ⟨p.serial, some ⟨n, n / l.bays, n % l.bays + 1⟩, (s.slot n).stack.length + 1,
        s.height n + s.thickness p.kind⟩

/-- STEP_DONE completes the outstanding step whose token it carries, within the granted span (R105, R106, R107, R95): the position, the
completion time, the last direction and the reported outcome are taken, the steps-completed counter steps, and the panel moves as the
step and its outcome say, by R33, R34 and R35; no other stack changes and the other gantry's report stands.  A STEP_DONE for no
outstanding step is refused with STALE_STEP, with the token it carries, and changes nothing. -/
def Obligations.StepDoneCompletes : Prop :=
  ∀ (s : State) (g : Gantry) (k x d : Word), s.cell ≠ .noLayout → d.toNat ≤ 3 → s.Ready (.gantry g) ⟨0x32, [k, x, d]⟩ 1 →
    (((s.gantry g).state ≠ .stepping ∨ ∀ c i, (s.gantry g).current = some c → c.issued = some i →
        i.token.toNat ≠ k.toNat) →
      exec (.stepDone (.gantry g) [k, x, d]) s = .next (s.answered (.gantry g) (.refused 0x32 .staleStep k))) ∧
    ∀ c i, (s.gantry g).state = .stepping → (s.gantry g).current = some c → c.issued = some i →
      i.token.toNat = k.toNat → i.span.lo ≤ x.toNat → x.toNat ≤ i.span.hi →
      ∃ t, exec (.stepDone (.gantry g) [k, x, d]) s = .next t ∧
        (t.gantry g).position = some x.toNat ∧ (t.gantry g).lastCompletion = some s.clock ∧
        (t.gantry g).lastOutcome = some
          (match d.toNat with | 0 => .ok | 1 => .pickMiss | 2 => .placeFail | _ => .putFail) ∧
        (t.gantry g).stepsCompleted = (s.gantry g).stepsCompleted.step ∧
        (t.gantry g).lastDirection = (if s.pos g < c.target then some .east
          else if c.target < s.pos g then some .west else (s.gantry g).lastDirection) ∧
        (t.gantry (otherGantry g)).position = (s.gantry (otherGantry g)).position ∧
        (t.gantry (otherGantry g)).carried = (s.gantry (otherGantry g)).carried ∧
        (t.gantry (otherGantry g)).stepsCompleted = (s.gantry (otherGantry g)).stepsCompleted ∧
        (let still := ∀ n, (t.slot n).stack = (s.slot n).stack
        let others := fun m => ∀ n, n ≠ m → (t.slot n).stack = (s.slot n).stack
        match c.kind with
        | .travelPick =>
          (∀ n p, c.slot = some n → (s.slot n).stack.getLast? = some p → d.toNat = 0 →
            (t.gantry g).carried = some p ∧ (t.gantry g).lastMaterial = some (s.material p.kind) ∧
              (t.slot n).stack = (s.slot n).stack.dropLast ∧ others n) ∧
          (∀ n, c.slot = some n → n < s.slots.length → d.toNat ≠ 0 →
            (t.gantry g).carried = (s.gantry g).carried ∧ (t.slot n).suspect = true ∧ still) ∧
          (∀ w o a r n, c.slot = none → c.saw = some w → d.toNat = 0 → s.offerOf g w = some o →
            (s.gantry g).task = some a → a.blank = some r → a.destination = some n →
            (t.gantry g).carried = some ⟨r, s.serialToGive, o.kind, .remnant, o.length, o.width⟩ ∧
              (t.gantry g).lastMaterial = some (s.material o.kind) ∧ still)
        | .place =>
          (∀ w p, c.saw = some w → d.toNat = 0 → (s.gantry g).carried = some p →
            (t.gantry g).carried = none ∧ (t.saw w).panelsPlaced = (s.saw w).panelsPlaced.step ∧ still) ∧
          (d.toNat ≠ 0 → (t.gantry g).carried = (s.gantry g).carried ∧ still)
        | .travelPut =>
          (∀ n p, c.slot = some n → n < s.slots.length → d.toNat = 0 → (s.gantry g).carried = some p →
            (t.gantry g).carried = none ∧ (t.slot n).stack = (s.slot n).stack ++ [p] ∧ others n) ∧
          (∀ n, c.slot = some n → n < s.slots.length → d.toNat ≠ 0 →
            (t.gantry g).carried = (s.gantry g).carried ∧ (t.slot n).suspect = true ∧ still)
        | .travelHover | .travelOnly => (t.gantry g).carried = (s.gantry g).carried ∧ still)

/-- A panel's return ends when its TRAVEL_PUT completes OK (R34, R78, R163): the panel lies on top of the slot, the claim is released,
the gantry is IDLE with no task, its reservation shrunk to its standing span within the granted one.  A remnant return's offer ends
STORED with it (R168, R141): it leaves its saw's list, and its OFFER_REPORT names the serial and the slot.  The equations say all the
rest is as it was.  They are stated where the other gantry waits for nothing and no task is there to give. -/
def Obligations.ReturnPutOnStack : Prop :=
  ∀ (s : State) (g : Gantry) (k x : Word) (c : Step) (i : Issued) (a : Task) (n : Nat) (p : Panel), s.cell ≠ .noLayout →
    s.Ready (.gantry g) ⟨0x32, [k, x, 0]⟩ 1 → (s.gantry g).state = .stepping → (s.gantry g).current = some c →
    c.issued = some i → i.token.toNat = k.toNat → i.span.lo ≤ x.toNat → x.toNat ≤ i.span.hi → c.kind = .travelPut →
    c.slot = some n → n < s.slots.length → (s.slot n).claim = some ⟨g, .put⟩ → (s.gantry g).task = some a →
    (s.gantry g).carried = some p → (s.gantry (otherGantry g)).state ≠ .waitGrant →
    (s.gantry (otherGantry g)).waits = false →
    let t := { s with
      slots := s.slots.set n { s.slot n with stack := (s.slot n).stack ++ [p], claim := none }
      gantries := s.gantries.set g
        { s.gantry g with
          state := .idle
          position := some x.toNat
          reservation := some ⟨max (s.geom.standing g x.toNat).lo i.span.lo, min (s.geom.standing g x.toNat).hi i.span.hi⟩
          carried := none
          task := none
          current := none
          setAside := none
          former := none
          dwellEnd := none
          hold := none
          lastDirection := if s.pos g < c.target then some .east
            else if c.target < s.pos g then some .west else (s.gantry g).lastDirection
          lastCompletion := some s.clock
          lastOutcome := some .ok
          stepsCompleted := (s.gantry g).stepsCompleted.step } }
    let run := exec (.stepDone (.gantry g) [k, x, 0]) s
    (a.kind = .panelReturn → t.NothingToGive → run = .next (t.answered (.gantry g) (.accepted 0x32 0 none))) ∧
    ∀ w o, a.kind = .remnantReturn w → s.offerOf g w = some o →
      let u : State := { t with
        saws := t.saws.set w
          { s.saw w with
            offers := (s.saw w).offers.filter fun x : Offer => decide (x.state ≠ OfferState.inProgress g)
            lastOfferReport := some .stored } }
      u.NothingToGive → run = .next ((u.push (.saw w)
        (.offerReport ⟨o.kind, o.length, o.width, .stored, none, p.serial, some ⟨n, n / s.geom.bays, n % s.geom.bays + 1⟩⟩)).answered
          (.gantry g) (.accepted 0x32 0 none))

/-- A yield completes, whatever outcome its report names (R84, R86, R107, R162).  A yielder that was IDLE is IDLE again; one that was
STRANDED is STRANDED again and searches (R165); one whose step was set aside takes it back and prepares it afresh; one whose book ended
meanwhile becomes IDLE, or begins the return of the panel on its head (log entry 11).  The request that the other gantry waits with is
granted in the same step where the way is clear now (R80). -/
def Obligations.YieldCompletes : Prop :=
  ∀ (s : State) (g : Gantry) (k x d : Word) (c : Step) (i : Issued), s.cell ≠ .noLayout → d.toNat ≤ 3 →
    s.Ready (.gantry g) ⟨0x32, [k, x, d]⟩ 1 → (s.gantry g).state = .stepping → (s.gantry g).current = some c →
    c.kind = .travelOnly → c.issued = some i → i.token.toNat = k.toNat → i.span.lo ≤ x.toNat → x.toNat ≤ i.span.hi →
    let o := otherGantry g
    let run := exec (.stepDone (.gantry g) [k, x, d]) s
    let span : Span := ⟨max (s.geom.standing g x.toNat).lo i.span.lo, min (s.geom.standing g x.toNat).hi i.span.hi⟩
    let done : GantryRecord :=
      { s.gantry g with
        position := some x.toNat
        reservation := some span
        current := none
        lastDirection := if s.pos g < c.target then some .east
          else if c.target < s.pos g then some .west else (s.gantry g).lastDirection
        lastCompletion := some s.clock
        lastOutcome := some (match d.toNat with | 0 => .ok | 1 => .pickMiss | 2 => .placeFail | _ => .putFail)
        stepsCompleted := (s.gantry g).stepsCompleted.step }
    let idle := { s with
      gantries := s.gantries.set g
        { done with state := .idle, task := none, setAside := none, former := none, dwellEnd := none, hold := none } }
    let stranded := { s with
      gantries := s.gantries.set g { done with state := .stranded, former := none } }
    let ends := (s.gantry g).former = some .idle ∨
      ((s.gantry g).former = none ∧ (s.gantry g).setAside = none ∧ (s.gantry g).carried = none)
    let before := fun h (v w : Span) => match h with
      | Gantry.west => v.hi < w.lo
      | .east => w.hi < v.lo
    let goes := fun (t : State) (a : Step) => (t.gantry g).setAside = none ∧ (t.gantry g).task = (s.gantry g).task ∧
      (t.gantry g).current.map (fun c => (c.kind, c.target, c.slot, c.saw)) = some (a.kind, a.target, a.slot, a.saw)
    ((s.gantry o).state ≠ .waitGrant → (s.gantry o).waits = false →
      (ends → idle.NothingToGive → run = .next (idle.answered (.gantry g) (.accepted 0x32 0 none))) ∧
      ((s.gantry g).former = some .stranded →
        (stranded.putSearch g = none → run = .next (stranded.answered (.gantry g) (.accepted 0x32 0 none))) ∧
        ∀ n, stranded.putSearch g = some n → before g (s.geom.travel g x.toNat (s.geom.slotX n)) (s.span o) →
          ∃ t, run = .next t ∧ ((t.gantry g).state = .dwell ∨ (t.gantry g).state = .stepping) ∧
            (t.gantry g).current.map (fun c => (c.kind, c.slot)) = some (.travelPut, some n) ∧
            (n < s.slots.length → (t.slot n).claim = some ⟨g, .put⟩)) ∧
      (∀ a, (s.gantry g).former = none → (s.gantry g).setAside = some a → a.kind ≠ .place → a.kind ≠ .travelOnly →
        before g (s.geom.travel g x.toNat a.target) (s.span o) →
        ∃ t, run = .next t ∧ goes t a ∧ ((t.gantry g).state = .dwell ∨ (t.gantry g).state = .stepping)) ∧
      ∀ p, (s.gantry g).former = none → (s.gantry g).setAside = none → (s.gantry g).carried = some p →
        (s.gantry o).state ≠ .idle → (s.gantry o).state ≠ .stranded →
        ∃ t u, run = .next t ∧ (t.gantry g).carried = some p ∧ (t.gantry g).task = some u ∧ u.kind = .panelReturn ∧
          u.start = s.clock) ∧
    ∀ e q, (s.gantry o).state = .waitGrant → (s.gantry o).current = some e → e.request = some q → e.kind ≠ .place →
      e.kind ≠ .travelOnly → before o q.span span →
      let granted := fun t => run = .next t ∧ (t.gantry o).state = .stepping ∧ (t.gantry o).reservation = some q.span
      (ends → idle.NothingToGive → ∃ t, granted t ∧ (t.gantry g).state = .idle) ∧
      ∀ a, (s.gantry g).former = none → (s.gantry g).setAside = some a → a.kind ≠ .place → a.kind ≠ .travelOnly →
        ¬before g (s.geom.travel g x.toNat a.target) (s.span o) → ∃ t, granted t ∧ goes t a

/-- The PLACE of a book's last panel completes OK (R35, R137, R138, R158): the panel leaves the cell and its pool record goes to the tail of
the free list, the book is RELEASED with every serial placed, the released counter and the panels-placed counter step, the BOOK_REPORT
goes out COMPLETE, and the gantry is IDLE.  The equation says all the rest is as it was.  It is stated where no abort is requested, the
other gantry waits for nothing and no task is there to give. -/
def Obligations.BookReleased : Prop :=
  ∀ (s : State) (g : Gantry) (k x : Word) (c : Step) (i : Issued) (a : Task) (p : Panel) (w : Saw) (tag : Word) (b : Book),
    s.cell ≠ .noLayout → s.Ready (.gantry g) ⟨0x32, [k, x, 0]⟩ 1 → (s.gantry g).state = .stepping →
    (s.gantry g).current = some c → c.issued = some i → i.token.toNat = k.toNat → i.span.lo ≤ x.toNat → x.toNat ≤ i.span.hi →
    c.kind = .place → c.saw = some w → (s.gantry g).carried = some p → (s.gantry g).task = some a → a.kind = .book w tag →
    s.bookOf w tag = some b → b.abortRequested = false → b.entries.length ≤ b.lift →
    (s.gantry (otherGantry g)).state ≠ .waitGrant → (s.gantry (otherGantry g)).waits = false →
    let released := fun x : Book =>
      { x with
        state := .released
        gantry := none
        placed := x.placed ++ [p.serial]
        releaseTime := some s.clock }
    let t := { s with
      free := { s.free with returned := s.free.returned ++ [p.record] }
      saws := s.saws.set w
        { s.saw w with
          books := (s.saw w).books.map fun x : Book =>
            if x.tag = tag ∧ x.state = BookState.assembling then released x else x
          panelsPlaced := (s.saw w).panelsPlaced.step
          released := (s.saw w).released.step
          lastBookReport := some (tag, .complete) }
      gantries := s.gantries.set g
        { s.gantry g with
          state := .idle
          position := some x.toNat
          reservation := some ⟨max (s.geom.standing g x.toNat).lo i.span.lo, min (s.geom.standing g x.toNat).hi i.span.hi⟩
          carried := none
          task := none
          current := none
          setAside := none
          former := none
          dwellEnd := none
          hold := none
          lastDirection := if s.pos g < c.target then some .east
            else if c.target < s.pos g then some .west else (s.gantry g).lastDirection
          lastCompletion := some s.clock
          lastOutcome := some .ok
          stepsCompleted := (s.gantry g).stepsCompleted.step } }
    t.NothingToGive → exec (.stepDone (.gantry g) [k, x, 0]) s = .next
      ((t.push (.saw w) (.bookReport ⟨tag, .complete, b.placed ++ [p.serial], b.firstFault, none⟩)).answered (.gantry g)
        (.accepted 0x32 0 none))

/-- What makes a gantry FAULTED, with what that leaves (`State.FaultTaken`): an overrun (R108), a STEP_DONE outside the granted span
(R106), an accepted GANTRY_FAULT (R109) and the loss of the gantry's link in a working state other than STEPPING (R112).  Each counts in
its own counter; what becoming FAULTED leaves is that of R110, R111 and R122.  A GANTRY_FAULT is refused while the gantry is OFFLINE or
FAULTED, and an OVERRUN of a step that is not overdue, or of none, changes nothing (the model's own reading: log entry 16).  It is stated where the other gantry has nothing to take up. -/
def Obligations.FaultStopsGantry : Prop :=
  ∀ (s : State) (g : Gantry), s.duties = .none →
    (∀ c i, (s.gantry g).state = .stepping → (s.gantry g).current = some c → c.issued = some i →
      (elapsed s.clock i.time < i.limit → exec (.overrun g) s = .next s) ∧
      (i.limit ≤ elapsed s.clock i.time → s.Undisturbed g → ∃ t, exec (.overrun g) s = .next t ∧
        s.FaultTaken t g { s.gantry g with overruns := (s.gantry g).overruns.step } .overrun 0)) ∧
    ((s.gantry g).state ≠ .stepping → exec (.overrun g) s = .next s) ∧
    (∀ c i, ∀ k x d : Word, (s.gantry g).state = .stepping → (s.gantry g).current = some c → c.issued = some i →
      s.cell ≠ .noLayout → s.Ready (.gantry g) ⟨0x32, [k, x, d]⟩ 1 → d.toNat ≤ 3 → i.token.toNat = k.toNat →
      x.toNat < i.span.lo ∨ i.span.hi < x.toNat → s.Undisturbed g →
      ∃ t, exec (.stepDone (.gantry g) [k, x, d]) s = .next t ∧
        s.FaultTaken t g
          { s.gantry g with
            lastOutcome := some (match d.toNat with | 0 => .ok | 1 => .pickMiss | 2 => .placeFail | _ => .putFail) }
          .spanViolation 0) ∧
    (∀ d : Word, d.toNat ≤ 255 → s.cell ≠ .noLayout → s.Ready (.gantry g) ⟨0x33, [d]⟩ 1 →
      ((s.gantry g).state = .offline ∨ (s.gantry g).state = .faulted →
        exec (.gantryFault (.gantry g) [d]) s = .next (s.answered (.gantry g)
          (.refused 0x33 .gantryState (BitVec.ofNat 16 (s.gantry g).state.number)))) ∧
      ((s.gantry g).state ≠ .offline → (s.gantry g).state ≠ .faulted → s.Undisturbed g →
        ∃ t, exec (.gantryFault (.gantry g) [d]) s = .next t ∧
          s.FaultTaken t g { s.gantry g with driveFaults := (s.gantry g).driveFaults.step } .driveFault
            (BitVec.ofNat 8 d.toNat))) ∧
    ((s.port (.gantry g)).carrierUp = true → s.Undisturbed g →
      (s.gantry g).state = .dwell ∨ (s.gantry g).state = .waitGrant ∨ (s.gantry g).state = .hoverHold ∨
        (s.gantry g).state = .stranded →
      ∃ t, exec (.carrierLoss (.gantry g)) s = .next t ∧ s.FaultTaken t g (s.gantry g) .linkLost 0)

/-- The dwell of a step, and its end.  A step that is prepared owes dwell_reverse where it travels against the last direction and
dwell_head where it picks a panel of another material than the last, whichever is longer; where less time has passed since the last
completion the gantry is in DWELL until then, and otherwise its grant is requested at once (R93, R94, R101).  A dwell that has reached
its end asks for the grant: a step whose requested span is clear of the other gantry's reservation, a yield with its own span (R82), and
a PLACE without a test, is issued with the next token, the clock and the limit of R92, and its STEP_ORDER goes to the gantry's port
(R103); one that meets a gantry in DWELL, STEPPING or HOVER_HOLD waits (R79).  A dwell that has not reached its end goes on, and the end
of no dwell changes nothing (log entry 16).  The other verdicts are those of a request at once. -/
def Obligations.DwellEndRequestsGrant : Prop :=
  (∀ (s : State) (g : Gantry) (c : Step),
    let against := (s.pos g < c.target ∧ (s.gantry g).lastDirection = some .west) ∨
      (c.target < s.pos g ∧ (s.gantry g).lastDirection = some .east)
    let kind := match c.slot, c.saw with
      | some n, _ => (s.slot n).stack.getLast?.map Panel.kind
      | none, some w => (s.offerOf g w).map Offer.kind
      | none, none => none
    let other := c.kind = .travelPick ∧ ∃ k m, kind = some k ∧ (s.gantry g).lastMaterial = some m ∧ s.material k ≠ m
    ∀ due, (¬against → ¬other → due = 0) → (against → ¬other → due = s.geom.dwellReverse) →
      (¬against → other → due = s.geom.dwellHead) → (against → other → due = max s.geom.dwellReverse s.geom.dwellHead) →
      (∀ m, (s.gantry g).lastCompletion = some m → elapsed s.clock m < due →
        s.prepare g c = (s.setGantry g
          { s.gantry g with
            state := .dwell
            current := some { c with request := none, issued := none }
            dwellEnd := some ⟨m, due⟩ }, false)) ∧
      ((∀ m, (s.gantry g).lastCompletion = some m → due ≤ elapsed s.clock m) →
        s.prepare g c = s.request g c (s.requestedSpan g c))) ∧
  ∀ (s : State) (g : Gantry), s.duties = .none →
    ((s.gantry g).state ≠ .dwell ∨ (∀ m, (s.gantry g).dwellEnd = some m → elapsed s.clock m.since < m.duration) →
      exec (.dwellEnd g) s = .next s) ∧
    ∀ m c, (s.gantry g).state = .dwell → (s.gantry g).dwellEnd = some m → m.duration ≤ elapsed s.clock m.since →
      (s.gantry g).current = some c → (s.gantry (otherGantry g)).state ≠ .waitGrant →
      let travel := s.geom.travel g (s.pos g) c.target
      let span : Span := match c.kind, g with
        | .place, _ => s.span g
        | .travelOnly, .west => ⟨travel.lo, (s.span g).hi⟩
        | .travelOnly, .east => ⟨(s.span g).lo, travel.hi⟩
        | _, _ => travel
      let clear := match g with
        | .west => span.hi < (s.span .east).lo
        | .east => (s.span .west).hi < span.lo
      (c.kind = .place ∨ clear →
        exec (.dwellEnd g) s = .next (State.push
          { s with
            gantries := s.gantries.set g
              { s.gantry g with
                state := .stepping
                reservation := some span
                current := some { c with
                  request := none
                  issued := some ⟨(s.gantry g).nextToken, span, s.clock,
                    s.geom.stepLimit g c.kind (distance (s.pos g) c.target)⟩ }
                dwellEnd := none
                nextToken := (s.gantry g).nextToken + 1 } }
          (.gantry g) (.stepOrder (s.stepOrder g c (s.gantry g).nextToken)))) ∧
      (c.kind ≠ .place → c.kind ≠ .travelOnly → ¬clear → (s.gantry (otherGantry g)).state = .dwell ∨
          (s.gantry (otherGantry g)).state = .stepping ∨ (s.gantry (otherGantry g)).state = .hoverHold →
        exec (.dwellEnd g) s = .next
          { s with
            gantries := s.gantries.set g
              { s.gantry g with
                state := .waitGrant
                current := some { c with request := some ⟨span, .waiting⟩, issued := none }
                dwellEnd := none } })

/-- A hover hold that has reached its end time ends the book with HOVER_TIMEOUT (R119, R157, R137, R138): the book leaves its saw's list,
the aborted counter steps, the BOOK_REPORT names the placed serials and the first fault, and the panel on the head goes on to a return.
A hold that has not reached its end time goes on, and the end of no hold changes nothing (the model's own reading: log entry 16).  It is stated where the other gantry neither waits nor can be sent out of the way. -/
def Obligations.HoverTimeoutEndsBook : Prop :=
  ∀ (s : State) (g : Gantry), s.duties = .none →
    ((s.gantry g).state ≠ .hoverHold ∨ (∀ h, (s.gantry g).hold = some h → elapsed s.clock h.ends.since < h.ends.duration) →
      exec (.hoverTimeout g) s = .next s) ∧
    ∀ h a w tag b p, (s.gantry g).state = .hoverHold → (s.gantry g).hold = some h →
      h.ends.duration ≤ elapsed s.clock h.ends.since → (s.gantry g).task = some a → a.kind = .book w tag →
      s.bookOf w tag = some b → (s.gantry g).carried = some p → (s.gantry (otherGantry g)).state ≠ .idle →
      (s.gantry (otherGantry g)).state ≠ .stranded → (s.gantry (otherGantry g)).state ≠ .waitGrant →
      (s.gantry (otherGantry g)).waits = false →
      ∃ t u, exec (.hoverTimeout g) s = .next t ∧ (t.gantry g).hold = none ∧ (t.gantry g).carried = some p ∧
        (t.gantry g).task = some u ∧ u.kind = .panelReturn ∧ u.start = s.clock ∧
        (t.saw w).books = (s.saw w).books.filter (fun x => decide (x.tag ≠ b.tag)) ∧
        (t.saw w).aborted = (s.saw w).aborted.step ∧ (t.saw w).lastBookReport = some (b.tag, .aborted) ∧
        t.port (.saw w) = (s.port (.saw w)).push
          (.bookReport ⟨b.tag, .aborted, b.placed, b.firstFault.or (some (.hoverTimeout, b.lift)), some .hoverTimeout⟩) ∧
        ∀ n, (t.slot n).stack = (s.slot n).stack

/-! ## Saws -/

/-- A SAW_SET that passes R124 replaces the saw's settings with the values carried, each clamped to its range, recomputes its pacing end,
latches SETTINGS_CHANGED on the saw's port when a value differs, and is answered with the seven effective values (R125).  Its refusals
come in the order of R124.  The order of the message's words is the model's reading (log entry 13).  The completion is stated where no
task is there to give. -/
def Obligations.SawSetReplacesSettings : Prop :=
  ∀ (s : State) (n e b w1 w2 w3 r h : Word), s.cell ≠ .noLayout → s.Ready .planner ⟨0x0B, [n, e, b, w1, w2, w3, r, h]⟩ 1 →
    let run := exec (.sawSet .planner [n, e, b, w1, w2, w3, r, h]) s
    let refused := fun c (d : Nat) => .next (s.answered .planner (.refused 0x0B c (BitVec.ofNat 16 d)))
    (n.toNat = 0 ∨ 4 < n.toNat → run = refused .badField 0) ∧
    ∀ w, n.toNat = sawNumber w →
      let bad := 1 < e.toNat ∨ 1 < r.toNat
      let assembling := fun (x : Book) => decide (x.state = .assembling)
      (bad → run = refused .badField (sawNumber w)) ∧
      (¬bad → s.sawPresent w = false → run = refused .sawAbsent (sawNumber w)) ∧
      (¬bad → s.sawPresent w = true → ∀ x, (s.saw w).books.find? assembling = some x →
        run = refused .sawBusy x.tag.toNat) ∧
      (¬bad → s.sawPresent w = true → (∀ x ∈ (s.saw w).books, x.state ≠ .assembling) →
        let c : Settings :=
          { enabled := decide (e.toNat = 1)
            backlogLimit := if b.toNat = 0 then 1 else min b.toNat 3
            w1 := min w1.toNat 60000
            w2 := min w2.toNat 60000
            w3 := min w3.toNat 60000
            remnantAllowed := decide (r.toNat = 1)
            maxBookHeight := if h.toNat < 30 then 30 else min h.toNat 1500 }
        let record := { s.saw w with settings := c }
        let t := { s with saws := s.saws.set w { record with pacingEnd := record.pacingEndAt s.clock } }
        let u := if (s.saw w).settings = c then t else t.latch (.saw w) .settingsChanged
        t.NothingToGive → run = .next (u.answered .planner (.sawReply w c)))

/-- A BOOK_REQUEST that passes TABLE 7.5 adds a QUEUED record with its tag and entries at the end of the saw's list (R130); its refusals
come in the order of the table, and an entry that fails is named by its position, 1 for the first (R129).  The completion is stated where
no task is there to give. -/
def Obligations.BookRequestTaken : Prop :=
  ∀ (s : State) (w : Saw) (ws : List Word), s.cell = .opened ∨ s.cell = .halted → s.Ready (.saw w) ⟨0x21, ws⟩ 1 →
    ws.length = 2 + 3 * word ws 1 →
    let run := exec (.bookRequest (.saw w) ws) s
    let refused := fun c (d : Nat) => .next (s.answered (.saw w) (.refused 0x21 c (BitVec.ofNat 16 d)))
    let kind := fun i => word ws (2 + 3 * i)
    let length := fun i => word ws (3 + 3 * i)
    let width := fun i => word ws (4 + 3 * i)
    let first := fun (bad : Nat → Prop) i => i < word ws 1 ∧ bad i ∧ ∀ j, j < i → ¬bad j
    let sound := fun (bad : Nat → Prop) => ∀ i, i < word ws 1 → ¬bad i
    let far := fun i => 1023 < kind i
    let half := fun i => (length i = 0 ∧ width i ≠ 0) ∨ (length i ≠ 0 ∧ width i = 0)
    let undefined := fun i => s.kind (kind i) = none
    let misfit := fun i => length i ≠ 0 ∧ ∀ k, s.kind (kind i) = some k →
      ¬(200 ≤ length i ∧ length i ≤ k.length ∧ 100 ≤ width i ∧ width i ≤ k.width)
    let queued := (s.saw w).books.filter fun b => decide (b.state = .queued)
    let twice := ∃ b ∈ (s.saw w).books, b.tag = ws.getD 0 0
    let high := (s.saw w).settings.maxBookHeight < ((List.range (word ws 1)).map fun i => s.thickness (kind i)).sum
    (s.sawPresent w = false → run = refused .sawAbsent (word ws 0)) ∧
    (s.sawPresent w = true →
      (word ws 1 < 1 ∨ 6 < word ws 1 → run = refused .badField 0) ∧
      (1 ≤ word ws 1 → word ws 1 ≤ 6 →
        (∀ i, first far i → run = refused .badField (i + 1)) ∧
        (sound far → (∀ i, first half i → run = refused .badField (i + 1)) ∧
        (sound half →
          (4 ≤ queued.length → run = refused .queueFull (word ws 0)) ∧
          (queued.length < 4 → twice → run = refused .duplicateTag (word ws 0)) ∧
          (queued.length < 4 → ¬twice →
            (∀ i, first undefined i → run = refused .unknownKind (i + 1)) ∧
            (sound undefined → (∀ i, first misfit i → run = refused .badField (i + 1)) ∧
            (sound misfit → (high → run = refused .bookTooHigh (word ws 0)) ∧
            (¬high →
              let book : Book :=
                { tag := ws.getD 0 0
                  entries := (List.range (word ws 1)).map fun i =>
                    ⟨kind i, if length i = 0 then none else some (length i, width i)⟩
                  state := .queued
                  gantry := none
                  lift := 1
                  replan := false
                  placed := []
                  firstFault := none
                  abortRequested := false
                  endCause := none
                  startTime := none
                  releaseTime := none }
              let t := { s with saws := s.saws.set w { s.saw w with books := (s.saw w).books ++ [book] } }
              t.NothingToGive → run = .next (t.answered (.saw w) (.accepted 0x21 0 none))))))))))

/-- What a BOOK_ABORT does to the record of its tag, by the record's state (R136, R137, R138): a QUEUED book ends at once with SAW_ABORT at
lift 0 and its report goes out before the reply, an ASSEMBLING one notes the request and waits for a step that is outstanding (R160), and
a RELEASED one, as a tag that no record has, is refused.  That the report stands before the reply in the port's queue is the model's
choice (log entry 6), and that the end of a QUEUED book is no dispatch opportunity is its reading (log entry 25).  A refusal for an absent saw carries a detail word the manual does not state
(log entry 1). -/
def Obligations.BookAbortTaken : Prop :=
  ∀ (s : State) (w : Saw) (a : Word), s.cell ≠ .noLayout →
    let run := exec (.bookAbort (.saw w) [a]) s
    let found := (s.saw w).books.find? fun b => decide (b.tag = a)
    (s.Ready (.saw w) ⟨0x22, [a]⟩ 1 →
      (s.sawPresent w = false → ∃ d,
        run = .next (State.answered { s with freeNext := s.freeNext + 1 } (.saw w) (.refused 0x22 .sawAbsent d))) ∧
      (s.sawPresent w = true → found = none → run = .next (s.answered (.saw w) (.refused 0x22 .unknownTag a))) ∧
      (s.sawPresent w = true → ∀ b, found = some b → b.state = .released →
        run = .next (s.answered (.saw w) (.refused 0x22 .bookReleased a))) ∧
      (s.sawPresent w = true → ∀ b, found = some b → b.state = .assembling → b.abortRequested = true →
        run = .next (s.answered (.saw w) (.accepted 0x22 0 none))) ∧
      (s.sawPresent w = true → ∀ b g, found = some b → b.state = .assembling → b.abortRequested = false →
        b.gantry = some g → (s.gantry g).task.map Task.kind = some (.book w a) → (s.gantry g).state = .stepping →
        (s.gantry g).setAside = none →
        let asked := fun x : Book => { x with abortRequested := true, firstFault := x.firstFault.or (some (.sawAbort, x.lift)) }
        run = .next (State.answered
          { s with
            saws := s.saws.set w
              { s.saw w with books := (s.saw w).books.map fun x =>
                  if x.tag = a ∧ x.state = .assembling then asked x else x } } (.saw w) (.accepted 0x22 0 none)))) ∧
    (s.Ready (.saw w) ⟨0x22, [a]⟩ 2 → s.sawPresent w = true → ∀ b, found = some b → b.state = .queued →
      run = .next (State.answered (State.push
        { s with
          saws := s.saws.set w
            { s.saw w with
              books := (s.saw w).books.filter fun x => decide (x.tag ≠ a)
              aborted := (s.saw w).aborted.step
              lastBookReport := some (a, .aborted) } } (.saw w)
        (.bookReport ⟨a, .aborted, b.placed, b.firstFault.or (some (.sawAbort, 0)), some .sawAbort⟩)) (.saw w)
        (.accepted 0x22 0 none)))

/-- How an accepted BOOK_ABORT ends an ASSEMBLING book at once (R159, R160, R162): the record leaves the list and its report goes out, before
the reply in the port's queue (the model's choice: log entry 6); with no step outstanding and an empty head the claim of a pick in
preparation is released and the gantry is IDLE; with a panel on the head, over a busy table or while its hover is prepared, the panel goes
to a return; during a crossing yield the yield goes on, the step set aside is dropped, and a panel on the head keeps the task of a return
(the model's own form: log entry 11).  It is stated where the other gantry prompts nothing. -/
def Obligations.BookAbortEndsBook : Prop :=
  ∀ (s : State) (w : Saw) (a : Word) (b : Book) (g : Gantry) (k : Task), s.cell ≠ .noLayout → s.sawPresent w = true →
    s.Ready (.saw w) ⟨0x22, [a]⟩ 2 → (s.saw w).books.find? (fun b => decide (b.tag = a)) = some b → b.state = .assembling →
    b.abortRequested = false → b.gantry = some g → (s.gantry g).task = some k → k.kind = .book w a →
    (s.gantry (otherGantry g)).state ≠ .waitGrant → (s.gantry (otherGantry g)).waits = false →
    let record :=
      { s.saw w with
        books := (s.saw w).books.filter fun x => decide (x.tag ≠ a)
        aborted := (s.saw w).aborted.step
        lastBookReport := some (a, .aborted) }
    let report := Pushed.bookReport ⟨a, .aborted, b.placed, b.firstFault.or (some (.sawAbort, b.lift)), some .sawAbort⟩
    let slots := match k.phase, k.source with
      | .picking, some n => s.slots.set n { s.slot n with claim := none }
      | _, _ => s.slots
    let idle := { s with
      saws := s.saws.set w record
      slots := slots
      gantries := s.gantries.set g
        { s.gantry g with
          state := .idle
          task := none
          current := none
          setAside := none
          former := none
          dwellEnd := none
          hold := none } }
    (((s.gantry g).state = .dwell ∨ (s.gantry g).state = .waitGrant) → (s.gantry g).setAside = none →
      (s.gantry g).carried = none → idle.NothingToGive →
      exec (.bookAbort (.saw w) [a]) s =
        .next ((idle.push (.saw w) report).answered (.saw w) (.accepted 0x22 0 none))) ∧
    (∀ p, (s.gantry g).state = .hoverHold ∨
          (((s.gantry g).state = .dwell ∨ (s.gantry g).state = .waitGrant) ∧ k.phase = .hovering) →
      (s.gantry g).setAside = none → (s.gantry g).carried = some p →
      (s.gantry (otherGantry g)).state ≠ .idle → (s.gantry (otherGantry g)).state ≠ .stranded →
      ∃ t u, exec (.bookAbort (.saw w) [a]) s = .next t ∧ (t.gantry g).hold = none ∧ (t.gantry g).carried = some p ∧
        (t.gantry g).task = some u ∧ u.kind = .panelReturn ∧ u.start = s.clock ∧ t.saw w = record ∧
        t.port (.saw w) = ((s.port (.saw w)).push report).answering [⟨.reply (.accepted 0x22 0 none), 1, 1⟩]) ∧
    (∀ c, (s.gantry g).setAside = some c → (s.gantry g).state = .dwell ∨ (s.gantry g).state = .stepping →
      (s.cell = .opened ∨ s.cell = .halted → (s.gantry (otherGantry g)).state ≠ .idle) →
      let t := { s with
        saws := s.saws.set w record
        slots := slots
        gantries := s.gantries.set g
          { s.gantry g with
            setAside := none
            task := (s.gantry g).carried.map fun _ => ⟨.panelReturn, s.clock, .putting, k.source, none, 0, none⟩ } }
      exec (.bookAbort (.saw w) [a]) s = .next ((t.push (.saw w) report).answered (.saw w) (.accepted 0x22 0 none)))

/-- BOOK_TAKEN is taken against the saw's oldest RELEASED record (R135): with the record's tag it removes the record and the taken counter
steps; with another tag it is refused with that record's tag; with no RELEASED record the extra acknowledgements step and the reply carries
the note EXTRA.  A refusal for an absent saw carries a detail word the manual does not state (log entry 1).  The completions are stated
where no task is there to give. -/
def Obligations.BookTakenAcknowledges : Prop :=
  ∀ (s : State) (w : Saw) (a : Word), s.cell ≠ .noLayout → s.Ready (.saw w) ⟨0x23, [a]⟩ 1 →
    let run := exec (.bookTaken (.saw w) [a]) s
    let oldest := (s.saw w).books.find? fun b => decide (b.state = .released)
    let took := { s with
      saws := s.saws.set w
        { s.saw w with
          books := (s.saw w).books.filter fun b => decide (b.tag ≠ a)
          taken := (s.saw w).taken.step } }
    let more := { s with saws := s.saws.set w { s.saw w with extraAcks := (s.saw w).extraAcks.step } }
    (s.sawPresent w = false → ∃ d,
      run = .next (State.answered { s with freeNext := s.freeNext + 1 } (.saw w) (.refused 0x23 .sawAbsent d))) ∧
    (s.sawPresent w = true →
      (∀ b, oldest = some b → b.tag = a → took.NothingToGive →
        run = .next (took.answered (.saw w) (.accepted 0x23 0 none))) ∧
      (∀ b, oldest = some b → b.tag ≠ a → run = .next (s.answered (.saw w) (.refused 0x23 .tagMismatch b.tag))) ∧
      (oldest = none → more.NothingToGive → run = .next (more.answered (.saw w) (.accepted 0x23 1 none))))

/-- TABLE_STATE sets the saw's table state (R134).  A change to CLEAR ends a hover hold over the saw's table, and the PLACE is issued at
once, without a runway test and without a dwell (R119, R157); a report that leaves the table as it was ends none.  A refusal for an absent
saw carries a detail word the manual does not state (log entry 1). -/
def Obligations.TableStateSet : Prop :=
  ∀ (s : State) (w : Saw) (v : Word), s.cell ≠ .noLayout → v.toNat ≤ 1 → s.Ready (.saw w) ⟨0x24, [v]⟩ 1 →
    let run := exec (.tableState (.saw w) [v]) s
    let table := if v.toNat = 0 then TableState.clear else .busy
    let set := { s with saws := s.saws.set w { s.saw w with table := table } }
    let holds := fun g => (s.gantry g).state = .hoverHold ∧ (s.gantry g).hold.map HoverHold.saw = some w
    (s.sawPresent w = false → ∃ d,
      run = .next (State.answered { s with freeNext := s.freeNext + 1 } (.saw w) (.refused 0x24 .sawAbsent d))) ∧
    (s.sawPresent w = true →
      (v.toNat = 1 ∨ (s.saw w).table = .clear ∨ (∀ g, ¬holds g) →
        run = .next (set.answered (.saw w) (.accepted 0x24 0 none))) ∧
      ∀ g k, v.toNat = 0 → (s.saw w).table ≠ .clear → holds g → ¬holds (otherGantry g) → (s.gantry g).task = some k →
        (s.gantry (otherGantry g)).state ≠ .waitGrant →
        let step : Step := ⟨.place, s.pos g, none, some w, none, none⟩
        let token := (s.gantry g).nextToken
        let issued := { set with
          gantries := s.gantries.set g
            { s.gantry g with
              state := .stepping
              reservation := some (s.span g)
              hold := none
              dwellEnd := none
              task := some { k with phase := .placing }
              current := some { step with
                issued := some ⟨token, s.span g, s.clock, s.geom.stepLimit g .place 0⟩ }
              nextToken := token + 1 } }
        run = .next ((issued.push (.gantry g) (.stepOrder (s.stepOrder g step token))).answered (.saw w)
          (.accepted 0x24 0 none)))

/-- A REMNANT_OFFER that passes the checks of R140 adds a WAITING offer at the end of the saw's list, with the clock as its acceptance
time; its refusals come in that order.  The last check asks whether some gantry in service finds a slot for the offcut (R69).  The order of
the message's words is the model's reading (log entry 13).  The completion is stated where no task is there to give. -/
def Obligations.RemnantOfferTaken : Prop :=
  ∀ (s : State) (w : Saw) (c l d : Word), s.cell = .opened ∨ s.cell = .halted → s.Ready (.saw w) ⟨0x25, [c, l, d]⟩ 1 →
    let run := exec (.remnantOffer (.saw w) [c, l, d]) s
    let refused := fun code (n : Nat) => .next (s.answered (.saw w) (.refused 0x25 code (BitVec.ofNat 16 n)))
    let fits := ∃ k, s.kind c.toNat = some k ∧ 200 ≤ l.toNat ∧ l.toNat ≤ k.length ∧ 100 ≤ d.toNat ∧ d.toNat ≤ k.width
    let stored := ∃ g, (s.gantry g).state ≠ .offline ∧ (s.gantry g).state ≠ .parked ∧ (s.gantry g).state ≠ .faulted ∧
      (s.remnantReturnSearch g w c.toNat).isSome
    let offer : Offer := ⟨c.toNat, l.toNat, d.toNat, s.clock, .waiting⟩
    let t := { s with saws := s.saws.set w { s.saw w with offers := (s.saw w).offers ++ [offer] } }
    (s.sawPresent w = false → run = refused .sawAbsent (sawNumber w)) ∧
    (s.sawPresent w = true →
      (1023 < c.toNat → run = refused .badField c.toNat) ∧
      (c.toNat ≤ 1023 → s.kind c.toNat = none → run = refused .unknownKind c.toNat) ∧
      (c.toNat ≤ 1023 → (s.kind c.toNat).isSome → ¬fits → run = refused .badField c.toNat) ∧
      (c.toNat ≤ 1023 → fits → 2 ≤ (s.saw w).offers.length → run = refused .offerFull (sawNumber w)) ∧
      (c.toNat ≤ 1023 → fits → (s.saw w).offers.length < 2 → ¬stored → run = refused .storeFull c.toNat) ∧
      (c.toNat ≤ 1023 → fits → (s.saw w).offers.length < 2 → stored → t.NothingToGive →
        run = .next (t.answered (.saw w) (.accepted 0x25 0 none))))

/-- The saws' events of time.  The pacing end is absent exactly while every rule is satisfied, and otherwise the latest of the moments at
which the rules not satisfied become satisfied, which is s_k + Wk where the starts' readings lie in their order (R132, R133); after the
clock's return the moment is judged by the readings alone (log entry 35).  It lies at most 600,000 ms ahead (R177).  The clock reaching
it clears it, and it is recomputed where a rule has become unsatisfied.  A tick steps the clock and adds a millisecond to the residue
of each timer whose condition holds in the state before it (log entry 9); a residue of 100 steps the live value and goes back to 0
(R145, R177).  A PACING_END before its time, a SAW_TIMER_STEP of a residue below 100 and a PACING_RULE_UNSATISFIED while every rule is
satisfied change nothing (the model's own reading of such events: log entry 16). -/
def Obligations.TimedSawEvents : Prop :=
  (∀ (r : SawRecord) (now : Time),
    let window := fun k => if k = 1 then r.settings.w1 else if k = 2 then r.settings.w2 else r.settings.w3
    let satisfied := fun k (t : Time) =>
      window k = 0 ∨ (r.pacing.filter fun x => decide (elapsed t x < window k)).length < k
    let unsatisfied := fun k => 1 ≤ k ∧ k ≤ 3 ∧ ¬satisfied k now
    let after := fun d : Nat => now + BitVec.ofNat 32 d
    let inOrder := fun k => r.pacing.Pairwise (fun a b => elapsed now b ≤ elapsed now a) ∧
      ∀ x ∈ r.pacing, elapsed now x + window k < 4294967296
    (r.pacingEndAt now = none ↔ ∀ k, ¬unsatisfied k) ∧
    ((∀ k, window k ≤ 60000) → r.pacing.length ≤ 3 → ∀ m, r.pacingEndAt now = some m → ∃ wait : Nat → Nat,
      (∀ k, unsatisfied k → satisfied k (after (wait k)) ∧ (∀ d, d < wait k → ¬satisfied k (after d)) ∧
        (inOrder k → wait k + elapsed now (r.pacing.getD (r.pacing.length - k) 0) = window k)) ∧
      m.since = now ∧ m.duration ≤ 600000 ∧ (∀ k, unsatisfied k → wait k ≤ m.duration) ∧
      ∃ k, unsatisfied k ∧ wait k = m.duration)) ∧
  (∀ (s : State) (w : Saw), s.duties = .none →
    let cleared := { s with saws := s.saws.set w { s.saw w with pacingEnd := none } }
    ((∀ m, (s.saw w).pacingEnd = some m → elapsed s.clock m.since < m.duration) → exec (.pacingEnd w) s = .next s) ∧
    (∀ m, (s.saw w).pacingEnd = some m → m.duration ≤ elapsed s.clock m.since → cleared.NothingToGive →
      exec (.pacingEnd w) s = .next cleared)) ∧
  (∀ (s : State) (w : Saw), exec (.pacingRuleUnsatisfied w) s = .next
    (if (s.saw w).pacingEndAt s.clock = none then s
    else { s with saws := s.saws.set w { s.saw w with pacingEnd := (s.saw w).pacingEndAt s.clock } })) ∧
  (∀ (s : State) (w : Saw),
    let stepped := fun t : Timer =>
      if 100 ≤ t.residue then { t with live := if t.live = 4294967295 then 4294967295 else t.live + 1, residue := 0 } else t
    exec (.sawTimerStep w .starved) s =
      .next { s with saws := s.saws.set w { s.saw w with starved := stepped (s.saw w).starved } } ∧
    exec (.sawTimerStep w .held) s =
      .next { s with saws := s.saws.set w { s.saw w with held := stepped (s.saw w).held } }) ∧
  ∀ s : State, (∀ w, (s.saw w).starved.residue < 100 ∧ (s.saw w).held.residue < 100) →
    ∃ t, exec .cellClockTick s = .next t ∧ t = { s with clock := s.clock + 1, saws := t.saws } ∧
      ∀ w,
        let runs := s.sawPresent w = true ∧ (s.cell = .opened ∨ s.cell = .halted)
        let starves := runs ∧ (s.saw w).settings.enabled = true ∧ (s.saw w).books = []
        let kept := runs ∧ (∀ b ∈ (s.saw w).books, b.state ≠ .assembling) ∧
          (∃ b ∈ (s.saw w).books, b.state = .queued) ∧ s.holdSet w ≠ []
        let more := fun (t : Timer) => { t with residue := t.residue + 1 }
        (starves → t.saw w = { s.saw w with starved := more (s.saw w).starved }) ∧
        (kept → t.saw w = { s.saw w with held := more (s.saw w).held }) ∧
        (¬starves → ¬kept → t.saw w = s.saw w)

/-! ## The cell -/

/-- The accepted cell commands other than CELL_RESET (R173, TABLE 9.3): OPEN and RESUME make the cell OPEN, HALT makes it HALTED, CLOSE makes it
CLOSED, and is refused with the number of gantries that hold a task while there is one (R174, R175); LATCH_COUNTS copies every live value
and leaves the residues, CLEAR_COUNTS sets all of them to 0 (R176), LOCATOR_FLUSH makes every way INVALID, PIN_ON and PIN_OFF set pin mode
(R64, R65).  Each changes nothing else.  OPEN and RESUME are stated where no task is there to give. -/
def Obligations.CellCommandsTakeEffect : Prop :=
  ∀ s : State,
    let accepted := fun t => .next (State.answered t .planner (.accepted 0x0F 0 none))
    let tasks := (if (s.gantry .west).task.isSome then 1 else 0) + (if (s.gantry .east).task.isSome then 1 else 0)
    let ready := fun n => s.Ready .planner ⟨0x0F, [n]⟩ 1
    let opened := { s with cell := .opened }
    let copied := fun c : Counter => { c with latched := c.live }
    let kept := fun t : Timer => { t with latched := t.live }
    let zero := fun _ : Counter => (⟨0, 0⟩ : Counter)
    let none' := fun _ : Timer => (⟨0, 0, 0⟩ : Timer)
    let gantry := fun f g =>
      { s.gantry g with
        stepsCompleted := f (s.gantry g).stepsCompleted
        yieldsMade := f (s.gantry g).yieldsMade
        overruns := f (s.gantry g).overruns
        driveFaults := f (s.gantry g).driveFaults }
    let saw := fun f h w =>
      { s.saw w with
        started := f (s.saw w).started
        released := f (s.saw w).released
        aborted := f (s.saw w).aborted
        taken := f (s.saw w).taken
        panelsPlaced := f (s.saw w).panelsPlaced
        extraAcks := f (s.saw w).extraAcks
        starved := h (s.saw w).starved
        held := h (s.saw w).held }
    let counted := fun f h =>
      { s with
        verifiedHits := f s.verifiedHits
        failedHits := f s.failedHits
        misses := f s.misses
        gantries := ⟨gantry f .west, gantry f .east⟩
        saws := ⟨saw f h .saw1, saw f h .saw2, saw f h .saw3, saw f h .saw4⟩ }
    (s.cell = .closed → ready 0 → opened.NothingToGive → exec (.openCell .planner) s = accepted opened) ∧
    (s.cell = .opened → ready 1 → exec (.haltCell .planner) s = accepted { s with cell := .halted }) ∧
    (s.cell = .halted → ready 2 → opened.NothingToGive → exec (.resumeCell .planner) s = accepted opened) ∧
    (s.cell = .opened ∨ s.cell = .halted → ready 3 →
      (0 < tasks → exec (.closeCell .planner) s =
        .next (s.answered .planner (.refused 0x0F .cellBusy (BitVec.ofNat 16 tasks)))) ∧
      (tasks = 0 → exec (.closeCell .planner) s = accepted { s with cell := .closed })) ∧
    (s.cell ≠ .noLayout →
      (ready 4 → exec (.latchCounts .planner) s = accepted (counted copied kept)) ∧
      (ready 5 → exec (.clearCounts .planner) s = accepted (counted zero none')) ∧
      (ready 6 → exec (.locatorFlush .planner) s =
        accepted { s with locator := List.replicate 32 (List.replicate 4 .invalid) }) ∧
      (ready 7 → exec (.pinOn .planner) s = accepted { s with pinMode := true }) ∧
      (ready 8 → exec (.pinOff .planner) s = accepted { s with pinMode := false }))

/-- CELL_RESET, in every cell state (R118, R143, R184, TABLE 9.6): the cell closes unless no layout is active; a gantry that works over the
runway or carries a panel becomes FAULTED with CELL_RESET and no report, one that prepares a step with an empty head becomes IDLE, a FAULTED
one takes its second cause, and the others stay; every list of the saws empties, every claim is released, the slots of outstanding picks
become suspect, which latches SUSPECT_MARKED, the Kind Locator is flushed and pin mode is off.  The west gantry is taken before the
east one (the model's choice: log entry 30), which decides the slot most recently marked and the order in which BLANK records return to
the free list.  The reply is ACCEPTED; the ports keep their queues (R195; the model's reading: log entry 19), but for a STEP_ORDER that
waits for a gantry that has become FAULTED (R191).  The stacks, the kinds, the windows, the serials, the clock, the
loader, the layout, the settings, the pacing lists, the table states, the counters and the timers are kept. -/
def Obligations.CellResetEndsWork : Prop :=
  ∀ s : State, s.Ready .planner ⟨0x0F, [9]⟩ 1 →
    let works := fun g => (s.gantry g).state = .stepping ∨ (s.gantry g).state = .hoverHold ∨
      (s.gantry g).state = .stranded ∨
        (((s.gantry g).state = .dwell ∨ (s.gantry g).state = .waitGrant) ∧ (s.gantry g).carried.isSome)
    let prepares := fun g =>
      ((s.gantry g).state = .dwell ∨ (s.gantry g).state = .waitGrant) ∧ (s.gantry g).carried = none
    let bound := fun g => match (s.gantry g).state with
      | .stepping | .hoverHold | .stranded | .dwell | .waitGrant => ((s.gantry g).task.bind Task.blank).toList
      | _ => []
    let marked := fun g => if works g then
        (s.gantry g).current.bind fun c => if c.kind = .travelPick ∧ c.issued.isSome then c.slot else none
      else none
    let queues := fun (r : PortRecord) => (r.buffer, r.discarding, r.inbound, r.outbound, r.sending, r.carrierUp, r.flowGo,
      r.framingCount, r.crcCount)
    ∃ t, exec (.cellReset .planner) s = .next t ∧
      t.cell = (if s.cell = .noLayout then .noLayout else .closed) ∧
      t.layout = s.layout ∧ t.clock = s.clock ∧ t.loader = s.loader ∧ t.memory = s.memory ∧ t.kinds = s.kinds ∧
      t.windows = s.windows ∧ t.serialCounter = s.serialCounter ∧ t.pointer = s.pointer ∧ t.duties = .none ∧
      t.pinMode = false ∧ t.locator = List.replicate 32 (List.replicate 4 .invalid) ∧
      (t.verifiedHits = s.verifiedHits ∧ t.failedHits = s.failedHits ∧ t.misses = s.misses) ∧
      (∀ n, (t.slot n).stack = (s.slot n).stack ∧ (t.slot n).claim = none ∧
        (n < s.slots.length → ((t.slot n).suspect = true ↔ (s.slot n).suspect = true ∨
          ∃ g, marked g = some n))) ∧
      t.lastMarked = ((marked .east).or (marked .west)).or s.lastMarked ∧
      ((∃ g, (marked g).isSome) → .suspectMarked ∈ (t.port .planner).flags) ∧
      (t.port .planner).outbound = (s.port .planner).outbound ++ [⟨.reply (.accepted 0x0F 0 none), 1, 1⟩] ∧
      (t.port .planner).inbound = (s.port .planner).inbound.tail ∧
      (t.port .planner).pushedWaiting = (s.port .planner).pushedWaiting ∧
      (∀ w, queues (t.port (.saw w)) = queues (s.port (.saw w)) ∧
        (t.port (.saw w)).pushedWaiting = (s.port (.saw w)).pushedWaiting) ∧
      (∀ g, queues (t.port (.gantry g)) = queues (s.port (.gantry g)) ∧ (t.port (.gantry g)).pushedWaiting =
        if works g then (s.port (.gantry g)).pushedWaiting.filter (fun m => !m.isStepOrder)
        else (s.port (.gantry g)).pushedWaiting) ∧
      t.free = { s.free with returned := s.free.returned ++ bound .west ++ bound .east } ∧
      (∀ w, t.saw w = { s.saw w with
          books := []
          offers := []
          pacingEnd := (s.saw w).pacingEndAt s.clock } ∧
        .resetSeen ∈ (t.port (.saw w)).flags ∧ (t.port (.saw w)).attention = true) ∧
      ∀ g, (works g → .gantryFaulted ∈ (t.port .planner).flags ∧ .serviceChanged ∈ (t.port (.gantry g)).flags ∧
          t.gantry g =
            { s.gantry g with
              state := .faulted
              frozen := true
              carried := none
              task := none
              current := none
              setAside := none
              former := none
              dwellEnd := none
              hold := none
              fault := some
                { cause := .cellReset, subCode := 0, time := s.clock, state := (s.gantry g).state,
                  step := (s.gantry g).current.bind fun c => c.issued.map fun i => ⟨c.kind, i.token, i.time, c.slot⟩,
                  panel := (s.gantry g).carried, task := (s.gantry g).task.map Task.kind,
                  span := (s.gantry g).reservation, second := none } }) ∧
        (prepares g → t.gantry g =
          { s.gantry g with
            state := .idle
            task := none
            current := none
            setAside := none
            former := none
            dwellEnd := none }) ∧
        ((s.gantry g).state = .idle ∨ (s.gantry g).state = .parked ∨ (s.gantry g).state = .offline →
          t.gantry g = s.gantry g) ∧
        ∀ f, (s.gantry g).state = .faulted → (s.gantry g).fault = some f →
          (f.second = none → .gantryFaulted ∈ (t.port .planner).flags) ∧
          t.gantry g = { s.gantry g with
            fault := some { f with second := f.second.or (some ⟨.cellReset, s.clock⟩) } }

/-- What a dispatch pass gives out (R149, R150, R151, R131).  A round visits the saws from the one after the pointer to the one it names; the
first that finds work for an idle gantry gives it its WAITING head offer where a gantry finds a slot and a record is free, and else its
oldest QUEUED book where its hold set is empty and it assembles none; the nearer gantry takes it, the west one where both are as near.
A hold set holds the sources of TABLE 7.7 that are active.  A pass makes one round for the IDLE gantries, and a second one for those that
the first has left IDLE; a gantry given a task in the pass takes no further part in it, also where the task has ended at once (the model's
choice: log entry 37).  What is given takes effect at once: the pointer takes the saw's number; a book becomes ASSEMBLING on the gantry,
counts, joins the pacing list and begins with its first source search (R152); an offer becomes IN_PROGRESS on it, with the slot claimed and
a pool record BLANK (R166). -/
def Obligations.DispatchOrder : Prop :=
  (∀ (s : State) (w : Saw),
    let reach := fun g => (s.gantry g).state ≠ .offline ∧ (s.gantry g).state ≠ .parked ∧ (s.gantry g).state ≠ .faulted ∧
      s.reachableX g (s.geom.sawPlace w).infeedX = true
    s.sawPresent w = true →
      (.disabled ∈ s.holdSet w ↔ (s.saw w).settings.enabled = false) ∧
      (.halt ∈ s.holdSet w ↔ s.cell = .halted) ∧
      (.backlog ∈ s.holdSet w ↔ (s.saw w).settings.backlogLimit ≤
        ((s.saw w).books.filter fun b => decide (b.state = .released)).length) ∧
      (.pacing ∈ s.holdSet w ↔ (s.saw w).pacingEndAt s.clock ≠ none) ∧
      (.linkDown ∈ s.holdSet w ↔ (s.port (.saw w)).carrierUp = false) ∧
      (.noGantry ∈ s.holdSet w ↔ ∀ g, ¬reach g)) ∧
  (∀ (s : State) (gs : List Gantry),
    let offered := fun w o g => g ∈ gs ∧ s.sawPresent w = true ∧ (s.saw w).offers.head? = some o ∧ o.state = .waiting ∧
      (s.remnantReturnSearch g w o.kind).isSome ∧ 1 ≤ s.freeCount
    let booked := fun w b g => g ∈ gs ∧ s.sawPresent w = true ∧
      (s.saw w).books.find? (fun x => decide (x.state = .queued)) = some b ∧ (s.cell = .opened ∨ s.cell = .halted) ∧
      s.holdSet w = [] ∧ (∀ x ∈ (s.saw w).books, x.state ≠ .assembling) ∧
      (s.gantryGeom g).limLo ≤ (s.geom.sawPlace w).infeedX ∧ (s.geom.sawPlace w).infeedX ≤ (s.gantryGeom g).limHi
    let nearer := fun (qualifies : Gantry → Prop) x g => qualifies g ∧
      match g with
      | .west => qualifies .east → distance (s.pos .west) x ≤ distance (s.pos .east) x
      | .east => qualifies .west → distance (s.pos .east) x < distance (s.pos .west) x
    let order : List Saw := match s.pointer with
      | .saw1 => [.saw2, .saw3, .saw4, .saw1]
      | .saw2 => [.saw3, .saw4, .saw1, .saw2]
      | .saw3 => [.saw4, .saw1, .saw2, .saw3]
      | .saw4 => [.saw1, .saw2, .saw3, .saw4]
    let idle := fun w => (∀ o g, ¬offered w o g) ∧ ∀ b g, ¬booked w b g
    (s.round gs = none ↔ ∀ w, idle w) ∧
    (∀ g w o, s.round gs = some (g, w, .offer o) ↔ nearer (offered w o) (s.geom.sawPlace w).outfeedX g ∧
      ∀ i, i < order.idxOf w → idle (order.getD i w)) ∧
    ∀ g w b, s.round gs = some (g, w, .book b) ↔ nearer (booked w b) (s.geom.sawPlace w).infeedX g ∧
      (∀ o h, ¬offered w o h) ∧ ∀ i, i < order.idxOf w → idle (order.getD i w)) ∧
  (∀ s : State,
    let idle := fun (t : State) gs => gs.filter fun g => decide ((t.gantry g).state = .idle)
    let gs := idle s [.west, .east]
    (s.round gs = none → s.dispatchPass = s) ∧
    ∀ g w k, s.round gs = some (g, w, k) →
      let t := s.give g w k
      let left := idle t (gs.filter fun h => decide (h ≠ g))
      (t.round left = none → s.dispatchPass = t) ∧
      ∀ h v j, t.round left = some (h, v, j) → s.dispatchPass = t.give h v j) ∧
  ∀ (s : State) (g : Gantry) (w : Saw),
    let open' := fun (v : Span) =>
      ((s.gantry (otherGantry g)).state ≠ .offline ∧ (s.gantry (otherGantry g)).state ≠ .parked ∧
        (s.gantry (otherGantry g)).state ≠ .faulted) ∨
      match g with
      | .west => v.hi < (s.span .east).lo
      | .east => (s.span .west).hi < v.lo
    (∀ k, (s.give g w k).pointer = w) ∧
    (∀ b e, (s.saw w).books.find? (fun x => decide (x.state = .queued)) = some b →
      (∀ x ∈ (s.saw w).books, x.state ≠ .assembling) → b.entries[0]? = some e → (s.gantry g).carried = none →
      let t := s.give g w (.book b)
      let paced : SawRecord := { s.saw w with
        books := (s.saw w).books.map fun x : Book => if x.tag = b.tag ∧ x.state = BookState.queued then
          { x with state := .assembling, gantry := some g, startTime := some s.clock, lift := 1, replan := false } else x
        pacing := ((s.saw w).pacing ++ [s.clock]).drop ((s.saw w).pacing.length - 2)
        started := (s.saw w).started.step }
      let task : Task := ⟨.book w b.tag, s.clock, .sourceWait, none, none, 0, none⟩
      let u := { s with
        pointer := w
        saws := s.saws.set w { paced with pacingEnd := paced.pacingEndAt s.clock }
        gantries := s.gantries.set g { s.gantry g with state := .dwell, task := some task } }
      (∀ n, n < s.slots.length → (u.sourceSearch g w e).1 = .slot n → open' (s.geom.travel g (s.pos g) (s.geom.slotX n)) →
        t.saws = u.saws ∧ (t.slot n).claim = some ⟨g, .pick⟩ ∧ (t.gantry g).state ≠ .idle ∧
          (t.gantry g).task = some { task with phase := .picking, source := some n }) ∧
      ((u.sourceSearch g w e).1 = .wait → t.saws = u.saws ∧ t.slots = s.slots ∧ (t.gantry g).state = .dwell ∧
        (t.gantry g).current = none ∧ (t.gantry g).task = some task) ∧
      ((u.sourceSearch g w e).1 = .none → (t.saw w).started = (s.saw w).started.step ∧
        (t.saw w).books = (s.saw w).books.filter (fun x => decide (x.tag ≠ b.tag)) ∧ (t.gantry g).state = .idle ∧
        (t.gantry g).task = none)) ∧
    ∀ o os n r, (s.saw w).offers = o :: os → s.remnantReturnSearch g w o.kind = some n → s.free.order.head? = some r →
      open' (s.geom.travel g (s.pos g) (s.geom.saws.get w).outfeedX) →
      let t := s.give g w (.offer o)
      (t.saw w).offers = { o with state := .inProgress g } :: os ∧ (t.slot n).claim = some ⟨g, .put⟩ ∧
        t.free.order = s.free.order.tail ∧ (t.gantry g).state ≠ .idle ∧
        (t.gantry g).task = some ⟨.remnantReturn w, s.clock, .outfeedPick, none, some n, 0, some r⟩
end

