-- ==== Sys2Proof/Laws/State.lean ====
section
/-! SUPPORT. One lemma per field per update of the state: what `setPort`, `setGantry`, `setSaw`, `latch`, `push` and the smaller
updates leave and what they change, so that no proof unfolds a record update. -/

namespace Sys2Proof.Machine

/-! ## Things there are two, four or seven of -/

@[simp] theorem PerGantry.get_set_same {α : Type} (x : PerGantry α) (g : Gantry) (a : α) : (x.set g a).get g = a := by
  cases g <;> rfl

@[simp] theorem PerGantry.get_set_other {α : Type} (x : PerGantry α) (g : Gantry) (a : α) :
    (x.set g a).get (otherGantry g) = x.get (otherGantry g) := by cases g <;> rfl

theorem PerGantry.get_set {α : Type} (x : PerGantry α) (g h : Gantry) (a : α) :
    (x.set g a).get h = if h = g then a else x.get h := by cases g <;> cases h <;> rfl

@[simp] theorem PerGantry.set_get {α : Type} (x : PerGantry α) (g : Gantry) : x.set g (x.get g) = x := by cases g <;> rfl

@[simp] theorem PerGantry.set_set {α : Type} (x : PerGantry α) (g : Gantry) (a b : α) :
    (x.set g a).set g b = x.set g b := by cases g <;> rfl

@[simp] theorem PerGantry.get_all {α : Type} (a : α) (g : Gantry) : (PerGantry.all a).get g = a := by cases g <;> rfl

@[simp] theorem PerSaw.get_set_same {α : Type} (x : PerSaw α) (w : Saw) (a : α) : (x.set w a).get w = a := by
  cases w <;> rfl

theorem PerSaw.get_set {α : Type} (x : PerSaw α) (w v : Saw) (a : α) :
    (x.set w a).get v = if v = w then a else x.get v := by cases w <;> cases v <;> rfl

@[simp] theorem PerSaw.set_get {α : Type} (x : PerSaw α) (w : Saw) : x.set w (x.get w) = x := by cases w <;> rfl

@[simp] theorem PerSaw.set_set {α : Type} (x : PerSaw α) (w : Saw) (a b : α) : (x.set w a).set w b = x.set w b := by
  cases w <;> rfl

@[simp] theorem PerSaw.get_all {α : Type} (a : α) (w : Saw) : (PerSaw.all a).get w = a := by cases w <;> rfl

@[simp] theorem PerPort.get_set_same {α : Type} (x : PerPort α) (p : Port) (a : α) : (x.set p a).get p = a := by
  cases p <;> simp [PerPort.get, PerPort.set]

theorem PerPort.get_set {α : Type} (x : PerPort α) (p q : Port) (a : α) :
    (x.set p a).get q = if q = p then a else x.get q := by
  cases p <;> cases q <;> simp [PerPort.get, PerPort.set, PerSaw.get_set, PerGantry.get_set]

@[simp] theorem PerPort.set_get {α : Type} (x : PerPort α) (p : Port) : x.set p (x.get p) = x := by
  cases p <;> simp [PerPort.get, PerPort.set]

@[simp] theorem PerPort.set_set {α : Type} (x : PerPort α) (p : Port) (a b : α) : (x.set p a).set p b = x.set p b := by
  cases p <;> simp [PerPort.set]

@[simp] theorem PerPort.get_all {α : Type} (a : α) (p : Port) : (PerPort.all a).get p = a := by
  cases p <;> simp [PerPort.get, PerPort.all]

@[simp] theorem otherGantry_otherGantry (g : Gantry) : otherGantry (otherGantry g) = g := by cases g <;> rfl

@[simp] theorem otherGantry_ne (g : Gantry) : otherGantry g ≠ g := by cases g <;> decide

theorem eq_or_eq_other (g h : Gantry) : h = g ∨ h = otherGantry g := by cases g <;> cases h <;> simp [otherGantry]

/-! ## setPort -/

section
variable (s : State) (p : Port) (r : PortRecord)

@[simp] theorem State.setPort_port_same : (s.setPort p r).port p = r := by simp [State.port, State.setPort]
theorem State.setPort_port (q : Port) : (s.setPort p r).port q = if q = p then r else s.port q := by
  simp [State.port, State.setPort, PerPort.get_set]
@[simp] theorem State.setPort_setPort (r' : PortRecord) : (s.setPort p r).setPort p r' = s.setPort p r' := by
  simp [State.setPort]
@[simp] theorem State.setPort_cell : (s.setPort p r).cell = s.cell := rfl
@[simp] theorem State.setPort_clock : (s.setPort p r).clock = s.clock := rfl
@[simp] theorem State.setPort_layout : (s.setPort p r).layout = s.layout := rfl
@[simp] theorem State.setPort_loader : (s.setPort p r).loader = s.loader := rfl
@[simp] theorem State.setPort_writeRecord : (s.setPort p r).writeRecord = s.writeRecord := rfl
@[simp] theorem State.setPort_memory : (s.setPort p r).memory = s.memory := rfl
@[simp] theorem State.setPort_invalidCheck : (s.setPort p r).invalidCheck = s.invalidCheck := rfl
@[simp] theorem State.setPort_kinds : (s.setPort p r).kinds = s.kinds := rfl
@[simp] theorem State.setPort_free : (s.setPort p r).free = s.free := rfl
@[simp] theorem State.setPort_serialCounter : (s.setPort p r).serialCounter = s.serialCounter := rfl
@[simp] theorem State.setPort_slots : (s.setPort p r).slots = s.slots := rfl
@[simp] theorem State.setPort_lastMarked : (s.setPort p r).lastMarked = s.lastMarked := rfl
@[simp] theorem State.setPort_windows : (s.setPort p r).windows = s.windows := rfl
@[simp] theorem State.setPort_locator : (s.setPort p r).locator = s.locator := rfl
@[simp] theorem State.setPort_pinMode : (s.setPort p r).pinMode = s.pinMode := rfl
@[simp] theorem State.setPort_verifiedHits : (s.setPort p r).verifiedHits = s.verifiedHits := rfl
@[simp] theorem State.setPort_failedHits : (s.setPort p r).failedHits = s.failedHits := rfl
@[simp] theorem State.setPort_misses : (s.setPort p r).misses = s.misses := rfl
@[simp] theorem State.setPort_gantries : (s.setPort p r).gantries = s.gantries := rfl
@[simp] theorem State.setPort_saws : (s.setPort p r).saws = s.saws := rfl
@[simp] theorem State.setPort_pointer : (s.setPort p r).pointer = s.pointer := rfl
@[simp] theorem State.setPort_freeNext : (s.setPort p r).freeNext = s.freeNext := rfl
@[simp] theorem State.setPort_duties : (s.setPort p r).duties = s.duties := rfl
@[simp] theorem State.setPort_pending : (s.setPort p r).pending = s.pending := rfl
@[simp] theorem State.setPort_gantry (g : Gantry) : (s.setPort p r).gantry g = s.gantry g := rfl
@[simp] theorem State.setPort_saw (w : Saw) : (s.setPort p r).saw w = s.saw w := rfl
end

/-! ## setGantry -/

section
variable (s : State) (g : Gantry) (r : GantryRecord)

@[simp] theorem State.setGantry_gantry_same : (s.setGantry g r).gantry g = r := by simp [State.gantry, State.setGantry]
@[simp] theorem State.setGantry_gantry_other : (s.setGantry g r).gantry (otherGantry g) = s.gantry (otherGantry g) := by
  simp [State.gantry, State.setGantry]
theorem State.setGantry_gantry (h : Gantry) : (s.setGantry g r).gantry h = if h = g then r else s.gantry h := by
  simp [State.gantry, State.setGantry, PerGantry.get_set]
@[simp] theorem State.setGantry_cell : (s.setGantry g r).cell = s.cell := rfl
@[simp] theorem State.setGantry_clock : (s.setGantry g r).clock = s.clock := rfl
@[simp] theorem State.setGantry_layout : (s.setGantry g r).layout = s.layout := rfl
@[simp] theorem State.setGantry_loader : (s.setGantry g r).loader = s.loader := rfl
@[simp] theorem State.setGantry_writeRecord : (s.setGantry g r).writeRecord = s.writeRecord := rfl
@[simp] theorem State.setGantry_memory : (s.setGantry g r).memory = s.memory := rfl
@[simp] theorem State.setGantry_invalidCheck : (s.setGantry g r).invalidCheck = s.invalidCheck := rfl
@[simp] theorem State.setGantry_kinds : (s.setGantry g r).kinds = s.kinds := rfl
@[simp] theorem State.setGantry_free : (s.setGantry g r).free = s.free := rfl
@[simp] theorem State.setGantry_serialCounter : (s.setGantry g r).serialCounter = s.serialCounter := rfl
@[simp] theorem State.setGantry_slots : (s.setGantry g r).slots = s.slots := rfl
@[simp] theorem State.setGantry_lastMarked : (s.setGantry g r).lastMarked = s.lastMarked := rfl
@[simp] theorem State.setGantry_windows : (s.setGantry g r).windows = s.windows := rfl
@[simp] theorem State.setGantry_locator : (s.setGantry g r).locator = s.locator := rfl
@[simp] theorem State.setGantry_pinMode : (s.setGantry g r).pinMode = s.pinMode := rfl
@[simp] theorem State.setGantry_verifiedHits : (s.setGantry g r).verifiedHits = s.verifiedHits := rfl
@[simp] theorem State.setGantry_failedHits : (s.setGantry g r).failedHits = s.failedHits := rfl
@[simp] theorem State.setGantry_misses : (s.setGantry g r).misses = s.misses := rfl
@[simp] theorem State.setGantry_saws : (s.setGantry g r).saws = s.saws := rfl
@[simp] theorem State.setGantry_pointer : (s.setGantry g r).pointer = s.pointer := rfl
@[simp] theorem State.setGantry_ports : (s.setGantry g r).ports = s.ports := rfl
@[simp] theorem State.setGantry_freeNext : (s.setGantry g r).freeNext = s.freeNext := rfl
@[simp] theorem State.setGantry_pending : (s.setGantry g r).pending = s.pending := rfl
@[simp] theorem State.setGantry_port (p : Port) : (s.setGantry g r).port p = s.port p := rfl
@[simp] theorem State.setGantry_saw (w : Saw) : (s.setGantry g r).saw w = s.saw w := rfl
end

/-! ## setSaw -/

section
variable (s : State) (w : Saw) (r : SawRecord)

@[simp] theorem State.setSaw_saw_same : (s.setSaw w r).saw w = r := by simp [State.saw, State.setSaw]
theorem State.setSaw_saw (v : Saw) : (s.setSaw w r).saw v = if v = w then r else s.saw v := by
  simp [State.saw, State.setSaw, PerSaw.get_set]
@[simp] theorem State.setSaw_cell : (s.setSaw w r).cell = s.cell := rfl
@[simp] theorem State.setSaw_clock : (s.setSaw w r).clock = s.clock := rfl
@[simp] theorem State.setSaw_layout : (s.setSaw w r).layout = s.layout := rfl
@[simp] theorem State.setSaw_loader : (s.setSaw w r).loader = s.loader := rfl
@[simp] theorem State.setSaw_writeRecord : (s.setSaw w r).writeRecord = s.writeRecord := rfl
@[simp] theorem State.setSaw_memory : (s.setSaw w r).memory = s.memory := rfl
@[simp] theorem State.setSaw_invalidCheck : (s.setSaw w r).invalidCheck = s.invalidCheck := rfl
@[simp] theorem State.setSaw_kinds : (s.setSaw w r).kinds = s.kinds := rfl
@[simp] theorem State.setSaw_free : (s.setSaw w r).free = s.free := rfl
@[simp] theorem State.setSaw_serialCounter : (s.setSaw w r).serialCounter = s.serialCounter := rfl
@[simp] theorem State.setSaw_slots : (s.setSaw w r).slots = s.slots := rfl
@[simp] theorem State.setSaw_lastMarked : (s.setSaw w r).lastMarked = s.lastMarked := rfl
@[simp] theorem State.setSaw_windows : (s.setSaw w r).windows = s.windows := rfl
@[simp] theorem State.setSaw_locator : (s.setSaw w r).locator = s.locator := rfl
@[simp] theorem State.setSaw_pinMode : (s.setSaw w r).pinMode = s.pinMode := rfl
@[simp] theorem State.setSaw_verifiedHits : (s.setSaw w r).verifiedHits = s.verifiedHits := rfl
@[simp] theorem State.setSaw_failedHits : (s.setSaw w r).failedHits = s.failedHits := rfl
@[simp] theorem State.setSaw_misses : (s.setSaw w r).misses = s.misses := rfl
@[simp] theorem State.setSaw_gantries : (s.setSaw w r).gantries = s.gantries := rfl
@[simp] theorem State.setSaw_pointer : (s.setSaw w r).pointer = s.pointer := rfl
@[simp] theorem State.setSaw_ports : (s.setSaw w r).ports = s.ports := rfl
@[simp] theorem State.setSaw_freeNext : (s.setSaw w r).freeNext = s.freeNext := rfl
@[simp] theorem State.setSaw_duties : (s.setSaw w r).duties = s.duties := rfl
@[simp] theorem State.setSaw_pending : (s.setSaw w r).pending = s.pending := rfl
@[simp] theorem State.setSaw_gantry (g : Gantry) : (s.setSaw w r).gantry g = s.gantry g := rfl
@[simp] theorem State.setSaw_port (p : Port) : (s.setSaw w r).port p = s.port p := rfl
end

/-! ## Change flags -/

@[simp] theorem PortRecord.latch_inbound (r : PortRecord) (f : ChangeFlag) : (r.latch f).inbound = r.inbound := rfl
@[simp] theorem PortRecord.latch_outbound (r : PortRecord) (f : ChangeFlag) : (r.latch f).outbound = r.outbound := rfl
@[simp] theorem PortRecord.latch_sending (r : PortRecord) (f : ChangeFlag) : (r.latch f).sending = r.sending := rfl
@[simp] theorem PortRecord.latch_carrierUp (r : PortRecord) (f : ChangeFlag) : (r.latch f).carrierUp = r.carrierUp := rfl
@[simp] theorem PortRecord.latch_pushedWaiting (r : PortRecord) (f : ChangeFlag) :
    (r.latch f).pushedWaiting = r.pushedWaiting := rfl
@[simp] theorem PortRecord.latch_attention (r : PortRecord) (f : ChangeFlag) : (r.latch f).attention = true := rfl

/-- A flag is latched after a latching exactly when it was before or is the one latched (R192). -/
theorem mem_latchFlag (f x : ChangeFlag) (fs : List ChangeFlag) : x ∈ latchFlag f fs ↔ x = f ∨ x ∈ fs := by
  have h : x ∈ ChangeFlag.all := by cases x <;> decide
  simp [latchFlag, h]

end Sys2Proof.Machine
end

