-- ==== Sys2Proof/Laws/Closure.lean ====
section
/-! SUPPORT. What a property of states needs so that Lift Execution, the Dispatcher and the consequences of an event keep it:
`Closed P` lists the smallest updates those operations are made of, and one lemma per operation says that a closed property
survives it.  A property that looks at the ports, at the slots, at the configuration or at the clock alone is closed after a
few short checks; the lemmas here then carry it through every operation. -/

namespace Sys2Proof.Machine

/-- Two records of a gantry give the same report of where it stands and of its last completion (R95, R106, R107). -/
structure GantryRecord.StandsAs (r q : GantryRecord) : Prop where
  position : r.position = q.position
  direction : r.lastDirection = q.lastDirection
  completion : r.lastCompletion = q.lastCompletion
  outcome : r.lastOutcome = q.lastOutcome
  steps : r.stepsCompleted = q.stepsCompleted

/-- Two records of a gantry give the same report, hold the same panel on the head and the same last material. -/
structure GantryRecord.HoldsAs (r q : GantryRecord) : Prop where
  stands : r.StandsAs q
  carried : r.carried = q.carried
  material : r.lastMaterial = q.lastMaterial

/-- Two records of a saw agree in what Lift Execution and the Dispatcher leave as it is. -/
structure SawRecord.KeepsAs (r q : SawRecord) : Prop where
  settings : r.settings = q.settings
  table : r.table = q.table
  taken : r.taken = q.taken
  placed : r.panelsPlaced = q.panelsPlaced
  extra : r.extraAcks = q.extraAcks

/-- A property of states that survives the smallest updates of which the consequences of an event are made: no panel moves in
them. -/
structure Closed (P : State → Prop) : Prop where
  gantry : ∀ s g r, r.HoldsAs (s.gantry g) → P s → P (s.setGantry g r)
  saw : ∀ s w r, r.KeepsAs (s.saw w) → P s → P (s.setSaw w r)
  push : ∀ s p m, P s → P (s.push p m)
  latch : ∀ s p f, P s → P (s.latch p f)
  duties : ∀ (s : State) d, P s → P { s with duties := d }
  freeNext : ∀ (s : State) n, P s → P { s with freeNext := n }
  pointer : ∀ (s : State) w, P s → P { s with pointer := w }
  free : ∀ (s : State) f, P s → P { s with free := f }
  serial : ∀ (s : State) n, P s → P { s with serialCounter := n }
  search : ∀ s g w e, P s → P (s.locatorStep g w e).2
  claim : ∀ s n g k, P s → P (s.claim n g k)
  unclaim : ∀ s n, P s → P (s.setSlot n { s.slot n with claim := none })
  suspect : ∀ s n, P s → (s.slot n).claim = none →
    P { (s.setSlot n { s.slot n with suspect := true }) with lastMarked := some n }

/-- A closed property that survives the moves of panels as well (R33 to R35). -/
structure Carrying (P : State → Prop) : Prop extends Closed P where
  head : ∀ s g r, r.StandsAs (s.gantry g) → P s → P (s.setGantry g r)
  place : ∀ s w, P s → P (s.setSaw w { s.saw w with panelsPlaced := (s.saw w).panelsPlaced.step })
  lay : ∀ s n p, P s → P (s.lay n p)
  unlay : ∀ s n k, P s → P (s.unlay n k)

variable {P : State → Prop} (h : Closed P)
include h

/-! ## Stores and claims -/

theorem Closed.retry {s : State} (hs : P s) (g : Gantry) : P (s.retry g) := by
  unfold State.retry; split
  · exact h.duties _ _ hs
  · exact hs

theorem Closed.storeChange {s : State} (hs : P s) : P s.storeChange := h.retry (h.retry hs _) _

theorem Closed.releaseClaim {s : State} (hs : P s) (n : Nat) : P (s.releaseClaim n) := by
  unfold State.releaseClaim; split
  · exact hs
  · exact h.storeChange (h.unclaim _ _ hs)

omit h in
theorem State.retry_slots (s : State) (g : Gantry) : (s.retry g).slots = s.slots := by
  unfold State.retry; split <;> rfl

omit h in
theorem State.slot_setSlot (s : State) (n : Nat) (r : Slot) :
    (s.setSlot n r).slot n = if n < s.slots.length then r else emptySlot := by
  simp only [State.slot, State.setSlot, List.getD_eq_getElem?_getD]
  split
  · next hn => simp [hn]
  · next hn => simp [hn]

omit h in
theorem State.storeChange_slots (s : State) : s.storeChange.slots = s.slots := by
  rw [State.storeChange, State.retry_slots, State.retry_slots]

omit h in
theorem State.releaseClaim_claim (s : State) (n : Nat) : ((s.releaseClaim n).slot n).claim = none := by
  unfold State.releaseClaim
  split
  · assumption
  · rw [State.slot, State.storeChange_slots, ← State.slot, State.slot_setSlot]
    split <;> rfl

theorem Closed.markSuspect {s : State} (hs : P s) (n : Nat) : P (s.markSuspect n) :=
  h.latch _ _ _ (h.suspect _ _ (h.releaseClaim hs n) (State.releaseClaim_claim s n))

theorem Closed.releaseClaims {s : State} (hs : P s) (g : Gantry) : P (s.releaseClaims g) := by
  unfold State.releaseClaims
  generalize s.claimedBy g = l
  induction l generalizing s with
  | nil => exact hs
  | cons n l ih => exact ih (h.releaseClaim hs n)

theorem Closed.freeRecord {s : State} (hs : P s) (r : Nat) : P (s.freeRecord r) := h.free _ _ hs

theorem Closed.opportunity {s : State} (hs : P s) : P s.opportunity := h.duties _ _ hs

/-! ## The Kind Locator -/

omit h in
/-- What the locator step of a source search can do: change the Kind Locator and one of its counters. -/
theorem State.locatorStep_cases {P : State → Prop} (locator : ∀ (s : State) l, P s → P { s with locator := l })
    (hits : ∀ (s : State) c, P s → P { s with verifiedHits := c })
    (failed : ∀ (s : State) c, P s → P { s with failedHits := c })
    (missed : ∀ (s : State) c, P s → P { s with misses := c }) (s : State) (g : Gantry) (w : Saw) (e : BookEntry)
    (hs : P s) : P (s.locatorStep g w e).2 := by
  unfold State.locatorStep State.setLocatorWays
  repeat' split
  all_goals first
    | exact hs
    | exact hits _ _ (locator _ _ hs)
    | exact failed _ _ (locator _ _ hs)
    | exact missed _ _ (locator _ _ hs)

theorem Closed.sourceSearch {s : State} (hs : P s) (g : Gantry) (w : Saw) (e : BookEntry) :
    P (s.sourceSearch g w e).2 := by
  unfold State.sourceSearch
  repeat' split
  all_goals first
    | exact h.claim _ _ _ _ hs
    | exact h.claim _ _ _ _ (h.search _ _ _ _ hs)
    | exact h.search _ _ _ _ hs

/-! ## The runway -/

theorem Closed.issue {s : State} (hs : P s) (g : Gantry) (step : Step) (v : Span) : P (s.issue g step v) :=
  h.push _ _ _ (h.gantry _ _ _ (by exact ⟨⟨rfl, rfl, rfl, rfl, rfl⟩, rfl, rfl⟩) hs)

theorem Closed.prepareYield {s : State} (hs : P s) (g : Gantry) (step : Step) : P (s.prepareYield g step) := by
  unfold State.prepareYield State.requestYield
  repeat' split
  all_goals first
    | exact h.gantry _ _ _ (by exact ⟨⟨rfl, rfl, rfl, rfl, rfl⟩, rfl, rfl⟩) hs
    | exact h.issue hs _ _ _

theorem Closed.orderYield {s : State} (hs : P s) (g : Gantry) (v : Span) (f : Option FormerState) :
    P (s.orderYield g v f) := h.prepareYield (h.gantry _ _ _ (by exact ⟨⟨rfl, rfl, rfl, rfl, rfl⟩, rfl, rfl⟩) hs) _ _

theorem Closed.cross {s : State} (hs : P s) (g : Gantry) (step : Step) (v : Span) : P (s.cross g step v) := by
  unfold State.cross
  split
  · exact h.orderYield (h.gantry _ _ _ (by exact ⟨⟨rfl, rfl, rfl, rfl, rfl⟩, rfl, rfl⟩) hs) _ _ _
  · exact h.orderYield (h.gantry _ _ _ (by exact ⟨⟨rfl, rfl, rfl, rfl, rfl⟩, rfl, rfl⟩) (h.gantry _ _ _ (by exact ⟨⟨rfl, rfl, rfl, rfl, rfl⟩, rfl, rfl⟩) hs)) _ _ _

theorem Closed.judge {s : State} (hs : P s) (g : Gantry) (step : Step) (v : Span) : P (s.judge g step v).1 := by
  unfold State.judge
  repeat' split
  all_goals first
    | exact h.issue hs _ _ _
    | exact h.orderYield (h.gantry _ _ _ (by exact ⟨⟨rfl, rfl, rfl, rfl, rfl⟩, rfl, rfl⟩) hs) _ _ _
    | exact h.gantry _ _ _ (by exact ⟨⟨rfl, rfl, rfl, rfl, rfl⟩, rfl, rfl⟩) hs
    | exact h.cross hs _ _ _

theorem Closed.request {s : State} (hs : P s) (g : Gantry) (step : Step) (v : Span) : P (s.request g step v).1 := by
  unfold State.request State.requestYield
  repeat' split
  all_goals first
    | exact h.issue hs _ _ _
    | exact h.gantry _ _ _ (by exact ⟨⟨rfl, rfl, rfl, rfl, rfl⟩, rfl, rfl⟩) hs
    | exact h.judge hs _ _ _

theorem Closed.prepare {s : State} (hs : P s) (g : Gantry) (step : Step) : P (s.prepare g step).1 := by
  unfold State.prepare
  split
  · exact h.gantry _ _ _ (by exact ⟨⟨rfl, rfl, rfl, rfl, rfl⟩, rfl, rfl⟩) hs
  · exact h.request hs _ _ _

/-! ## Ends of books and offers -/

theorem Closed.abortAssembling {s : State} (hs : P s) (w : Saw) (tag : Word) (c : BookFault) :
    P (s.abortAssembling w tag c) := by
  unfold State.abortAssembling State.abortBook
  split
  · exact h.opportunity (h.push _ _ _ (h.saw _ _ _ (by exact ⟨rfl, rfl, rfl, rfl, rfl⟩) hs))
  · exact hs

theorem Closed.releaseBook {s : State} (hs : P s) (w : Saw) (tag : Word) : P (s.releaseBook w tag) := by
  unfold State.releaseBook
  split
  · exact h.opportunity (h.push _ _ _ (h.saw _ _ _ (by exact ⟨rfl, rfl, rfl, rfl, rfl⟩) hs))
  · exact hs

theorem Closed.endOffer {s : State} (hs : P s) (g : Gantry) (w : Saw) (o : OfferOutcome) (c : Option BookFault)
    (n : Nat) (v : Option SlotName) : P (s.endOffer g w o c n v) := by
  unfold State.endOffer
  split
  · exact h.push _ _ _ (h.saw _ _ _ (by exact ⟨rfl, rfl, rfl, rfl, rfl⟩) hs)
  · exact hs

/-! ## Lift Execution -/

theorem Closed.updateBookAt {s : State} (hs : P s) (g : Gantry) (f : Book → Book) : P (s.updateBookAt g f) := by
  unfold State.updateBookAt
  split
  · exact h.saw _ _ _ (by exact ⟨rfl, rfl, rfl, rfl, rfl⟩) hs
  · exact hs

theorem Closed.becomeIdle {s : State} (hs : P s) (g : Gantry) : P (s.becomeIdle g) :=
  h.opportunity (h.gantry _ _ _ (by exact ⟨⟨rfl, rfl, rfl, rfl, rfl⟩, rfl, rfl⟩) hs)

theorem Closed.strand {s : State} (hs : P s) (g : Gantry) : P (s.strand g) := h.latch _ _ _ (h.gantry _ _ _ (by exact ⟨⟨rfl, rfl, rfl, rfl, rfl⟩, rfl, rfl⟩) hs)

theorem Closed.putTo {s : State} (hs : P s) (g : Gantry) (n : Nat) : P (s.putTo g n) := by
  have hp : P ((s.beginPut g n).prepare g (s.putStep n)).1 :=
    h.prepare (h.gantry _ _ _ (by exact ⟨⟨rfl, rfl, rfl, rfl, rfl⟩, rfl, rfl⟩) (h.claim s n g .put hs)) g (s.putStep n)
  unfold State.putTo
  split
  · next heq => rw [heq] at hp; exact hp
  · next heq => rw [heq] at hp; exact h.strand (h.releaseClaim hp n) g

theorem Closed.seekPut {s : State} (hs : P s) (g : Gantry) : P (s.seekPut g) := by
  unfold State.seekPut
  split
  · exact h.putTo hs _ _
  · exact h.strand hs g

theorem Closed.seekAgain {s : State} (hs : P s) (g : Gantry) : P (s.seekAgain g) := by
  unfold State.seekAgain
  split
  · exact h.putTo hs _ _
  · exact hs

theorem Closed.beginReturn {s : State} (hs : P s) (g : Gantry) (n : Option Nat) : P (s.beginReturn g n) :=
  h.seekPut (h.gantry _ _ _ (by exact ⟨⟨rfl, rfl, rfl, rfl, rfl⟩, rfl, rfl⟩) hs) g

theorem Closed.afterBook {s : State} (hs : P s) (g : Gantry) (n : Option Nat) : P (s.afterBook g n) := by
  unfold State.afterBook
  split
  · exact h.becomeIdle hs g
  · exact h.beginReturn hs g n

theorem Closed.endBook {s : State} (hs : P s) (g : Gantry) (c : BookFault) : P (s.endBook g c) := by
  unfold State.endBook
  split
  · exact h.afterBook (h.abortAssembling hs _ _ _) _ _
  · exact hs

theorem Closed.releasePick {s : State} (hs : P s) (g : Gantry) : P (s.releasePick g) := by
  unfold State.releasePick
  repeat' split
  all_goals first
    | exact hs
    | exact h.releaseClaim hs _

theorem Closed.releaseDestination {s : State} (hs : P s) (g : Gantry) : P (s.releaseDestination g) := by
  unfold State.releaseDestination
  split
  · exact h.releaseClaim hs _
  · exact hs

theorem Closed.freeBlank {s : State} (hs : P s) (g : Gantry) : P (s.freeBlank g) := by
  unfold State.freeBlank
  split
  · exact h.gantry _ _ _ (by exact ⟨⟨rfl, rfl, rfl, rfl, rfl⟩, rfl, rfl⟩) (h.freeRecord hs _)
  · exact hs

theorem Closed.discardPickup {s : State} (hs : P s) (g : Gantry) (w : Saw) (c : BookFault) :
    P (s.discardPickup g w c) :=
  h.becomeIdle (h.endOffer (h.releaseDestination (h.freeBlank hs g) g) _ _ _ _ _ _) g

theorem Closed.blocked {s : State} (hs : P s) (g : Gantry) : P (s.blocked g) := by
  unfold State.blocked
  repeat' split
  all_goals first
    | exact hs
    | exact h.endBook (h.releasePick hs g) _ _
    | exact h.discardPickup hs _ _ _
    | exact h.seekPut (h.releaseDestination hs g) g

theorem Closed.settleRequest {r : State × Bool} (hs : P r.1) (g : Gantry) : P (State.settleRequest r g) := by
  unfold State.settleRequest
  split
  · exact h.blocked hs g
  · exact hs

theorem Closed.handOver {s : State} (hs : P s) (g : Gantry) (step : Step) : P (s.handOver g step) :=
  h.settleRequest (h.prepare hs g step) g

theorem Closed.startLift {s : State} (hs : P s) (g : Gantry) : P (s.startLift g) := by
  unfold State.startLift
  split
  · next w e _ =>
    have hp := h.sourceSearch hs g w e
    split
    · next heq => rw [heq] at hp; exact h.handOver (h.gantry _ _ _ (by exact ⟨⟨rfl, rfl, rfl, rfl, rfl⟩, rfl, rfl⟩) hp) _ _
    · next heq => rw [heq] at hp; exact h.gantry _ _ _ (by exact ⟨⟨rfl, rfl, rfl, rfl, rfl⟩, rfl, rfl⟩) hp
    · next heq => rw [heq] at hp; exact h.endBook hp _ _
  · exact hs

omit h in
theorem Carrying.pickPanel {s : State} (h : Carrying P) (hs : P s) (g : Gantry) (n : Nat) : P (s.pickPanel g n) := by
  unfold State.pickPanel
  split
  · exact h.releaseClaim (h.unlay _ _ _ (h.head _ _ _ (by exact ⟨rfl, rfl, rfl, rfl, rfl⟩) hs)) n
  · exact h.releaseClaim hs n

omit h in
theorem Carrying.pickOk {s : State} (h : Carrying P) (hs : P s) (g : Gantry) (w : Saw) (n : Nat) : P (s.pickOk g w n) := by
  unfold State.pickOk
  split
  · exact h.endBook (h.pickPanel hs g n) _ _
  · exact h.handOver (h.gantry _ _ _ (by exact ⟨⟨rfl, rfl, rfl, rfl, rfl⟩, rfl, rfl⟩) (h.pickPanel hs g n)) _ _

theorem Closed.pickMiss {s : State} (hs : P s) (g : Gantry) (n : Nat) : P (s.pickMiss g n) := by
  have hm := h.updateBookAt (h.markSuspect hs n) g fun b => b.noteFault .pickMiss b.lift
  unfold State.pickMiss
  dsimp only
  repeat' split
  all_goals first
    | exact h.endBook hm _ _
    | exact h.startLift (h.updateBookAt hm _ _) _

theorem Closed.beginPlace {s : State} (hs : P s) (g : Gantry) (w : Saw) : P (s.beginPlace g w) :=
  h.handOver (h.gantry _ _ _ (by exact ⟨⟨rfl, rfl, rfl, rfl, rfl⟩, rfl, rfl⟩) hs) _ _

theorem Closed.hoverDone {s : State} (hs : P s) (g : Gantry) (w : Saw) : P (s.hoverDone g w) := by
  unfold State.hoverDone
  repeat' split
  all_goals first
    | exact h.endBook hs _ _
    | exact h.beginPlace hs _ _
    | exact h.gantry _ _ _ (by exact ⟨⟨rfl, rfl, rfl, rfl, rfl⟩, rfl, rfl⟩) hs

omit h in
theorem Carrying.placePanel {s : State} (h : Carrying P) (hs : P s) (g : Gantry) (w : Saw) (p : Panel) : P (s.placePanel g w p) :=
  h.place _ _ (h.updateBookAt (h.head _ _ _ (by exact ⟨rfl, rfl, rfl, rfl, rfl⟩) (h.freeRecord hs _)) _ _)

omit h in
theorem Carrying.placeOk {s : State} (h : Carrying P) (hs : P s) (g : Gantry) (w : Saw) : P (s.placeOk g w) := by
  unfold State.placeOk
  split
  · next p _ =>
    have hp := h.placePanel hs g w p
    repeat' split
    · exact h.endBook hp _ _
    · exact h.startLift (h.gantry _ _ _ (by exact ⟨⟨rfl, rfl, rfl, rfl, rfl⟩, rfl, rfl⟩) (h.updateBookAt hp _ _)) _
    · unfold State.finishBook
      split
      · exact h.becomeIdle (h.releaseBook hp _ _) _
      · exact hp
  · exact hs

omit h in
theorem Carrying.putOk {s : State} (h : Carrying P) (hs : P s) (g : Gantry) (n : Nat) : P (s.putOk g n) := by
  unfold State.putOk
  split
  · refine h.becomeIdle ?_ g
    unfold State.putEnds
    split
    · exact h.endOffer (h.releaseClaim (h.lay _ _ _ (h.head _ _ _ (by exact ⟨rfl, rfl, rfl, rfl, rfl⟩) hs)) n) _ _ _ _ _ _
    · exact h.releaseClaim (h.lay _ _ _ (h.head _ _ _ (by exact ⟨rfl, rfl, rfl, rfl, rfl⟩) hs)) n
  · exact hs

theorem Closed.putFail {s : State} (hs : P s) (g : Gantry) (n : Nat) : P (s.putFail g n) := by
  unfold State.putFail
  split
  · exact h.seekPut (h.gantry _ _ _ (by exact ⟨⟨rfl, rfl, rfl, rfl, rfl⟩, rfl, rfl⟩) (h.markSuspect hs n)) g
  · exact h.strand (h.markSuspect hs n) g

omit h in
theorem Carrying.pickupOk {s : State} (h : Carrying P) (hs : P s) (g : Gantry) (w : Saw) : P (s.pickupOk g w) := by
  unfold State.pickupOk
  split
  · exact h.handOver (h.head _ _ _ (by exact ⟨rfl, rfl, rfl, rfl, rfl⟩) (h.head _ _ _ (by exact ⟨rfl, rfl, rfl, rfl, rfl⟩) (h.serial _ _ hs))) _ _
  · exact hs

theorem Closed.yieldDone {s : State} (hs : P s) (g : Gantry) : P (s.yieldDone g) := by
  unfold State.yieldDone
  split
  · exact h.becomeIdle hs g
  · exact h.seekAgain (h.gantry _ _ _ (by exact ⟨⟨rfl, rfl, rfl, rfl, rfl⟩, rfl, rfl⟩) hs) g
  · exact h.handOver (h.gantry _ _ _ (by exact ⟨⟨rfl, rfl, rfl, rfl, rfl⟩, rfl, rfl⟩) hs) _ _
  · exact h.afterBook hs _ _

omit h in
theorem Carrying.stepCompleted {s : State} (h : Carrying P) (hs : P s) (g : Gantry) (step : Step) (ok : Bool) :
    P (s.stepCompleted g step ok) := by
  unfold State.stepCompleted
  split
  · exact h.pickOk hs _ _ _
  · exact h.pickMiss hs _ _
  · exact h.pickupOk hs _ _
  · exact h.discardPickup hs _ _ _
  · exact h.hoverDone hs _ _
  · exact h.placeOk hs _ _
  · exact h.endBook hs _ _
  · exact h.putOk hs _ _
  · exact h.putFail hs _ _
  · exact h.yieldDone hs _
  · exact hs

theorem Closed.actOnAbort {s : State} (hs : P s) (g : Gantry) : P (s.actOnAbort g) := by
  unfold State.actOnAbort
  repeat' split
  · exact h.gantry _ _ _ (by exact ⟨⟨rfl, rfl, rfl, rfl, rfl⟩, rfl, rfl⟩) (h.abortAssembling (h.releasePick hs g) _ _ _)
  · exact hs
  · exact h.endBook (h.releasePick hs g) _ _
  · exact hs

/-! ## Faults -/

omit h in
theorem Carrying.becomeFaulted {s : State} (h : Carrying P) (drop : ∀ s g, P s → P (State.dropStepOrder s g)) (hs : P s) (g : Gantry)
    (c : FaultCause) (n : BitVec 8) (silent : Bool) : P (s.becomeFaulted g c n silent) := by
  unfold State.becomeFaulted
  dsimp only
  have h1 : P ((s.setGantry g ((s.gantry g).faulted (s.faultRecord g c n))).markSuspectOpt (s.gantry g).pickedSlot) := by
    unfold State.markSuspectOpt
    split
    · exact h.markSuspect (h.head _ _ _ (by exact ⟨rfl, rfl, rfl, rfl, rfl⟩) hs) _
    · exact h.head _ _ _ (by exact ⟨rfl, rfl, rfl, rfl, rfl⟩) hs
  have h2 : P ((((s.setGantry g ((s.gantry g).faulted (s.faultRecord g c n))).markSuspectOpt
      (s.gantry g).pickedSlot).releaseClaims g).freeRecordOpt ((s.gantry g).task.bind Task.blank)) := by
    unfold State.freeRecordOpt
    split
    · exact h.freeRecord (h.releaseClaims h1 g) _
    · exact h.releaseClaims h1 g
  refine drop _ _ ?_
  unfold State.latchService
  have h3 : ∀ t : State, P t → P (t.endFaultedTask g ((s.gantry g).task.map Task.kind)
      (((s.gantry g).carried.map Panel.serial).getD 0)) := by
    intro t ht
    unfold State.endFaultedTask
    split
    · exact h.abortAssembling ht _ _ _
    · exact h.endOffer ht _ _ _ _ _ _
    · exact ht
  repeat' split
  all_goals first
    | exact h.latch _ _ _ h2
    | exact h.latch _ _ _ (h3 _ h2)
    | exact h.latch _ _ _ (h.latch _ _ _ h2)
    | exact h.latch _ _ _ (h.latch _ _ _ (h3 _ h2))

theorem Closed.secondCause {s : State} (hs : P s) (g : Gantry) (c : FaultCause) : P (s.secondCause g c) := by
  unfold State.secondCause
  repeat' split
  · exact h.latch _ _ _ (h.gantry _ _ _ (by exact ⟨⟨rfl, rfl, rfl, rfl, rfl⟩, rfl, rfl⟩) hs)
  · exact hs
  · exact hs

/-! ## Dispatch and consequences -/

theorem Closed.startBook {s : State} (hs : P s) (g : Gantry) (w : Saw) (b : Book) : P (s.startBook g w b) :=
  h.startLift (h.gantry _ _ _ (by exact ⟨⟨rfl, rfl, rfl, rfl, rfl⟩, rfl, rfl⟩) (h.saw _ _ _ (by exact ⟨rfl, rfl, rfl, rfl, rfl⟩) hs)) g

theorem Closed.startRemnantReturn {s : State} (hs : P s) (g : Gantry) (w : Saw) (o : Offer) :
    P (s.startRemnantReturn g w o) := by
  unfold State.startRemnantReturn
  split
  · exact h.handOver (h.gantry _ _ _ (by exact ⟨⟨rfl, rfl, rfl, rfl, rfl⟩, rfl, rfl⟩) (h.saw _ _ _ (by exact ⟨rfl, rfl, rfl, rfl, rfl⟩) (h.free _ _ (h.claim _ _ _ _ hs)))) _ _
  · exact hs

theorem Closed.dispatchRound {s t : State} {gs hs' : List Gantry} (hs : P s)
    (ht : s.dispatchRound gs = some (t, hs')) : P t := by
  unfold State.dispatchRound at ht
  rw [Option.map_eq_some_iff] at ht
  obtain ⟨⟨g, w, k⟩, -, ht⟩ := ht
  obtain ⟨rfl, -⟩ := Prod.mk.inj ht
  unfold State.give
  split
  · exact h.startRemnantReturn (h.pointer _ _ hs) _ _ _
  · exact h.startBook (h.pointer _ _ hs) _ _ _

theorem Closed.dispatchPass {s : State} (hs : P s) : P s.dispatchPass := by
  unfold State.dispatchPass
  split
  · exact hs
  · next heq =>
    split
    · exact h.dispatchRound hs heq
    · next heq' => exact h.dispatchRound (h.dispatchRound hs heq) heq'

theorem Closed.take {s : State} (hs : P s) (d : Duty) : P (s.take d) := by
  unfold State.take
  have hd := h.duties s (s.duties.clear d) hs
  cases d with
  | retry g =>
    unfold State.searchAgain
    dsimp only
    split
    · exact h.seekAgain hd g
    · exact h.startLift hd g
  | retest g =>
    unfold State.testAgain
    dsimp only
    split
    · exact h.settleRequest (h.request hd _ _ _) g
    · exact hd
  | dispatch => exact h.dispatchPass hd

theorem Closed.settleFor {s : State} (n : Nat) (hs : P s) : P (State.settleFor n s) := by
  induction n generalizing s with
  | zero => exact h.duties _ _ hs
  | succ n ih =>
    unfold State.settleFor
    split
    · exact h.duties _ _ hs
    · refine ih (h.take ?_ _)
      unfold State.chooseDuty
      split
      · exact hs
      · exact h.freeNext _ _ hs

/-- A closed property survives the consequences of an event. -/
theorem Closed.settle {s : State} (hs : P s) : P s.settle := h.settleFor 1000 hs

end Sys2Proof.Machine
end

