-- ==== Sys2Proof/Laws/Answer.lean ====
section
/-! SUPPORT. What follows a message: the consequences when none is due, and the reply when the port is ready for it. -/

namespace Sys2Proof.Machine

/-! ## Consequences -/

/-- Where no consequence is due, settling clears what was prompted and changes nothing else. -/
theorem State.settle_of_none_due (s : State) (h : ∀ d, s.due d = false) : s.settle = { s with duties := .none } := by
  have hf : Duty.all.filter s.due = [] := by simp [h]
  unfold State.settle State.settleFor
  rw [hf]

/-- With no consequence prompted, none is due. -/
theorem State.due_of_quiet (s : State) (h : s.duties = .none) (d : Duty) : s.due d = false := by
  cases d <;> simp [State.due, h, Duties.none]

/-- With no consequence prompted, settling changes nothing. -/
theorem State.settle_of_quiet (s : State) (h : s.duties = .none) : s.settle = s := by
  rw [s.settle_of_none_due (s.due_of_quiet h), ← h]

/-- A prompted dispatch pass that is not due is dropped. -/
theorem State.settle_opportunity (s : State) (h : s.duties = .none) (hp : s.passDue = false) :
    s.opportunity.settle = s := by
  rw [State.settle_of_none_due]
  · simp [State.opportunity, ← h]
  · intro d
    have hp' : s.opportunity.passDue = false := hp
    cases d <;> simp [State.due, hp'] <;> simp [State.opportunity, h, Duties.none]

/-- Where no search waits, no request waits to be tested and no task is there to give, settling clears what was prompted and
changes nothing else. -/
theorem State.settle_of_nothing_to_give (s : State) (hr : ∀ g, s.duties.retry.get g = true → (s.gantry g).waits = false)
    (ht : ∀ g, s.duties.retest.get g = true → (s.gantry g).state ≠ .waitGrant) (hn : s.NothingToGive) :
    s.settle = { s with duties := .none } := by
  have dr : ∀ g, s.due (.retry g) = false := by
    intro g; cases h : s.duties.retry.get g <;> simp_all [State.due]
  have dt : ∀ g, s.due (.retest g) = false := by
    intro g; cases h : s.duties.retest.get g <;> simp_all [State.due]
  cases hd : s.due .dispatch with
  | false =>
    refine s.settle_of_none_due fun d => ?_
    cases d <;> simp [dr, dt, hd]
  | true =>
    have hp : s.passDue = true := by simp_all [State.due]
    have h1 : Duty.all.filter s.due = [.dispatch] := by simp [Duty.all, dr, dt, hd]
    have h2 : s.take .dispatch = { s with duties := s.duties.clear .dispatch } := by
      unfold State.take
      have : State.dispatchPass { s with duties := s.duties.clear .dispatch } =
          { s with duties := s.duties.clear .dispatch } := by
        unfold State.dispatchPass State.dispatchRound
        have : State.round { s with duties := s.duties.clear .dispatch }
            (State.stillIdle { s with duties := s.duties.clear .dispatch } [.west, .east]) =
            s.round (s.stillIdle [.west, .east]) := rfl
        rw [this, hn hp]; rfl
      exact this
    have h3 : Duty.all.filter (s.take .dispatch).due = [] := by
      have e : ∀ d, (s.take .dispatch).due d = false := by
        intro d
        rw [h2]
        cases d with
        | retry g => exact dr g
        | retest g => exact dt g
        | dispatch => simp [State.due, Duties.clear]
      simp [Duty.all, e]
    have h4 : s.settle = State.settleFor 999 (s.take .dispatch) := by
      show State.settleFor 1000 s = _
      rw [State.settleFor, h1]; rfl
    rw [h4, State.settleFor, h3, h2]

/-- The hold set of a saw reads of the ports the carriers alone. -/
theorem State.holdSet_ports (s : State) (ps : PerPort PortRecord) (d : Duties)
    (h : ∀ p, (ps.get p).carrierUp = (s.port p).carrierUp) (w : Saw) :
    State.holdSet { s with ports := ps, duties := d } w = s.holdSet w := by
  have hl : State.sawLinkUp { s with ports := ps, duties := d } w = s.sawLinkUp w := h (.saw w)
  have ha : State.holdActive { s with ports := ps, duties := d } w = s.holdActive w := by
    funext k
    cases k with
    | linkDown => exact congrArg (fun b => !b) hl
    | disabled => rfl
    | halt => rfl
    | backlog => rfl
    | pacing => rfl
    | noGantry => rfl
  unfold State.holdSet
  rw [ha]; rfl

/-- A round reads of the ports the carriers alone. -/
theorem State.round_ports (s : State) (ps : PerPort PortRecord) (d : Duties)
    (h : ∀ p, (ps.get p).carrierUp = (s.port p).carrierUp) (gs : List Gantry) :
    State.round { s with ports := ps, duties := d } gs = s.round gs := by
  have hq : ∀ w, State.bookQualifies { s with ports := ps, duties := d } w = s.bookQualifies w := by
    intro w; funext g
    unfold State.bookQualifies
    rw [s.holdSet_ports ps d h w]; rfl
  have ht : State.turn { s with ports := ps, duties := d } gs = s.turn gs := by
    funext w
    unfold State.turn State.bookTurn
    rw [hq w]; rfl
  unfold State.round
  rw [ht]

/-- Whether there is a task to give rests on the ports' carriers alone among all that the ports hold. -/
theorem State.NothingToGive.of_ports {s : State} (hn : s.NothingToGive) (ps : PerPort PortRecord) (d : Duties)
    (h : ∀ p, (ps.get p).carrierUp = (s.port p).carrierUp) :
    State.NothingToGive { s with ports := ps, duties := d } := by
  intro hp
  have e : State.stillIdle { s with ports := ps, duties := d } [.west, .east] = s.stillIdle [.west, .east] := rfl
  rw [e, s.round_ports ps d h]
  exact hn hp

/-! ## Frames -/

theorem State.takeFrame_arrive (s : State) (p : Port) (f : Frame) : (s.arrive p f).takeFrame p = s.taken p := by
  unfold State.arrive State.takeFrame State.taken
  split
  · next h => simp [h]
  · rfl

theorem State.arrive_ready {s : State} {p : Port} {f : Frame} {k : Nat} (h : s.Ready p f k) :
    (s.arrive p f).atHead p f = true ∧ ((s.arrive p f).port p).outbound = (s.port p).outbound := by
  unfold State.arrive State.atHead
  split
  · simp
  · next hne =>
    rcases h.fronted with hf | hf
    · exact absurd hf hne
    · simp [hf]

/-- Taking a frame leaves every carrier as it is. -/
theorem State.taken_carriers (s : State) (p q : Port) : ((s.taken p).ports.get q).carrierUp = (s.port q).carrierUp := by
  have : (s.taken p).ports.get q = (s.taken p).port q := rfl
  rw [this, State.taken, State.setPort_port]
  split
  · next h => rw [h]
  · rfl

theorem Reply.frames_length (p : Port) (r : Reply) : (r.frames p).length = r.parts p := by simp [Reply.frames]

theorem Reply.parts_pos (p : Port) (r : Reply) : 0 < r.parts p := by
  cases r <;> simp [Reply.parts] <;> split <;> omega

/-- A ready port's frame is processed: the checks and effects are made, their consequences are taken, the reply is placed. -/
theorem State.process_ready {s : State} {p : Port} {f : Frame} {handle : State → State × Reply}
    (h : s.Ready p f ((handle (s.taken p)).2.parts p)) :
    s.process p f handle = ((handle (s.taken p)).1.settle).placeReply p (handle (s.taken p)).2 := by
  obtain ⟨h1, h2⟩ := State.arrive_ready h
  have hr := h.room
  unfold State.process
  simp only [State.takeFrame_arrive, h1, State.hasRoom, h2, outboundPlaces]
  simp [hr]

/-- A reply for which there is room, on a port that the message's effects leave as it is. -/
theorem State.placeReply_room {t : State} {p : Port} {r : Reply} (h : (t.port p).outbound.length + r.parts p ≤ 8) :
    t.placeReply p r = t.setPort p (PortRecord.wake { t.port p with outbound := (t.port p).outbound ++ r.frames p }) := by
  have hl : (t.port p).outbound.length ≤ 8 - (r.frames p).length := by
    rw [Reply.frames_length]; omega
  simp [State.placeReply, PortRecord.place, outboundPlaces, List.take_of_length_le hl, List.drop_of_length_le hl]

/-- A message that changes nothing but is answered. -/
theorem State.process_answer {s : State} {p : Port} {f : Frame} {handle : State → State × Reply} {r : Reply}
    (h : s.Ready p f (r.parts p)) (hh : handle (s.taken p) = (s.taken p, r)) : s.process p f handle = s.answered p r := by
  rw [State.process_ready (by rw [hh]; exact h), hh]
  have hq : (s.taken p).duties = .none := h.settled
  simp only [State.settle_of_quiet _ hq]
  rw [State.placeReply_room (by simpa [State.taken] using h.room)]
  simp [State.taken, State.answered, PortRecord.answering]

/-- A frame whose effect settles to the state `E`, the frame taken: what the port's processing leaves. -/
theorem State.process_effect {s E : State} {p : Port} {f : Frame} {handle : State → State × Reply} {r : Reply} {k : Nat}
    (h : s.Ready p f k) (hk : r.parts p = k) (hr : (handle (s.taken p)).2 = r)
    (hs : (handle (s.taken p)).1.settle = E.taken p) (ho : (E.port p).outbound = (s.port p).outbound) :
    s.process p f handle = E.answered p r := by
  subst hr; subst hk
  rw [State.process_ready h, hs, State.placeReply_room]
  · simp [State.taken, State.answered, PortRecord.answering]
  · have := h.room; simp [State.taken, ho]; exact this

/-- A message that passes the message-level checks and the cell-state check has its own effect. -/
theorem State.message_effect {s E : State} {m : Message} {p : Port} {ws : List Word} {body : State → State × Reply}
    {r : Reply} {k : Nat} (h : s.Ready p ⟨m.code, ws⟩ k) (hc : m.check p ws = none) (ha : m.accepts s.cell = true)
    (hk : r.parts p = k) (hr : (body (s.taken p)).2 = r) (hs : (body (s.taken p)).1.settle = E.taken p)
    (ho : (E.port p).outbound = (s.port p).outbound) : s.message m p ws body = E.answered p r := by
  have e : (s.taken p).handleMessage m p ws body = body (s.taken p) := by
    have : (s.taken p).cell = s.cell := rfl
    simp [State.handleMessage, hc, this, ha]
  exact State.process_effect h hk (by rw [e]; exact hr) (by rw [e]; exact hs) ho

/-- A message that passes the message-level checks and the cell-state check, and changes nothing. -/
theorem State.message_answer {s : State} {m : Message} {p : Port} {ws : List Word} {body : State → State × Reply} {r : Reply}
    {k : Nat} (h : s.Ready p ⟨m.code, ws⟩ k) (hc : m.check p ws = none) (ha : m.accepts s.cell = true)
    (hk : r.parts p = k) (hb : body (s.taken p) = (s.taken p, r)) : s.message m p ws body = s.answered p r :=
  State.message_effect h hc ha hk (by rw [hb]) (by rw [hb]; exact State.settle_of_quiet _ h.settled) rfl

/-- A cell command that is accepted has its own effect. -/
theorem State.command_effect {s E : State} {c : CellCommand} {body : State → State × Reply} {r : Reply} {k : Nat}
    (h : s.Ready .planner c.frame k) (ha : c.accepts s.cell = true) (hk : r.parts .planner = k)
    (hr : (body (s.taken .planner)).2 = r) (hs : (body (s.taken .planner)).1.settle = E.taken .planner)
    (ho : (E.port .planner).outbound = (s.port .planner).outbound) : s.command c .planner body = E.answered .planner r := by
  have e : (s.taken .planner).handleCommand c .planner body = body (s.taken .planner) := by
    have hc : Message.cellCommand.check .planner [BitVec.ofNat 16 c.number] = none := by cases c <;> decide
    have : (s.taken .planner).cell = s.cell := rfl
    simp only [State.handleCommand, hc, this, ha, if_true]
  exact State.process_effect h hk (by rw [e]; exact hr) (by rw [e]; exact hs) ho

end Sys2Proof.Machine
end

