-- ==== Sys2Proof/Laws/Pacing.lean ====
section
/-! SUPPORT. How long a pacing rule stays unsatisfied (R132, R133, R177). -/

namespace Sys2Proof.Machine

/-- Elapsed time after a further `d` milliseconds. -/
theorem elapsed_add (now t : Time) (d : Nat) :
    elapsed (now + BitVec.ofNat 32 d) t = (elapsed now t + d) % 4294967296 := by
  unfold elapsed
  rw [show now + BitVec.ofNat 32 d - t = (now - t) + BitVec.ofNat 32 d by ring]
  simp [BitVec.toNat_add, BitVec.toNat_ofNat]

/-- Elapsed time is taken modulo 2^32. -/
theorem elapsed_lt (now t : Time) : elapsed now t < 4294967296 := (now - t).isLt

/-- The wait for the moment at which a start leaves a window of `w`. -/
theorem elapsed_leaving (now t : Time) (w : Nat) (hw : w < 4294967296) :
    elapsed (t + BitVec.ofNat 32 w) now = if elapsed now t ≤ w then w - elapsed now t else 4294967296 + w - elapsed now t := by
  unfold elapsed
  have h1 := t.isLt
  have h2 := now.isLt
  simp only [BitVec.toNat_sub, BitVec.toNat_add, BitVec.toNat_ofNat]
  split <;> omega

/-- A rule is satisfied exactly when its window is 0 or fewer than k starts lie within it. -/
theorem SawRecord.ruleSatisfied_iff (r : SawRecord) (now : Time) (k w : Nat) :
    r.ruleSatisfied now k w = true ↔ w = 0 ∨ (r.pacing.filter fun t => decide (elapsed now t < w)).length < k := by
  unfold SawRecord.ruleSatisfied withinLast
  rw [Bool.or_eq_true, decide_eq_true_iff, decide_eq_true_iff]

/-- Of any three starts none lies within its window at one of four moments 60,000 ms apart. -/
theorem SawRecord.satisfied_soon (r : SawRecord) (now : Time) (k w : Nat) (hk : 1 ≤ k) (hw : w ≤ 60000)
    (hr : r.pacing.length ≤ 3) : ∃ d, d ≤ 180000 ∧ r.ruleSatisfied (now + BitVec.ofNat 32 d) k w = true := by
  by_contra hn
  have h : ∀ i, i ≤ 3 → ∃ t ∈ r.pacing, (elapsed now t + i * 60000) % 4294967296 < w := fun i hi => by
    by_contra h
    refine hn ⟨i * 60000, by omega, (r.ruleSatisfied_iff _ k w).mpr (.inr ?_)⟩
    have : (r.pacing.filter fun t => decide (elapsed (now + BitVec.ofNat 32 (i * 60000)) t < w)) = [] := by
      simp only [List.filter_eq_nil_iff, decide_eq_true_eq, elapsed_add]
      exact fun t ht hl => h ⟨t, ht, hl⟩
    rw [this]
    exact hk
  have lt := elapsed_lt now
  obtain ⟨a, ha, ha'⟩ := h 0 (by omega)
  obtain ⟨b, hb, hb'⟩ := h 1 (by omega)
  obtain ⟨c, hc, hc'⟩ := h 2 (by omega)
  obtain ⟨d, hd, hd'⟩ := h 3 (by omega)
  have la := lt a
  have lb := lt b
  have lc := lt c
  have ld := lt d
  have hab : a ≠ b := fun h => by subst h; omega
  have hac : a ≠ c := fun h => by subst h; omega
  have had : a ≠ d := fun h => by subst h; omega
  have hbc : b ≠ c := fun h => by subst h; omega
  have hbd : b ≠ d := fun h => by subst h; omega
  have hcd : c ≠ d := fun h => by subst h; omega
  have hs : [a, b, c, d] ⊆ r.pacing := by simp [ha, hb, hc, hd]
  have hl := (List.Nodup.subperm (by simp [hab, hac, had, hbc, hbd, hcd]) hs).length_le
  simp only [List.length_cons, List.length_nil] at hl
  omega

/-- A rule that becomes satisfied from one millisecond to the next does so as a start leaves its window. -/
theorem SawRecord.leaves_at (r : SawRecord) (now : Time) (k w d : Nat) (hw : w ≤ 60000) (hd : d < 4294907296) (_ : d ≠ 0)
    (hu : r.ruleSatisfied (now + BitVec.ofNat 32 (d - 1)) k w = false)
    (hs : r.ruleSatisfied (now + BitVec.ofNat 32 d) k w = true) :
    d ∈ r.pacing.map fun t => elapsed (t + BitVec.ofNat 32 w) now := by
  have hu' : ¬(w = 0 ∨ (r.pacing.filter fun t => decide (elapsed (now + BitVec.ofNat 32 (d - 1)) t < w)).length < k) := by
    rw [← SawRecord.ruleSatisfied_iff, hu]; simp
  obtain ⟨hw0, hc1⟩ := not_or.mp hu'
  have hc2 := ((r.ruleSatisfied_iff _ k w).mp hs).resolve_left hw0
  have hn : ¬∀ t ∈ r.pacing, elapsed (now + BitVec.ofNat 32 (d - 1)) t < w → elapsed (now + BitVec.ofNat 32 d) t < w := by
    intro h
    have hc := List.countP_mono_left (l := r.pacing) (p := fun t => decide (elapsed (now + BitVec.ofNat 32 (d - 1)) t < w))
      (q := fun t => decide (elapsed (now + BitVec.ofNat 32 d) t < w)) (by simpa using h)
    rw [List.countP_eq_length_filter, List.countP_eq_length_filter] at hc
    exact hc1 (hc.trans_lt hc2)
  simp only [not_forall] at hn
  obtain ⟨t, ht, hin, hout⟩ := hn
  refine List.mem_map.mpr ⟨t, ht, ?_⟩
  rw [elapsed_leaving now t w (by omega)]
  rw [elapsed_add] at hin hout
  have := elapsed_lt now t
  split <;> omega

/-- An unsatisfied rule is unsatisfied until its wait is over, and satisfied then, at most 180,000 ms ahead. -/
theorem SawRecord.ruleWait_first (r : SawRecord) (now : Time) (k w : Nat) (hk : 1 ≤ k) (hw : w ≤ 60000)
    (hr : r.pacing.length ≤ 3) (hu : r.ruleSatisfied now k w = false) :
    r.ruleWait now (k, w) ≤ 180000 ∧ r.ruleSatisfied (now + BitVec.ofNat 32 (r.ruleWait now (k, w))) k w = true ∧
      ∀ e, e < r.ruleWait now (k, w) → r.ruleSatisfied (now + BitVec.ofNat 32 e) k w = false := by
  obtain ⟨x, hx, hxs⟩ := r.satisfied_soon now k w hk hw hr
  have hex : ∃ d, r.ruleSatisfied (now + BitVec.ofNat 32 d) k w = true := ⟨x, hxs⟩
  obtain ⟨d, hs, hmin⟩ : ∃ d, r.ruleSatisfied (now + BitVec.ofNat 32 d) k w = true ∧
      ∀ e, r.ruleSatisfied (now + BitVec.ofNat 32 e) k w = true → d ≤ e :=
    ⟨Nat.find hex, Nat.find_spec hex, fun e he => Nat.find_min' hex he⟩
  have hd := (hmin x hxs).trans hx
  have hfirst : ∀ e, e < d → r.ruleSatisfied (now + BitVec.ofNat 32 e) k w = false := fun e he =>
    Bool.eq_false_iff.mpr fun h => absurd (hmin e h) (Nat.not_le.mpr he)
  have hd0 : d ≠ 0 := fun h => by
    rw [h, show now + BitVec.ofNat 32 0 = now from BitVec.add_zero now, hu] at hs
    cases hs
  have hm := r.leaves_at now k w d hw (by omega) hd0 (hfirst _ (by omega)) hs
  have hwait : r.ruleWait now (k, w) = d := by
    unfold SawRecord.ruleWait
    rw [List.min?_eq_some_iff.mpr ⟨List.mem_filter.mpr ⟨hm, hs⟩, fun e he => hmin e (List.mem_filter.mp he).2⟩]
    rfl
  rw [hwait]
  exact ⟨hd, hs, hfirst⟩

end Sys2Proof.Machine
end

