-- ==== Sys2Proof/Laws/PerInstr.lean ====
section
/-! SUPPORT. A statement made for each command: the words that a well-formed command carries fit what carries them, a
frame's payload of at most 62 words, the 64 words of an alignment buffer, or the 97 words of the layout memory. -/

namespace Sys2Proof.Laws.PayloadBounded

/-- The words that a command carries. -/
def carried : Instr → List Word
  | .powerOn _ => []
  | .layoutReadEnd _ => []
  | .layoutWriteEnd _ ws => ws
  | .frameReceived _ ws => ws
  | .receiveBufferFull _ ws => ws
  | .flowStop _ => []
  | .flowGo _ => []
  | .carrierLoss _ => []
  | .carrierReturn _ => []
  | .frameSent _ => []
  | .unknownMessage _ _ ws => ws
  | .layoutSet _ ws => ws
  | .layoutQuery _ ws => ws
  | .kindSet _ ws => ws
  | .kindQuery _ ws => ws
  | .areaSet _ ws => ws
  | .areaQuery _ ws => ws
  | .stackRegister _ ws => ws
  | .stackWithdraw _ ws => ws
  | .slotRelease _ ws => ws
  | .slotQuery _ ws => ws
  | .sawSet _ ws => ws
  | .sawQuery _ ws => ws
  | .gantryPark _ ws => ws
  | .gantryRestore _ ws => ws
  | .openCell _ => []
  | .haltCell _ => []
  | .resumeCell _ => []
  | .closeCell _ => []
  | .latchCounts _ => []
  | .clearCounts _ => []
  | .locatorFlush _ => []
  | .pinOn _ => []
  | .pinOff _ => []
  | .cellReset _ => []
  | .countsQuery _ ws => ws
  | .bookRequest _ ws => ws
  | .bookAbort _ ws => ws
  | .bookTaken _ ws => ws
  | .tableState _ ws => ws
  | .remnantOffer _ ws => ws
  | .gantryReady _ ws => ws
  | .stepDone _ ws => ws
  | .gantryFault _ ws => ws
  | .statusQuery _ ws => ws
  | .statusPeek _ ws => ws
  | .overrun _ => []
  | .dwellEnd _ => []
  | .hoverTimeout _ => []
  | .pacingEnd _ => []
  | .pacingRuleUnsatisfied _ => []
  | .sawTimerStep _ _ => []
  | .cellClockTick => []
  | .nextEndMarkedWord _ _ => []
  | .cellCommand _ ws => ws

/-- The bound on the words that a command carries: the layout memory's 97, and 64 for what a link delivers. -/
def bound : Instr → Nat
  | .layoutWriteEnd _ _ => 97
  | _ => 64

/-- A well-formed command carries no more words than its bound. -/
def Statement (i : Instr) : Prop := i.wellFormed = true → (carried i).length ≤ bound i

theorem of_payload {ws : List Word} (h : payloadFits ws = true) : ws.length ≤ 64 := by
  have := of_decide_eq_true h
  omega

theorem of_words {ws : List Word} (h : wordsFit ws = true) : ws.length ≤ 64 := (of_decide_eq_true h).2

theorem of_both {a : Bool} {ws : List Word} (h : (a && payloadFits ws) = true) : ws.length ≤ 64 :=
  of_payload ((Bool.and_eq_true _ _).mp h).2

theorem powerOn (wordsWritten : Nat) : Statement (.powerOn wordsWritten) :=
  fun _ => Nat.zero_le _

theorem layoutReadEnd (answers : Bool) : Statement (.layoutReadEnd answers) :=
  fun _ => Nat.zero_le _

theorem layoutWriteEnd (answers : Bool) (left : List Word) : Statement (.layoutWriteEnd answers left) :=
  fun h => (of_decide_eq_true h).le

theorem frameReceived (port : Port) (words : List Word) : Statement (.frameReceived port words) :=
  fun h => of_words h

theorem receiveBufferFull (port : Port) (words : List Word) : Statement (.receiveBufferFull port words) :=
  fun h => of_words h

theorem flowStop (port : Port) : Statement (.flowStop port) := fun _ => Nat.zero_le _

theorem flowGo (port : Port) : Statement (.flowGo port) := fun _ => Nat.zero_le _

theorem carrierLoss (port : Port) : Statement (.carrierLoss port) := fun _ => Nat.zero_le _

theorem carrierReturn (port : Port) : Statement (.carrierReturn port) :=
  fun _ => Nat.zero_le _

theorem frameSent (port : Port) : Statement (.frameSent port) := fun _ => Nat.zero_le _

theorem unknownMessage (port : Port) (code : BitVec 8) (payload : List Word) :
    Statement (.unknownMessage port code payload) :=
  fun h => of_both h

theorem layoutSet (port : Port) (payload : List Word) : Statement (.layoutSet port payload) :=
  fun h => of_payload h

theorem layoutQuery (port : Port) (payload : List Word) : Statement (.layoutQuery port payload) :=
  fun h => of_payload h

theorem kindSet (port : Port) (payload : List Word) : Statement (.kindSet port payload) :=
  fun h => of_payload h

theorem kindQuery (port : Port) (payload : List Word) : Statement (.kindQuery port payload) :=
  fun h => of_payload h

theorem areaSet (port : Port) (payload : List Word) : Statement (.areaSet port payload) :=
  fun h => of_payload h

theorem areaQuery (port : Port) (payload : List Word) : Statement (.areaQuery port payload) :=
  fun h => of_payload h

theorem stackRegister (port : Port) (payload : List Word) : Statement (.stackRegister port payload) :=
  fun h => of_payload h

theorem stackWithdraw (port : Port) (payload : List Word) : Statement (.stackWithdraw port payload) :=
  fun h => of_payload h

theorem slotRelease (port : Port) (payload : List Word) : Statement (.slotRelease port payload) :=
  fun h => of_payload h

theorem slotQuery (port : Port) (payload : List Word) : Statement (.slotQuery port payload) :=
  fun h => of_payload h

theorem sawSet (port : Port) (payload : List Word) : Statement (.sawSet port payload) :=
  fun h => of_payload h

theorem sawQuery (port : Port) (payload : List Word) : Statement (.sawQuery port payload) :=
  fun h => of_payload h

theorem gantryPark (port : Port) (payload : List Word) : Statement (.gantryPark port payload) :=
  fun h => of_payload h

theorem gantryRestore (port : Port) (payload : List Word) : Statement (.gantryRestore port payload) :=
  fun h => of_payload h

theorem openCell (port : Port) : Statement (.openCell port) := fun _ => Nat.zero_le _

theorem haltCell (port : Port) : Statement (.haltCell port) := fun _ => Nat.zero_le _

theorem resumeCell (port : Port) : Statement (.resumeCell port) := fun _ => Nat.zero_le _

theorem closeCell (port : Port) : Statement (.closeCell port) := fun _ => Nat.zero_le _

theorem latchCounts (port : Port) : Statement (.latchCounts port) := fun _ => Nat.zero_le _

theorem clearCounts (port : Port) : Statement (.clearCounts port) := fun _ => Nat.zero_le _

theorem locatorFlush (port : Port) : Statement (.locatorFlush port) := fun _ => Nat.zero_le _

theorem pinOn (port : Port) : Statement (.pinOn port) := fun _ => Nat.zero_le _

theorem pinOff (port : Port) : Statement (.pinOff port) := fun _ => Nat.zero_le _

theorem cellReset (port : Port) : Statement (.cellReset port) := fun _ => Nat.zero_le _

theorem countsQuery (port : Port) (payload : List Word) : Statement (.countsQuery port payload) :=
  fun h => of_payload h

theorem bookRequest (port : Port) (payload : List Word) : Statement (.bookRequest port payload) :=
  fun h => of_payload h

theorem bookAbort (port : Port) (payload : List Word) : Statement (.bookAbort port payload) :=
  fun h => of_payload h

theorem bookTaken (port : Port) (payload : List Word) : Statement (.bookTaken port payload) :=
  fun h => of_payload h

theorem tableState (port : Port) (payload : List Word) : Statement (.tableState port payload) :=
  fun h => of_payload h

theorem remnantOffer (port : Port) (payload : List Word) : Statement (.remnantOffer port payload) :=
  fun h => of_payload h

theorem gantryReady (port : Port) (payload : List Word) : Statement (.gantryReady port payload) :=
  fun h => of_payload h

theorem stepDone (port : Port) (payload : List Word) : Statement (.stepDone port payload) :=
  fun h => of_payload h

theorem gantryFault (port : Port) (payload : List Word) : Statement (.gantryFault port payload) :=
  fun h => of_payload h

theorem statusQuery (port : Port) (payload : List Word) : Statement (.statusQuery port payload) :=
  fun h => of_payload h

theorem statusPeek (port : Port) (payload : List Word) : Statement (.statusPeek port payload) :=
  fun h => of_payload h

theorem overrun (gantry : Gantry) : Statement (.overrun gantry) := fun _ => Nat.zero_le _

theorem dwellEnd (gantry : Gantry) : Statement (.dwellEnd gantry) := fun _ => Nat.zero_le _

theorem hoverTimeout (gantry : Gantry) : Statement (.hoverTimeout gantry) :=
  fun _ => Nat.zero_le _

theorem pacingEnd (saw : Saw) : Statement (.pacingEnd saw) := fun _ => Nat.zero_le _

theorem pacingRuleUnsatisfied (saw : Saw) : Statement (.pacingRuleUnsatisfied saw) :=
  fun _ => Nat.zero_le _

theorem sawTimerStep (saw : Saw) (timer : SawTimer) : Statement (.sawTimerStep saw timer) :=
  fun _ => Nat.zero_le _

theorem cellClockTick : Statement .cellClockTick := fun _ => Nat.zero_le _

theorem nextEndMarkedWord (port : Port) (word : Word) : Statement (.nextEndMarkedWord port word) :=
  fun _ => Nat.zero_le _

theorem cellCommand (port : Port) (payload : List Word) : Statement (.cellCommand port payload) :=
  fun h => of_payload ((Bool.and_eq_true _ _).mp h).1

end Sys2Proof.Laws.PayloadBounded
end

