-- ==== Sys2Proof/Tests/Slice0.lean ====
section
/-! SUPPORT. Tests: ill-formed commands that the checks refuse, the manual's own examples, and for each statement a state and
operands that meet its hypotheses, clause by clause and at the boundary values. -/

namespace Sys2Proof.Tests

set_option Elab.async false -- one theorem after another: each waits for the kernel, and threads that wait add up

open Sys2Proof Sys2Proof.Machine

/-! ## Well-formedness -/

theorem test_power_on_of_98_words_refused : (Instr.powerOn 98).wellFormed = false := by decide
theorem test_power_on_of_97_words : (Instr.powerOn 97).wellFormed = true := by decide
theorem test_write_end_of_96_words_refused : (Instr.layoutWriteEnd true (List.replicate 96 0)).wellFormed = false := by decide
theorem test_frame_of_no_words_refused : (Instr.frameReceived .planner []).wellFormed = false := by decide
theorem test_frame_of_65_words_refused : (Instr.frameReceived .planner (List.replicate 65 0)).wellFormed = false := by decide
theorem test_buffer_of_65_words_refused : (Instr.receiveBufferFull .planner (List.replicate 65 0)).wellFormed = false := by
  decide
theorem test_payload_of_63_words_refused : (Instr.layoutQuery .planner (List.replicate 63 0)).wellFormed = false := by decide
theorem test_inbound_code_is_no_unknown_message : (Instr.unknownMessage .planner 0x42 []).wellFormed = false := by decide
theorem test_unknown_message_of_63_words_refused :
    (Instr.unknownMessage .planner 0x43 (List.replicate 63 0)).wellFormed = false := by decide
theorem test_named_command_is_no_cell_command : (Instr.cellCommand .planner [9]).wellFormed = false := by decide
theorem test_unnamed_command_is_a_cell_command : (Instr.cellCommand .planner [10]).wellFormed = true := by decide
theorem test_cell_command_of_63_words_refused : (Instr.cellCommand .planner (List.replicate 63 0)).wellFormed = false := by
  decide

/-! ## States to test on -/

/-- The example layout record (TABLE 1.6). -/
def recordA : List Word :=
  [42000, 400, 1100, 1500, 34000, 1500, 750, 2400, 2000, 1100, 8000, 40500, 1500, 750, 2400, 2000]
    ++ [6, 24, 1500, 3000, 2000, 2400, 12000, 300, 500, 2000, 1, 24464]
    ++ [1, 6000, 9000, 18000, 1, 16000, 19000, 18000, 1, 33500, 37000, 18000, 0, 0, 0, 0]

/-- A port whose carrier is UP. -/
def portUp : PortRecord := { PortRecord.initial with carrierUp := true }

/-- A gantry that is IDLE at a position. -/
def idleAt (x lo hi : Nat) : GantryRecord :=
  { GantryRecord.initial with state := .idle, position := some x, reservation := some ⟨lo, hi⟩ }

/-- The example cell (TABLE 1.6), OPEN, with both gantries IDLE at home, kinds 1 and 2, a remnant window over slots 128 to 143 and a
window over all slots; nothing is stored. -/
def shop : State :=
  { State.reset with
    cell := .opened
    loader := .idle
    layout := some (layoutOfWords recordA)
    slots := List.replicate 144 emptySlot
    kinds := [(1, ⟨3, 180, 2800, 2070⟩), (2, ⟨7, 300, 2500, 1250⟩)]
    windows := [⟨true, 128, 4, false, true⟩, ⟨true, 0, 8, false, false⟩] ++ List.replicate 6 .initial
    gantries := ⟨idleAt 1500 0 3000, idleAt 40500 39000 42000⟩
    ports := .all portUp }

/-- The same cell CLOSED. -/
def closedShop : State := { shop with cell := .closed }

/-- A full board of kind 1. -/
def board : Panel := ⟨0, 1, 1, .raw, 2800, 2070⟩

/-- A state with one slot replaced. -/
def withSlot (s : State) (n : Nat) (r : Slot) : State := { s with slots := s.slots.set n r }

/-- A state with one gantry's record replaced. -/
def withGantry (s : State) (g : Gantry) (r : GantryRecord) : State := { s with gantries := s.gantries.set g r }

/-- A state with one saw's record replaced. -/
def withSaw (s : State) (w : Saw) (r : SawRecord) : State := { s with saws := s.saws.set w r }

/-- A state with one port's record replaced. -/
def withPort (s : State) (p : Port) (r : PortRecord) : State := { s with ports := s.ports.set p r }

/-- The cell with one board on slot 5. -/
def stocked : State := { withSlot shop 5 ⟨[board], false, none⟩ with free := ⟨1, []⟩, serialCounter := 2 }

/-- The east gantry out of service, so that it has nothing to take up. -/
def parkedEast : GantryRecord := { idleAt 40500 39000 42000 with state := .parked }

/-- The state after a command. -/
def nextOf (o : Host.Outcome State Fault Refusal) : Option State :=
  match o with
  | .next t => some t
  | _ => none

/-- A state whose east gantry has nothing to take up. -/
def alone (s : State) : State := withGantry s .east parkedEast

/-- A step issued to the west gantry with token 7 and a limit of 9,000 ms. -/
def issuedStep (kind : StepKind) (slot : Option Nat) (saw : Option Saw) : Machine.Step :=
  ⟨kind, 11250, slot, saw, none, some ⟨7, ⟨0, 12750⟩, 0, 9000⟩⟩

/-- The west gantry STEPPING with a task. -/
def stepping (step : Machine.Step) (task : Option Task) (carried : Option Panel) : GantryRecord :=
  { idleAt 1500 0 12750 with
    state := .stepping
    task := task
    current := some step
    carried := carried }

/-- A book of two entries of kind 1, ASSEMBLING on the west gantry under tag 40. -/
def assembling : Book := ⟨40, [⟨1, none⟩, ⟨1, none⟩], .assembling, some .west, 1, false, [], none, false, none, some 0, none⟩

/-- A QUEUED book of one entry. -/
def queuedBook (tag : Word) : Book := ⟨tag, [⟨1, none⟩], .queued, none, 1, false, [], none, false, none, none, none⟩

/-- A RELEASED book. -/
def releasedBook (tag : Word) : Book :=
  ⟨tag, [⟨1, none⟩], .released, none, 1, false, [9], none, false, none, some 0, some 5⟩

/-- The book task of saw 1. -/
def bookTask (phase : Phase) (source : Option Nat) : Task := ⟨.book .saw1 40, 0, phase, source, none, 0, none⟩

/-- Saw 1 with some books. -/
def sawWith (books : List Book) : SawRecord := { SawRecord.initial with books := books }

/-- A ready port, shown by evaluation. -/
theorem ready_of {s : State} {p : Port} {f : Frame} {k : Nat}
    (h : s.duties = .none ∧ ((s.port p).inbound = [] ∨ (s.port p).inbound.head? = some f) ∧
      (s.port p).outbound.length + k ≤ 8) : s.Ready p f k := ⟨h.1, h.2.1, h.2.2⟩

/-- No task to give, shown by evaluation. -/
theorem nothing_of {s : State} (h : s.passDue = false ∨ s.round (s.stillIdle [.west, .east]) = none) : s.NothingToGive := by
  intro hp
  rcases h with h | h
  · rw [h] at hp; cases hp
  · exact h

/-- Where no saw has a WAITING offer or a QUEUED book no task is there to give. -/
theorem nothing_of_lists {s : State} (h : ∀ w, (s.saw w).offers = [] ∧ (s.saw w).headBook = none) : s.NothingToGive := fun _ => by
  simp [State.round, State.turn, State.offerTurn, State.bookTurn, h]

/-! ## The manual's examples -/

theorem test_record_a_is_valid : (layoutOfWords recordA).firstFailure = none := by decide +kernel
theorem test_record_fails_check_105 : (layoutOfWords (recordA.set 10 4000)).firstFailure = some 105 := by decide +kernel
theorem test_record_fails_check_107 : (layoutOfWords (recordA.set 17 26)).firstFailure = some 107 := by decide +kernel
theorem test_hover_limit : (layoutOfWords recordA).hoverLimit = 90000 := by decide
theorem test_home_spans : (layoutOfWords recordA).standing .west 1500 = ⟨0, 3000⟩ ∧
    (layoutOfWords recordA).standing .east 40500 = ⟨39000, 42000⟩ := by decide
theorem test_slot_59 : (layoutOfWords recordA).slotX 59 = 20250 ∧ (layoutOfWords recordA).slotY 59 = 6800 ∧
    (layoutOfWords recordA).slotName 59 = ⟨59, 2, 12⟩ := by decide
theorem test_slot_143 : (layoutOfWords recordA).slotX 143 = 38250 ∧ (layoutOfWords recordA).slotY 143 = 14000 := by decide

theorem test_slot_addresses : shop.addressed 59 = some 59 ∧ shop.addressed (32768 + 2 * 256 + 12) = some 59 ∧
    shop.addressed 143 = some 143 ∧ shop.addressed 144 = none ∧ shop.addressed (32768 + 25) = none ∧
    shop.addressed (32768 + 2 * 256) = none := by decide +kernel
theorem test_travel_times : travelTime 0 1500 750 = 0 ∧ travelTime 1 1500 750 = 74 ∧ travelTime 751 1500 750 = 2002 ∧
    travelTime 1200 1500 750 = 2530 ∧ travelTime 2001 1500 750 = 3267 ∧ travelTime 3000 1500 750 = 4000 ∧
    travelTime 14251 1500 750 = 11501 := by decide +kernel
theorem test_limits : (layoutOfWords recordA).stepLimit .west .travelPick 8250 = 16850 ∧
    (layoutOfWords recordA).stepLimit .west .travelOnly 2001 = 6901 ∧
    (layoutOfWords recordA).stepLimit .east .travelHover 11500 = 16501 ∧
    (layoutOfWords recordA).stepLimit .west .place 0 = 5000 ∧
    (layoutOfWords recordA).stepLimit .east .travelPut 7750 = 15751 := by decide +kernel
theorem test_book_request_header : headerWord ⟨0x21, [0x0A32, 1, 0x25, 0, 0]⟩ = 0x2105 := by decide

/-- What a state shows of a gantry's runway: its state, its position, its reservation and the target of its current step. -/
def runwayView (o : Host.Outcome State Fault Refusal) (g : Gantry) : Option (GantryState × Option Nat × Option Span × Option Nat) :=
  match o with
  | .next t => some ((t.gantry g).state, (t.gantry g).position, (t.gantry g).reservation,
      (t.gantry g).current.map Machine.Step.target)
  | _ => none

/-- The verdict and the limit that a state shows of a gantry's current step. -/
def stepView (o : Host.Outcome State Fault Refusal) (g : Gantry) : Option (Option Verdict × Option Nat) :=
  match o with
  | .next t => some (((t.gantry g).current.bind Machine.Step.request).map Request.verdict,
      ((t.gantry g).current.bind Machine.Step.issued).map Issued.limit)
  | _ => none

/-- TABLE 5.9 at 500,000: the east hover is due while the west gantry is IDLE at 15,000. -/
def yieldCase : State :=
  { closedShop with
    clock := 500000
    gantries :=
      ⟨{ idleAt 15000 13500 16500 with lastDirection := some .east, lastCompletion := some 480000 },
       { idleAt 27500 26000 29000 with
         state := .dwell
         current := some ⟨.travelHover, 16000, none, some .saw2, none, none⟩
         dwellEnd := some ⟨499000, 1000⟩ }⟩ }

theorem test_yield : runwayView (exec (.dwellEnd .east) yieldCase) .west =
      some (.stepping, some 15000, some ⟨11499, 16500⟩, some 12999) ∧
    stepView (exec (.dwellEnd .east) yieldCase) .west = some (none, some 6901) ∧
    stepView (exec (.dwellEnd .east) yieldCase) .east = some (some .waiting, none) := by decide +kernel

/-- TABLE 5.10 at 420,300: the east pick is due while the west gantry waits with a request that overlaps. -/
def crossingCase : State :=
  { closedShop with
    clock := 420300
    gantries :=
      ⟨{ idleAt 12000 10500 13500 with
         state := .waitGrant
         task := some ⟨.book .saw1 1, 400000, .picking, some 59, none, 0, none⟩
         current := some ⟨.travelPick, 20250, some 59, none, some ⟨⟨10500, 21750⟩, .waiting⟩, none⟩ },
       { idleAt 22500 21000 24000 with
         state := .dwell
         task := some ⟨.remnantReturn .saw1, 410000, .outfeedPick, none, some 130, 0, some 4⟩
         current := some ⟨.travelPick, 9000, none, some .saw1, none, none⟩
         lastDirection := some .west
         lastCompletion := some 419800
         dwellEnd := some ⟨419800, 500⟩ }⟩ }

theorem test_crossing : runwayView (exec (.dwellEnd .east) crossingCase) .east =
      some (.stepping, some 22500, some ⟨21000, 24751⟩, some 23251) ∧
    stepView (exec (.dwellEnd .east) crossingCase) .east = some (none, some 5003) ∧
    stepView (exec (.dwellEnd .east) crossingCase) .west = some (some .waiting, none) := by decide +kernel

/-- TABLE 5.11: the west pick at slot 59 is outstanding, issued at 300,000. -/
def pickCase : State :=
  { withSlot closedShop 59 ⟨[board], false, some ⟨.west, .pick⟩⟩ with
    clock := 316850
    gantries :=
      ⟨{ idleAt 12000 10500 21750 with
         state := .stepping
         task := some (bookTask .picking (some 59))
         current := some ⟨.travelPick, 20250, some 59, none, none, some ⟨7, ⟨10500, 21750⟩, 300000, 16850⟩⟩ },
       parkedEast⟩ }

theorem test_overrun : runwayView (exec (.overrun .west) pickCase) .west =
    some (.faulted, some 12000, some ⟨10500, 21750⟩, none) := by decide +kernel
theorem test_no_overrun_a_millisecond_before : runwayView (exec (.overrun .west) { pickCase with clock := 316849 }) .west =
    some (.stepping, some 12000, some ⟨10500, 21750⟩, some 20250) := by decide +kernel
theorem test_step_done_outside_span : runwayView (exec (.stepDone (.gantry .west) [7, 22000, 0]) pickCase) .west =
    some (.faulted, some 12000, some ⟨10500, 21750⟩, none) := by decide +kernel
theorem test_step_done_at_target :
    (runwayView (exec (.stepDone (.gantry .west) [7, 20250, 0]) pickCase) .west).map (fun v => v.2.1) = some (some 20250) := by
  decide +kernel

/-! ## Witnesses: steps, power-on and what every state keeps -/

theorem witness_step_runs_front_command :
    (∃ c rest, ({ State.reset with pending := [.cellClockTick] } : State).pending = c :: rest) ∧ State.reset.pending = [] :=
  ⟨⟨_, _, rfl⟩, rfl⟩

/-- A write of record A that power loss has cut short. -/
def writing : State := { shop with loader := .writing, writeRecord := some recordA }

theorem witness_power_on : shop.loader ≠ .writing ∧ writing.loader = .writing ∧ writing.writeRecord = some recordA ∧
    recordA.length = 44 ∧ writing.memory.length = 97 := by decide +kernel

/-- The cell before a command that changes its state. -/
theorem witness_runway_sound : shop.RunwaySound where
  noLayout := ⟨fun h => (by cases h), fun h => (by cases h)⟩
  reading := fun h => (by cases h)
  valid := fun l h => by cases h; decide +kernel
  before := fun h => (by cases h)
  apart := fun _ => ⟨⟨0, 3000⟩, ⟨39000, 42000⟩, rfl, rfl, by decide⟩
  inside := fun _ g => by cases g <;> exact ⟨_, _, rfl, rfl, by decide +kernel⟩
  waiting := fun g q h => by cases g <;> cases h
  outstanding := fun g i h => by cases g <;> cases h

/-- The stocked cell at work: the west gantry is STEPPING to pick the board on slot 5 for the book of tag 40, and its STEP_DONE is the
next command. -/
def busyShop : State :=
  { withSaw (withSlot stocked 5 ⟨[board], false, some ⟨.west, .pick⟩⟩) .saw1 (sawWith [assembling]) with
    gantries := ⟨stepping (issuedStep .travelPick (some 5) none) (some (bookTask .picking (some 5))) none, idleAt 40500 39000 42000⟩
    pending := [.stepDone (.gantry .west) [7, 11250, 0]] }

theorem busyShop_slot (n : Nat) : busyShop.slot n = if n = 5 then ⟨[board], false, some ⟨.west, .pick⟩⟩ else emptySlot := by
  simp only [State.slot, busyShop, withSaw, withSlot, stocked, shop, List.getD_eq_getElem?_getD, List.getElem?_set, List.getElem?_replicate,
    List.length_set, List.length_replicate]
  split
  · subst_vars; simp
  · have : n ≠ 5 := fun h => by omega
    simp [this]; split <;> rfl

theorem busyShop_saw (w : Saw) : busyShop.saw w = sawWith (if w = .saw1 then [assembling] else []) := by cases w <;> rfl

theorem busyShop_runway : busyShop.RunwaySound where
  noLayout := ⟨fun h => (by cases h), fun h => (by cases h)⟩
  reading := fun h => (by cases h)
  valid := fun l h => by cases h; decide +kernel
  before := fun h => (by cases h)
  apart := fun _ => ⟨⟨0, 12750⟩, ⟨39000, 42000⟩, rfl, rfl, by decide⟩
  inside := fun _ g => by cases g <;> exact ⟨_, _, rfl, rfl, by decide +kernel⟩
  waiting := fun g q h => by cases g <;> cases h
  outstanding := fun g i h => by cases g <;> cases h; exact ⟨rfl, rfl⟩

theorem busyShop_slots : busyShop.SlotsSound :=
  ⟨by decide +kernel, by decide +kernel⟩

theorem plain_saw (books : List Book) (h : books = [] ∨ books = [assembling]) : (sawWith books).Sound where
  limit := ⟨(by decide : 1 ≤ 1), (by decide : 1 ≤ 3)⟩
  windows := ⟨(by decide : 0 ≤ 60000), (by decide : 0 ≤ 60000), (by decide : 0 ≤ 60000)⟩
  pacing := Nat.zero_le 3
  order := by rcases h with rfl | rfl <;> [exact ⟨0, 0, 0, by decide⟩; exact ⟨0, 1, 0, by decide⟩]
  tags := by rcases h with rfl | rfl <;> decide
  books := by
    intro b hb
    rcases h with rfl | rfl
    · cases hb
    · cases List.mem_singleton.mp hb
      exact ⟨by decide, by decide, rfl, fun h => by cases h⟩
  offers := Nat.zero_le 2
  waiting := by intro o ho; cases ho

theorem busyShop_saws : busyShop.SawsSound := by
  intro w
  rw [busyShop_saw]
  exact plain_saw _ (by cases w <;> decide)

theorem busyShop_work : busyShop.WorkSound where
  gantry := fun g => by
    cases g
    · exact
        { task := fun t h => by
            cases h
            exact { head := rfl, kind := ⟨_, _, rfl⟩, blank := by decide, destination := (nomatch ·), outfeed := (nomatch ·) }
          empty := (nomatch ·)
          fault := by decide
          work := ⟨rfl, .inr (.inl ⟨_, _, rfl, rfl, ⟨rfl, rfl, rfl⟩, ⟨rfl, rfl, rfl⟩, rfl, rfl, (nomatch ·)⟩)⟩ }
    · exact
        { task := fun t h => (nomatch h), empty := fun _ => rfl, fault := by decide, work := ⟨⟨rfl, rfl, rfl, rfl⟩, rfl, rfl⟩ }
  puts := fun g n => by
    rw [busyShop_slot]
    cases g <;> by_cases h : n = 5 <;> simp [h, emptySlot, busyShop, State.gantry, PerGantry.get, stepping, bookTask, idleAt,
      GantryRecord.initial]
  picks := fun g n => by
    rw [busyShop_slot]
    cases g <;> by_cases h : n = 5 <;> simp [h, emptySlot, busyShop, State.gantry, PerGantry.get, stepping, bookTask, idleAt,
      GantryRecord.initial, eq_comm]
  picked := fun g n => by
    rw [busyShop_slot]
    by_cases h : n = 5 <;> simp [h, emptySlot]
  books := fun g w tag => by
    rw [busyShop_saw]
    cases g <;> cases w <;> simp [busyShop, State.gantry, PerGantry.get, stepping, bookTask, idleAt, GantryRecord.initial, sawWith,
      assembling, SawRecord.initial]
  offers := fun g w => by
    rw [busyShop_saw]
    cases g <;> cases w <;> simp [busyShop, State.gantry, PerGantry.get, stepping, bookTask, idleAt, GantryRecord.initial, sawWith,
      assembling, SawRecord.initial]
  closed := fun h => by rcases h with h | h <;> cases h

theorem busyShop_store : busyShop.StoreSound where
  pool := by
    have h : busyShop.livePanels = [board] := by decide +kernel
    rw [h, show busyShop.free.order = List.range' 1 4095 from List.append_nil _, show busyShop.blanks = [] from rfl, List.append_nil,
      List.range_eq_range', show poolSize = 4095 + 1 from rfl, List.range'_succ]
    exact List.perm_append_comm
  serials := by decide +kernel
  range := by decide +kernel
  counter := by decide
  limits := fun n => by
    rw [State.height, busyShop_slot]
    by_cases h : n = 5 <;> simp only [h, if_true, if_false] <;> decide +kernel
  room := fun g n h => by cases g <;> cases h

theorem busyShop_sound : busyShop.Sound := ⟨busyShop_runway, busyShop_slots, busyShop_saws, busyShop_work, busyShop_store⟩

theorem witness_sound : busyShop.Sound ∧ (nextOf (step busyShop)).isSome = true := ⟨busyShop_sound, by decide +kernel⟩

theorem witness_sound_ports : shop.PortsSound ∧ step shop = .next shop := by
  refine ⟨fun p => ?_, rfl⟩
  have : shop.port p = portUp := by cases p with
    | planner => rfl
    | saw w => cases w <;> rfl
    | gantry g => cases g <;> rfl
  rw [this]
  exact ⟨by decide, by decide, by decide, by decide, by decide, by decide⟩

theorem witness_sound_slots : shop.SlotsSound ∧ step shop = .next shop := by
  refine ⟨⟨by decide +kernel, fun r hr h => ?_⟩, rfl⟩
  rw [List.eq_of_mem_replicate hr] at h ⊢
  rfl

theorem witness_sound_locator : shop.LocatorSound ∧ step shop = .next shop := by
  refine ⟨⟨by decide +kernel, fun ws hw => ?_⟩, rfl⟩
  rw [List.eq_of_mem_replicate (show ws ∈ List.replicate 32 (List.replicate 4 Way.invalid) from hw)]
  refine ⟨rfl, ?_, ?_⟩
  · exact List.Perm.refl []
  · exact List.nodup_nil

theorem witness_duties : shop.duties = .none ∧ step shop = .next shop := ⟨rfl, rfl⟩

theorem witness_own_commands : exec .cellClockTick shop = .next shop.tick := rfl

/-- The cell state after a command. -/
def cellAfter (c : Instr) (s : State) : Option CellState :=
  match exec c s with
  | .next t => some t.cell
  | _ => none

/-- The state right after reset, its loader IDLE, the planner's carrier UP. -/
def started : State := { State.reset with loader := .idle, ports := .all portUp }

theorem witness_cell_state_changes :
    cellAfter (.powerOn 0) shop = some .noLayout ∧
    cellAfter (.layoutSet .planner (recordA ++ [0])) started = some .closed ∧
    cellAfter (.openCell .planner) closedShop = some .opened ∧
    cellAfter (.haltCell .planner) shop = some .halted ∧
    cellAfter (.resumeCell .planner) { shop with cell := .halted } = some .opened ∧
    cellAfter (.closeCell .planner) shop = some .closed ∧
    cellAfter (.cellReset .planner) shop = some .closed := by decide +kernel

/-- The layout memory that a write of a record leaves agrees with its CRC word. -/
theorem image_agrees (r : List Word) (h : r.length = 44) : crc ((memoryImage r).take 96) = (memoryImage r).getD 96 0 := by
  have tail : ∀ x : List Word, x.length = 96 → crc ((x ++ [crc x]).take 96) = (x ++ [crc x]).getD 96 0 := fun x h => by
    rw [List.take_left' h, List.getD_eq_getElem?_getD, List.getElem?_append_right (by omega)]
    simp [h]
  exact tail _ (by simp [h])

/-- A power-on read is in progress, over a memory that holds record A. -/
def reading : State := { State.reset with memory := memoryImage recordA }

/-- The layout that the read of record A makes active. -/
def firstShop : State := State.firstLayout { reading with loader := .idle } (layoutOfWords recordA)

theorem reading_ends : reading.readEnd true = firstShop.settle := by
  have h0 : (memoryImage recordA).getD 0 0xFFFF ≠ 0xFFFF := by decide
  have h1 : memoryAgrees (memoryImage recordA) = true := decide_eq_true (image_agrees recordA rfl)
  have h2 : (memoryImage recordA).take 44 = recordA := by
    unfold memoryImage
    rw [List.append_assoc]
    exact List.take_left' rfl
  have h3 : (layoutOfWords recordA).firstFailure = none := by decide +kernel
  have h4 : State.judgeMemory { reading with loader := .idle } (memoryImage recordA) = firstShop := by
    unfold State.judgeMemory
    rw [if_neg h0, if_neg (by rw [h1]; decide), h2, h3]
    rfl
  unfold State.readEnd
  rw [if_pos (show reading.loader = .reading from rfl)]
  exact congrArg State.settle h4

theorem witness_layout_read_changes_cell : cellAfter (.layoutReadEnd true) reading = some .closed := by
  simp only [cellAfter, exec, execLayoutReadEnd, reading_ends]
  decide +kernel

/-! ## Witnesses: station links -/

/-- A frame of a STATUS_PEEK as it stands on the link. -/
def peek : Frame := ⟨0x42, []⟩

theorem witness_candidate_frame :
    (∀ ws ∈ [[0x4200], List.replicate 64 (0 : Word), [0x4200, 0], peek.words],
      1 ≤ ws.length ∧ ws.length ≤ 64 ∧ ws ≠ [0x0F0F] ∧ ws ≠ [0x0F00]) ∧
    (shop.port .planner).buffer = [] ∧ (shop.port .planner).discarding = false := by decide +kernel

theorem test_peek_is_received : (nextOf (exec (.frameReceived .planner peek.words) shop) =
    some (withPort shop .planner { portUp with inbound := [peek] })) := by decide +kernel

theorem test_fifth_frame_overflows :
    nextOf (exec (.frameReceived .planner peek.words)
      (withPort shop .planner { portUp with inbound := [peek, peek, peek, peek] })) =
    some (withPort shop .planner
      { portUp with inbound := [peek, peek, peek, peek], flags := [.inboundOverflow], attention := true }) := by
  decide +kernel

theorem witness_frame_round_trip : (⟨0xFF, List.replicate 62 0⟩ : Frame).payload.length ≤ 62 ∧
    (⟨0x42, []⟩ : Frame).payload.length ≤ 62 ∧ (shop.port .planner).buffer = [] ∧
    (shop.port .planner).discarding = false ∧ (shop.port .planner).inbound.length < 4 := by decide

theorem witness_crc_change : (0 : Word) ≠ 1 := by decide

/-- A port that discards the words that arrive. -/
def discarding : PortRecord := { portUp with discarding := true }

theorem witness_buffer_and_flow : (List.replicate 64 (0 : Word)).length = 64 ∧ portUp.buffer = [] ∧ portUp.discarding = false ∧
    discarding.buffer = [] ∧ discarding.discarding = true ∧ (0x0F0E : Word) ≠ 0x0F0F ∧ (0x0F0E : Word) ≠ 0x0F00 ∧
    ({ portUp with buffer := [0] } : PortRecord).buffer ≠ [] := by decide

/-- A frame of an outbound queue. -/
def waitingFrame : OutFrame := ⟨.reply (.accepted 0x0F 0 none), 1, 1⟩

/-- A port that is sending the head of a full outbound queue, with a report in its pending list. -/
def fullPort : PortRecord :=
  { portUp with
    outbound := List.replicate 8 waitingFrame
    sending := true
    pushedWaiting := [.offerReport ⟨1, 200, 100, .discarded, some .pickMiss, 0, none⟩] }

theorem witness_outbound_queue :
    (∃ f fs, fullPort.sending = true ∧ fullPort.outbound = f :: fs ∧
      ∃ m ms, fullPort.pushedWaiting = m :: ms) ∧
    (∃ f fs, ({ fullPort with pushedWaiting := [] } : PortRecord).outbound = f :: fs ∧
      ({ fullPort with pushedWaiting := [] } : PortRecord).pushedWaiting = []) ∧
    portUp.sending = false ∧ fullPort.Sound ∧ fullPort.outbound.length = 8 ∧ portUp.Sound ∧ portUp.outbound.length < 8 :=
  ⟨⟨_, _, rfl, rfl, _, _, rfl⟩, ⟨_, _, rfl, rfl⟩, rfl,
    ⟨by decide, by decide, by decide, by decide, by decide, by decide⟩, rfl,
    ⟨by decide, by decide, by decide, by decide, by decide, by decide⟩, by decide⟩

/-- A fault record without a second cause. -/
def fault : FaultRecord := ⟨.overrun, 0, 0, .stepping, none, none, none, none, none⟩

theorem witness_carrier : shop.duties = .none ∧ (∀ p ∈ [Port.planner, .saw .saw4, .gantry .west, .gantry .east],
      (shop.port p).carrierUp = true) ∧
    (∀ q ∈ [GantryState.offline, .stepping, .idle, .parked],
      ((withGantry shop .west { idleAt 1500 0 3000 with state := q }).gantry .west).state = q) ∧
    (shop.gantry .east).state ≠ .waitGrant ∧
    ((withGantry shop .west { idleAt 1500 0 3000 with state := .faulted, fault := some fault }).gantry .west).fault =
      some fault ∧
    (State.reset.port .planner).carrierUp = false ∧ (State.reset.port (.saw .saw1)).carrierUp = false ∧
    State.reset.duties = .none := by decide +kernel

theorem witness_carrier_return :
    State.NothingToGive (State.reset.setPort (.saw .saw1) { PortRecord.initial with carrierUp := true }) :=
  nothing_of (.inl (by decide +kernel))

theorem witness_unknown_message : inboundCode 0x11 = false ∧ inboundCode 0 = false ∧ shop.Ready .planner ⟨0x11, []⟩ 1 :=
  ⟨by decide, by decide, ready_of (by decide +kernel)⟩

theorem witness_message_checks :
    (shop.Ready (.saw .saw1) ⟨0x31, [0]⟩ 1 ∧ Message.gantryReady.onPort (.saw .saw1) = false) ∧
    (shop.Ready .planner ⟨0x0D, []⟩ 1 ∧ ([] : List Word).length ≠ Message.gantryPark.payloadLength []) ∧
    (shop.Ready .planner ⟨0x0E, [1, 0, 3, 0, 1]⟩ 1 ∧ Message.gantryRestore.checkedFields = [(0, 1)] ++ (2, 2) :: [(4, 1)] ∧
      word [1, 0, 3, 0, 1] 0 ≤ 1 ∧ 2 < word [1, 0, 3, 0, 1] 2) ∧
    (State.reset.Ready .planner ⟨0x0D, [0]⟩ 1 ∧ Message.gantryPark.accepts State.reset.cell = false) ∧
    (shop.Ready .planner ⟨0x0F, [10]⟩ 1 ∧ namesCommand [10] = false ∧ Message.cellCommand.checkedFields = [] ++ (0, 9) :: []) ∧
    (shop.Ready (.saw .saw1) CellCommand.openCell.frame 1 ∧ shop.Ready .planner CellCommand.openCell.frame 1 ∧
      shop.cell ≠ .closed) ∧
    State.reset.Ready .planner CellCommand.pinOn.frame 1 ∧ State.reset.cell = .noLayout :=
  ⟨⟨ready_of (by decide +kernel), rfl⟩, ⟨ready_of (by decide +kernel), by decide⟩,
    ⟨ready_of (by decide +kernel), rfl, by decide, by decide⟩, ⟨ready_of (by decide +kernel), by decide⟩,
    ⟨ready_of (by decide +kernel), by decide, rfl⟩,
    ⟨ready_of (by decide +kernel), ready_of (by decide +kernel), by decide⟩, ready_of (by decide +kernel), rfl⟩

theorem witness_no_room : fullPort.outbound.length = 8 ∧ fullPort.inbound = [] ∧
    ({ fullPort with inbound := [peek] } : PortRecord).inbound ≠ [] ∧
    ({ portUp with inbound := [peek] } : PortRecord).inbound.head? = some peek ∧ peek ≠ ⟨0x41, []⟩ := by decide

theorem test_reply_words : (Reply.frames .planner (.refused 0x0D .gantryState 2)).map OutFrame.frame =
      [some ⟨0x82, [0x0D, BitVec.ofNat 16 RefusalCode.gantryState.number, 2]⟩] ∧
    (Reply.frames (.saw .saw1) (.accepted 0x23 1 none)).map OutFrame.frame = [some ⟨0x81, [0x23, 1]⟩] ∧
    (Reply.frames .planner (.withdrawReply (List.replicate 31 1))).map OutFrame.partWord = [[0x0102], [0x0202]] := by decide +kernel

/-! ## Witnesses: geometry and the layout -/

theorem witness_spans : min 5 9 ≤ 5 ∧ 5 ≤ max 5 9 ∧ min 5 9 ≤ 9 ∧ 9 ≤ max 5 9 := by decide

theorem witness_slot_addresses : shop.layout = some (layoutOfWords recordA) ∧ (layoutOfWords recordA).lanes ≤ 8 ∧
    1 ≤ (layoutOfWords recordA).bays ∧ (layoutOfWords recordA).bays ≤ 32 ∧
    143 < (layoutOfWords recordA).lanes * (layoutOfWords recordA).bays ∧ 511 < 512 ∧ 15 < 16 ∧ 63 < 64 := by decide

theorem test_first_and_last_slot : shop.addressed 0 = some 0 ∧ shop.addressed (32768 + 1) = some 0 ∧
    shop.addressed (32768 + 5 * 256 + 24) = some 143 ∧ shop.addressed (32768 + 6 * 256 + 1) = none ∧
    shop.addressed 511 = none := by decide +kernel

theorem witness_layout_round_trip : recordA.length = 44 ∧ (layoutOfWords recordA).words = recordA := by decide +kernel

/-- Every word fits a word, so that the fields that any 44 words carry fit theirs. -/
theorem witness_layout_fits (ws : List Word) :
    let l := layoutOfWords ws
    let fits := fun ns : List Nat => ∀ n ∈ ns, n < 65536
    fits [l.runwayLength, l.margin, l.lanes, l.bays, l.bayPitch, l.originX, l.laneY0, l.lanePitch, l.maxStackHeight, l.dwellReverse,
      l.dwellHead, l.overrunSlack] ∧ l.hoverLimit < 4294967296 ∧
    (∀ g, let q := l.gantries.get g
      fits [q.half, q.limLo, q.limHi, q.vmax, q.accel, q.pickTime, q.placeTime]) ∧
    ∀ w, let p := l.saws.get w
      fits [p.present, p.infeedX, p.outfeedX, p.tableY] := by
  have h : ∀ i, word ws i < 65536 := fun i => (ws.getD i 0).isLt
  refine ⟨?_, ?_, fun g => ?_, fun w => ?_⟩
  · simp [layoutOfWords, h]
  · have := h 26
    have := h 27
    simp only [layoutOfWords]
    omega
  · cases g <;> simp [layoutOfWords, gantryOfWords, PerGantry.get, h]
  · cases w <;> simp [layoutOfWords, sawOfWords, PerSaw.get, h]

theorem witness_yield : shop.layout = some (layoutOfWords recordA) ∧ (layoutOfWords recordA).firstFailure = none ∧
    ((layoutOfWords recordA).gantries.get .west).reaches (shop.pos .west) = true ∧
    ((layoutOfWords recordA).gantries.get .east).reaches (shop.pos .east) = true ∧
    (∀ x ∈ [8000, 40500], ((layoutOfWords recordA).gantries.get .east).reaches x = true) ∧
    ∀ x ∈ [1500, 34000], ((layoutOfWords recordA).gantries.get .west).reaches x = true := by decide +kernel

/-- A memory whose CRC word differs from the CRC of the words before it. -/
def spoiled : List Word := memoryImage recordA |>.set 96 (crc (recordA ++ List.replicate 52 0) + 1)

theorem spoiled_disagrees : crc (spoiled.take 96) ≠ spoiled.getD 96 0 := by
  have tail : ∀ x : List Word, x.length = 96 →
      crc (((x ++ [crc x]).set 96 (crc x + 1)).take 96) ≠ ((x ++ [crc x]).set 96 (crc x + 1)).getD 96 0 := fun x h => by
    have h' : (x ++ [crc x]).set 96 (crc x + 1) = x ++ [crc x + 1] := by
      rw [List.set_append_right _ _ (by omega)]
      simp [h]
    rw [h', List.take_left' h, List.getD_eq_getElem?_getD, List.getElem?_append_right (by omega)]
    simp [h]
  exact tail (recordA ++ List.replicate 52 0) rfl

/-- Record A with a margin that is out of range. -/
def badRecord : List Word := recordA.set 1 99

theorem witness_layout_read :
    (reading.duties = .none ∧ (∀ g ∈ [Gantry.west, .east], (reading.gantry g).state = .offline) ∧
      reading.memory.length = 97 ∧ reading.loader = .reading ∧ reading.memory.getD 0 0 ≠ 0xFFFF ∧
      (layoutOfWords (reading.memory.take 44)).firstFailure = none) ∧
    (started.loader ≠ .reading ∧ started.memory.length = 97 ∧ State.reset.memory.getD 0 0 = 0xFFFF) ∧
    (spoiled.length = 97 ∧ spoiled.getD 0 0 ≠ 0xFFFF) ∧
    (memoryImage badRecord).length = 97 ∧ (memoryImage badRecord).getD 0 0 ≠ 0xFFFF ∧
      (layoutOfWords ((memoryImage badRecord).take 44)).firstFailure = some 1 := by decide +kernel

theorem witness_layout_read_crc : crc (reading.memory.take 96) = reading.memory.getD 96 0 ∧
    crc (spoiled.take 96) ≠ spoiled.getD 96 0 ∧
    crc ((memoryImage badRecord).take 96) = (memoryImage badRecord).getD 96 0 :=
  ⟨image_agrees _ rfl, spoiled_disagrees, image_agrees _ rfl⟩

theorem witness_layout_write : writing.writeRecord = some recordA ∧ writing.loader = .writing ∧
    ([] : List Word) ≠ recordA ++ List.replicate 52 0 ++ [crc (recordA ++ List.replicate 52 0)] ∧
    ({ writing with loader := .idle } : State).writeRecord = some recordA ∧
    ({ writing with loader := .idle } : State).loader ≠ .writing :=
  ⟨rfl, rfl, by simp, rfl, by decide⟩

theorem witness_stored_layout : recordA.length = 44 ∧ writing.loader = .writing ∧ writing.writeRecord = some recordA ∧
    (layoutOfWords recordA).firstFailure = none := by decide +kernel

/-- The payload of a LAYOUT_SET. -/
def layoutPayload (record : List Word) (store : Word) : List Word := record ++ [store]

/-- The hypotheses that the statements about a LAYOUT_SET share. -/
def asksLayout (s : State) (ws : List Word) : Prop :=
  s.Ready .planner ⟨0x01, ws⟩ 1 ∧ ws.length = 45 ∧ word ws 44 ≤ 1 ∧ (s.cell = .noLayout ∨ s.cell = .closed)

theorem asks_of {s : State} {ws : List Word}
    (h : s.duties = .none ∧ ((s.port .planner).inbound = [] ∨ (s.port .planner).inbound.head? = some ⟨0x01, ws⟩) ∧
      (s.port .planner).outbound.length + 1 ≤ 8)
    (h' : ws.length = 45 ∧ word ws 44 ≤ 1 ∧ (s.cell = .noLayout ∨ s.cell = .closed)) : asksLayout s ws :=
  ⟨ready_of h, h'⟩

/-- The closed cell with its last slot piled 10,000 high and more. -/
def piled : State :=
  { withSlot closedShop 143 ⟨List.replicate 40 board, false, none⟩ with kinds := [(1, ⟨3, 300, 2800, 2070⟩)] }

/-- The closed cell with a gantry FAULTED and its reservation frozen where it stood. -/
def frozenAt (g : Gantry) (x lo hi : Nat) : State :=
  withGantry closedShop g { idleAt x lo hi with state := .faulted, frozen := true, fault := some fault }

/-- Record A with two bays fewer. -/
def narrowRecord : List Word := recordA.set 17 22

theorem witness_layout_set_refused :
    (asksLayout State.reset (layoutPayload recordA 0) ∧ State.reset.loader = .reading) ∧
    (asksLayout { writing with cell := .closed } (layoutPayload recordA 1) ∧ writing.loader = .writing ∧
      word (layoutPayload recordA 1) 44 = 1) ∧
    (asksLayout closedShop (layoutPayload badRecord 1) ∧ closedShop.loader = .idle ∧
      (layoutOfWords ((layoutPayload badRecord 1).take 44)).firstFailure = some 1) ∧
    (asksLayout piled (layoutPayload narrowRecord 0) ∧ (layoutOfWords narrowRecord).firstFailure = none ∧
      (layoutOfWords narrowRecord).bays ≠ (layoutOfWords recordA).bays ∧ 143 < piled.slots.length ∧
      (piled.slot 143).stack ≠ [] ∧ ∀ m, m < 143 → (piled.slot m).stack = []) ∧
    (asksLayout piled (layoutPayload (recordA.set 22 11999) 0) ∧
      (layoutOfWords (recordA.set 22 11999)).firstFailure = none ∧ 143 < piled.slots.length ∧
      (layoutOfWords (recordA.set 22 11999)).maxStackHeight < piled.height 143) :=
  ⟨⟨asks_of (by decide +kernel) (by decide +kernel), rfl⟩,
    ⟨asks_of (by decide +kernel) (by decide +kernel), rfl, by decide⟩,
    ⟨asks_of (by decide +kernel) (by decide +kernel), rfl, by decide +kernel⟩,
    ⟨asks_of (by decide +kernel) (by decide +kernel), by decide +kernel⟩,
    ⟨asks_of (by decide +kernel) (by decide +kernel), by decide +kernel⟩⟩

/-- The layouts of the four runway tests, over a store that is empty. -/
def runwayCase (s : State) (record : List Word) (west east : Bool) : Prop :=
  asksLayout s (layoutPayload record 0) ∧ s.loader = .idle ∧ s.layout = some (layoutOfWords recordA) ∧
    (layoutOfWords record).firstFailure = none ∧ (∀ n, n < s.slots.length → (s.slot n).stack = []) ∧
    (∀ n, n < s.slots.length → s.height n ≤ (layoutOfWords record).maxStackHeight) ∧
    s.outsideLimits (layoutOfWords record) .west = west ∧ s.outsideLimits (layoutOfWords record) .east = east

theorem witness_runway_tests :
    runwayCase closedShop (recordA.set 3 1501) true false ∧
    runwayCase closedShop (recordA.set 11 40499) false true ∧
    (runwayCase (frozenAt .east 39500 38000 42000) (recordA.set 0 41600) false false ∧
      (layoutOfWords (recordA.set 0 41600)).runwayLength <
        ((frozenAt .east 39500 38000 42000).recomputed (layoutOfWords (recordA.set 0 41600)) .east).hi) ∧
    (runwayCase (frozenAt .east 40500 3050 42000) (recordA.set 1 450) false false ∧
      ((frozenAt .east 40500 3050 42000).recomputed (layoutOfWords (recordA.set 1 450)) .west).hi ≤ 42000 ∧
      ((frozenAt .east 40500 3050 42000).recomputed (layoutOfWords (recordA.set 1 450)) .east).hi ≤ 42000 ∧
      ((frozenAt .east 40500 3050 42000).recomputed (layoutOfWords (recordA.set 1 450)) .east).lo ≤
        ((frozenAt .east 40500 3050 42000).recomputed (layoutOfWords (recordA.set 1 450)) .west).hi) :=
  ⟨⟨asks_of (by decide +kernel) (by decide +kernel), by decide +kernel⟩,
    ⟨asks_of (by decide +kernel) (by decide +kernel), by decide +kernel⟩,
    ⟨⟨asks_of (by decide +kernel) (by decide +kernel), by decide +kernel⟩, by decide +kernel⟩,
    ⟨⟨asks_of (by decide +kernel) (by decide +kernel), by decide +kernel⟩, by decide +kernel⟩⟩

theorem witness_first_layout_set : asksLayout started (layoutPayload recordA 0) ∧
    asksLayout started (layoutPayload recordA 1) ∧ started.cell = .noLayout ∧ started.layout = none ∧
    (started.gantry .west).state = .offline ∧ (started.gantry .east).state = .offline ∧ started.loader = .idle ∧
    (layoutOfWords ((layoutPayload recordA 1).take 44)).firstFailure = none :=
  ⟨asks_of (by decide +kernel) (by decide +kernel), asks_of (by decide +kernel) (by decide +kernel), rfl, rfl, rfl, rfl, rfl,
    by decide +kernel⟩

/-- The closed cell, its west gantry in DWELL before a yield. -/
def dwellYield : State :=
  withGantry closedShop .west
    { idleAt 1500 0 3000 with
      state := .dwell
      current := some ⟨.travelOnly, 4000, none, none, none, none⟩
      former := some .idle
      dwellEnd := some ⟨0, 500⟩ }

/-- Record A without saw 2. -/
def lessRecord : List Word := recordA.set 32 0

theorem witness_layout_set_replaces :
    (∀ p ∈ [(closedShop, layoutPayload recordA 0), (closedShop, layoutPayload narrowRecord 1), (dwellYield, layoutPayload recordA 0),
        (frozenAt .west 1500 0 2000, layoutPayload recordA 0), (closedShop, layoutPayload lessRecord 0)],
      p.2.length = 45 ∧ word p.2 44 ≤ 1 ∧ p.1.cell = .closed ∧ p.1.layout = some (layoutOfWords recordA) ∧
      p.1.layoutRefusal p.2 = none ∧ (∀ g ∈ [Gantry.west, .east],
        (p.1.gantry g).waits = false ∧ (p.1.gantry g).state ≠ .waitGrant)) ∧
    (layoutOfWords narrowRecord).bays ≠ (layoutOfWords recordA).bays ∧
    ((layoutOfWords recordA).saws.get .saw2).present = 1 ∧ ((layoutOfWords lessRecord).saws.get .saw2).present ≠ 1 := by
  decide +kernel

theorem witness_layout_set_replaces_ready : ∀ ws, closedShop.Ready .planner ⟨0x01, ws⟩ 1 :=
  fun _ => ready_of ⟨by decide, .inl rfl, by decide⟩

/-- Every port is up with empty queues and no consequence is due, so that each port is ready to answer any frame. -/
def calm (s : State) : Bool := decide (s.ports = .all portUp ∧ s.duties = .none)

theorem calm_ready {s : State} (h : calm s = true) (p : Port) (f : Frame) {k : Nat} (hk : k ≤ 8) : s.Ready p f k := by
  have h' := of_decide_eq_true h
  have hp : s.port p = portUp := by
    rw [State.port, h'.1]
    rcases p with _ | w | g
    · rfl
    · cases w <;> rfl
    · cases g <;> rfl
  exact ⟨h'.2, .inl (by rw [hp]; rfl), by rw [hp]; simpa [portUp, PortRecord.initial] using hk⟩

/-! ## Witnesses: the store -/

/-- One entry of a KIND_SET that defines a kind. -/
def kindEntry (code : Word) : List Word := [code, 1, 63, 600, 5600, 2200]

theorem witness_kind_set :
    calm closedShop = true ∧ calm piled = true ∧ closedShop.cell = .closed ∧ piled.cell = .closed ∧
    ([0] : List Word).length = 1 + 6 * word [0] 0 ∧
    (9 :: List.replicate 54 (0 : Word)).length = 1 + 6 * word (9 :: List.replicate 54 (0 : Word)) 0 ∧
    (2 :: (kindEntry 1023 ++ kindEntry 1024)).length = 1 + 6 * word (2 :: (kindEntry 1023 ++ kindEntry 1024)) 0 ∧
    word (2 :: (kindEntry 1023 ++ kindEntry 1024)) 1 = 1023 ∧ word (2 :: (kindEntry 1023 ++ kindEntry 1024)) 7 = 1024 ∧
    (1 :: kindEntry 1).length = 1 + 6 * word (1 :: kindEntry 1) 0 ∧ some ⟨63, 600, 5600, 2200⟩ ≠ piled.kind 1 ∧
    piled.kindInUse 1 = true ∧ closedShop.kindInUse 1 = false ∧
    (8 :: ([1, 2, 3, 4, 5, 6, 7, 8].flatMap kindEntry)).length =
      1 + 6 * word (8 :: ([1, 2, 3, 4, 5, 6, 7, 8].flatMap kindEntry)) 0 := by decide +kernel

theorem test_kind_set : (nextOf (exec (.kindSet .planner (1 :: kindEntry 5)) closedShop)).map (fun t => t.kind 5) =
    some (some ⟨63, 600, 5600, 2200⟩) := by decide +kernel

theorem test_kind_in_use_refused : (nextOf (exec (.kindSet .planner (1 :: kindEntry 1)) piled)).map (fun t =>
      (t.port .planner).outbound) =
    some [⟨.reply (.refused 0x03 .kindInUse 1), 1, 1⟩] := by decide +kernel

/-- One entry of an AREA_SET: an enabled window of 2^k slots. -/
def areaEntry (index address k : Word) : List Word := [index, 1, address, k, 0, 1]

/-- An AREA_SET of all eight windows. -/
def eightAreas : List Word := 8 :: ([0, 1, 2, 3, 4, 5, 6, 7].flatMap fun i => areaEntry i 143 8)

theorem witness_area_set :
    calm closedShop = true ∧ closedShop.cell = .closed ∧ closedShop.windows.length = 8 ∧
    (1 :: areaEntry 7 143 0).length = 1 + 6 * word (1 :: areaEntry 7 143 0) 0 ∧ (closedShop.addressed 143).isSome ∧
    (closedShop.addressed 144).isSome = false ∧
    eightAreas.length = 1 + 6 * word eightAreas 0 ∧ (∀ i, i < 8 → word eightAreas (1 + 6 * i) = i) ∧
    (1 :: areaEntry 8 0 0).length = 1 + 6 * word (1 :: areaEntry 8 0 0) 0 ∧
    (1 :: areaEntry 0 144 0).length = 1 + 6 * word (1 :: areaEntry 0 144 0) 0 ∧
    (1 :: areaEntry 0 0 9).length = 1 + 6 * word (1 :: areaEntry 0 0 9) 0 ∧
    word (1 :: areaEntry 0 0 9) 4 = 9 ∧ word (1 :: areaEntry 0 0 9) 3 = 0 := by decide +kernel

theorem test_base_aligned_down :
    (nextOf (exec (.areaSet .planner (1 :: areaEntry 7 143 4)) closedShop)).map (fun t => t.window 7) =
      some ⟨true, 128, 4, false, true⟩ := by decide +kernel

/-- The cell with its first window pick_only. -/
def pickOnlyShop : State :=
  { shop with windows := [⟨true, 128, 4, true, true⟩, ⟨true, 0, 8, false, false⟩] ++ List.replicate 6 .initial }

theorem witness_areas : shop.putArea 143 = some 0 ∧ shop.pickArea 143 = some 0 ∧ shop.putArea 127 = some 1 ∧
    pickOnlyShop.pickArea 128 = some 0 ∧ pickOnlyShop.putArea 128 = some 1 ∧ shop.pickArea 256 = none := by decide +kernel

/-- One raw entry of a STACK_REGISTER. -/
def rawEntry (kind : Word) : List Word := [kind, 0, 0]

/-- A STACK_REGISTER of sixteen boards, the greatest count. -/
def sixteenBoards (slot : Word) : List Word := [slot, 16] ++ (List.replicate 16 (rawEntry 1)).flatten

/-- A STACK_REGISTER of one remnant. -/
def oneRemnant (length width : Word) : List Word := [143, 1, 4096 + 1, length, width]

theorem witness_stack_register :
    calm shop = true ∧ shop.cell ≠ .noLayout ∧ (sixteenBoards 143).length = 2 + 3 * word (sixteenBoards 143) 1 ∧
    word (sixteenBoards 143) 1 = 16 ∧ shop.addressed (word (sixteenBoards 143) 0) = some 143 ∧ 143 < shop.slots.length ∧
    shop.hasPickArea 143 = true ∧ (shop.slot 143).claim = none ∧ (shop.slot 143).suspect = false ∧
    stackEntryAt (sixteenBoards 143) 15 = ⟨1, 0, 0, 0⟩ ∧ shop.kind 1 = some ⟨3, 180, 2800, 2070⟩ ∧
    (shop.slot 143).stack.length + 16 ≤ 40 ∧
    shop.height 143 + (((List.range 16).map fun i => shop.thickness (stackEntryAt (sixteenBoards 143) i).kind).sum) ≤
      shop.geom.maxStackHeight ∧
    16 ≤ shop.freeCount ∧ shop.livePanels.length + 16 ≤ 4096 ∧ 1 ≤ shop.serialCounter ∧ shop.serialCounter ≤ 16777215 ∧
    stackEntryAt (oneRemnant 2800 2070) 0 = ⟨1, 1, 2800, 2070⟩ ∧ stackEntryAt (oneRemnant 200 100) 0 = ⟨1, 1, 200, 100⟩ := by
  decide +kernel

theorem test_stack_register : (nextOf (exec (.stackRegister .planner ([143, 2] ++ rawEntry 1 ++ rawEntry 2)) stocked)).map (fun t =>
      ((t.slot 143).stack, t.free, t.serialCounter)) =
    some ([⟨1, 2, 1, .raw, 2800, 2070⟩, ⟨2, 3, 2, .raw, 2500, 1250⟩], ⟨3, []⟩, 4) := by decide +kernel

theorem test_serials_wrap : (nextOf (exec (.stackRegister .planner ([143, 2] ++ rawEntry 1 ++ rawEntry 1))
      { stocked with serialCounter := 16777215 })).map (fun t => ((t.slot 143).stack.map Panel.serial, t.serialCounter)) =
    some ([16777215, 2], 3) := by decide +kernel

/-- The cell with slot 5 claimed, or suspect, or piled with forty boards. -/
def claimedShop : State := withSlot shop 5 ⟨[board], false, some ⟨.west, .pick⟩⟩
def suspectShop : State := withSlot shop 5 ⟨[board], true, none⟩
def fullShop : State := withSlot shop 5 ⟨List.replicate 40 board, false, none⟩

/-- The cell whose pool has one record free. -/
def shortShop : State := { shop with free := ⟨4096, [7]⟩ }

/-- The cell with all windows disabled. -/
def openAreas : State := { shop with windows := List.replicate 8 .initial }

theorem witness_stack_register_refused :
    (∀ s ∈ [shop, claimedShop, suspectShop, fullShop, shortShop, openAreas], calm s = true ∧ s.cell ≠ .noLayout ∧
      s.addressed 5 = some 5) ∧
    (∀ ws ∈ [[5, 0], [5, 17] ++ List.replicate 51 (0 : Word), [144, 1, 1, 0, 0], [5, 1, 1, 0, 0], [5, 2, 1, 0, 0, 1, 0, 0],
        [5, 2, 1, 0, 0, 1024, 0, 0], [5, 2, 1, 0, 0, 3, 0, 0], [5, 2, 1, 0, 0, 4097, 2801, 2070]],
      ws.length = 2 + 3 * word ws 1) ∧
    shop.addressed 144 = none ∧ openAreas.hasPickArea 5 = false ∧ (claimedShop.slot 5).claim ≠ none ∧
    claimedShop.hasPickArea 5 = true ∧ (suspectShop.slot 5).claim = none ∧ (suspectShop.slot 5).suspect = true ∧
    stackEntryAt [5, 2, 1, 0, 0, 1024, 0, 0] 1 = ⟨1024, 0, 0, 0⟩ ∧ shop.kind 3 = none ∧
    stackEntryAt [5, 2, 1, 0, 0, 4097, 2801, 2070] 1 = ⟨1, 1, 2801, 2070⟩ ∧
    40 < (fullShop.slot 5).stack.length + 1 ∧ shortShop.freeCount < 2 ∧ (shortShop.slot 5).stack = [] := by decide +kernel

/-- The cell with three boards on slot 5. -/
def threeBoards : State := withSlot shop 5 ⟨[board, { board with serial := 2 }, { board with serial := 3 }], false, none⟩

theorem witness_withdraw :
    (∀ s ∈ [shop, claimedShop, suspectShop, threeBoards], calm s = true ∧ s.cell ≠ .noLayout ∧
      s.addressed 5 = some 5 ∧ 5 < s.slots.length ∧ (s.gantry .west).waits = false ∧ (s.gantry .east).waits = false) ∧
    (threeBoards.slot 5).claim = none ∧
    (threeBoards.slot 5).stack = [board] ++ [{ board with serial := 2 }, { board with serial := 3 }] ∧
    min 2 (threeBoards.slot 5).stack.length = 2 ∧ min 40 (threeBoards.slot 5).stack.length = 3 ∧
    (shop.slot 5).stack = [] ++ [] ∧ (claimedShop.slot 5).claim ≠ none ∧ (suspectShop.slot 5).suspect = true ∧
    (shop.slot 5).suspect = false ∧ shop.addressed 144 = none := by decide +kernel

theorem test_withdraw_top_first : (nextOf (exec (.stackWithdraw .planner [5, 2]) threeBoards)).map (fun t =>
      ((t.slot 5).stack, (t.port .planner).outbound)) =
    some ([board], [⟨.reply (.withdrawReply [3, 2]), 1, 1⟩]) := by decide +kernel

/-! ## Witnesses: queries and status records -/

/-- Record A's cell with saw 4 absent, saw 1 with the greatest number of books a list holds. -/
def busySaw : State := withSaw shop .saw1 (sawWith ((List.range 8).map fun n => queuedBook (BitVec.ofNat 16 n)))

/-- SLOT_REPLY gives a panel's serial, kind, origin, length and width (TABLE 2.4). -/
theorem test_slot_reply_panels :
    ((nextOf (exec (.slotQuery .planner [5, 0]) stocked)).map fun t => t.ports.planner.outbound.map fun f =>
      match f.message with
      | .reply (.slotReply v) => v.panels
      | _ => []) = some [[⟨1, 1, .raw, 2800, 2070⟩]] := by decide +kernel

theorem witness_queries : calm shop = true ∧ calm State.reset = false ∧ calm busySaw = true ∧ shop.cell ≠ .noLayout ∧
    (1023 : Word).toNat ≤ 1023 ∧ 1023 < (1024 : Word).toNat ∧ 39 < (40 : Word).toNat ∧ (39 : Word).toNat ≤ 39 ∧
    shop.addressed (143 : Word).toNat = some 143 ∧ shop.addressed (144 : Word).toNat = none ∧
    ((0 : Word).toNat = 0 ∨ 4 < (0 : Word).toNat) ∧ ((5 : Word).toNat = 0 ∨ 4 < (5 : Word).toNat) ∧
    (4 : Word).toNat = sawNumber .saw4 ∧ shop.sawPresent .saw4 = false ∧ (1 : Word).toNat = sawNumber .saw1 ∧
    busySaw.sawPresent .saw1 = true ∧ (busySaw.saw .saw1).books.length ≤ 8 ∧ (shop.saw .saw1).books.length ≤ 8 := by
  decide +kernel

theorem witness_queries_ready : State.reset.Ready .planner ⟨0x02, []⟩ 1 ∧ State.reset.Ready .planner ⟨0x10, []⟩ 2 ∧
    shop.Ready .planner ⟨0x0C, [1]⟩ 5 :=
  ⟨ready_of (by decide +kernel), ready_of (by decide +kernel), calm_ready (by decide +kernel) _ _ (by decide)⟩

theorem test_saw_query_frames : (nextOf (exec (.sawQuery .planner [1]) busySaw)).map (fun t => (t.port .planner).outbound.length) =
    some 5 := by decide +kernel

theorem witness_status : (∀ p ∈ [Port.planner, .saw .saw4, .gantry .east], State.reset.duties = .none ∧
      (State.reset.port p).inbound = [] ∧ (State.reset.port p).outbound.length + (if p = .planner then 3 else 1) ≤ 8) ∧
    (withPort shop .planner { portUp with flags := [.gantryFaulted], attention := true, crcCount := 3 }).duties = .none := by
  decide +kernel

theorem test_status_query_clears :
    (nextOf (exec (.statusQuery .planner [])
      (withPort shop .planner { portUp with flags := [.gantryFaulted], attention := true, crcCount := 3 }))).map (fun t =>
        ((t.port .planner).flags, (t.port .planner).attention, (t.port .planner).crcCount)) = some ([], false, 0) := by
  decide +kernel

/-- A port with places taken in its outbound queue. -/
def shortOf (s : State) (free : Nat) : State :=
  withPort s .planner { portUp with outbound := List.replicate (8 - free) waitingFrame }

theorem witness_short_of_room :
    8 < ((shortOf shop 2).port .planner).outbound.length + 3 ∧ 8 < ((shortOf shop 1).port .planner).outbound.length + 2 ∧
    (shortOf shop 1).cell ≠ .noLayout ∧ (1 : Word).toNat = sawNumber .saw1 ∧ (shortOf busySaw 4).sawPresent .saw1 = true ∧
    8 < ((shortOf busySaw 4).port .planner).outbound.length + (1 + ((busySaw.saw .saw1).books.length + 1) / 2) ∧
    (shortOf fullShop 1).addressed (5 : Word).toNat = some 5 ∧ ((shortOf fullShop 1).slot 5).claim = none ∧
    (31 : Word).toNat ≤ 40 ∧ 30 < min (31 : Word).toNat ((shortOf fullShop 1).slot 5).stack.length ∧
    30 < ((shortOf fullShop 1).slot 5).stack.length ∧ (shortOf closedShop 1).cell = .closed ∧
    (shortOf closedShop 1).areaSetFailure (1 :: areaEntry 7 143 0) = none ∧
    (1 :: areaEntry 7 143 0).length = 1 + 6 * word (1 :: areaEntry 7 143 0) 0 ∧ inboundCode 0x11 = false := by decide +kernel

/-! ## Witnesses: selection -/

/-- Boards on slots 5 and 11, of which slot 11 is nearer saw 2's infeed, and a remnant on slot 130. -/
def searched : State :=
  withSlot (withSlot (withSlot shop 5 ⟨[board], false, none⟩) 11 ⟨[{ board with serial := 2 }], false, none⟩) 130
    ⟨[⟨2, 3, 1, .remnant, 900, 600⟩], false, none⟩

theorem witness_searches : searched.slots.length = searched.geom.slotCount ∧ searched.scan .west .saw2 1 = some 11 ∧
    searched.scan .west .saw1 1 = some 5 ∧ searched.scan .west .saw1 2 = none ∧
    searched.remnantReturnSearch .west .saw1 1 = some 130 ∧ searched.returnSearch .west board (some 5) = some 5 ∧
    openAreas.returnSearch .west board (some 5) = none ∧ (openAreas.pickArea 5).isSome = false ∧
    openAreas.remnantReturnSearch .west .saw1 1 = none := by decide +kernel

theorem searched_locator : searched.LocatorSound := by
  refine ⟨by decide +kernel, fun ws hw => ?_⟩
  rw [List.eq_of_mem_replicate (show ws ∈ List.replicate 32 (List.replicate 4 Way.invalid) from hw)]
  exact ⟨rfl, List.Perm.refl [], List.nodup_nil⟩

/-- The searched cell with the ways of kind 1's set. -/
def located (ways : List Way) : State := { searched with locator := searched.locator.set 1 ways }

theorem located_sound (ws : List Way) (h : ws.length = 4 ∧ (ranksOf ws).isPerm (List.range' 1 (rankedCount ws)) = true ∧
    (tagsOf ws).Nodup) : (located ws).LocatorSound := by
  refine ⟨by simp [located, searched_locator.1], fun vs hv => ?_⟩
  rcases List.mem_or_eq_of_mem_set hv with hv | rfl
  · exact searched_locator.2 vs hv
  · exact ⟨h.1, List.isPerm_iff.mp h.2.1, h.2.2⟩

/-- A set whose ways all hold other kinds' tags, and the same with kind 1's tag at rank 1, pinned, and with its slot bare. -/
def otherWays : List Way := [.ranked 2 1 4, .ranked 1 2 4, .pinned 3 4, .ranked 3 4 4]
def ownWays : List Way := [.ranked 2 1 4, .ranked 1 0 11, .pinned 3 4, .invalid]
def pinnedWays : List Way := [.pinned 0 11, .invalid, .invalid, .invalid]
def staleWays : List Way := [.ranked 1 0 12, .invalid, .invalid, .invalid]
def stalePinned : List Way := [.pinned 0 12, .invalid, .invalid, .invalid]
def allPinned : List Way := [.pinned 1 4, .pinned 2 4, .pinned 3 4, .pinned 4 4]

theorem witness_source_search_sound : ∀ ws ∈ [otherWays, ownWays, pinnedWays, staleWays, stalePinned, allPinned],
    (located ws).LocatorSound := by
  intro ws h
  refine located_sound ws ?_
  revert ws
  decide +kernel

/-- What a search of saw 2 by the west gantry chooses for a kind, and the ways it leaves. -/
def searchView (s : State) (e : BookEntry) : SourceResult × List Way :=
  ((s.sourceSearch .west .saw2 e).1, (s.sourceSearch .west .saw2 e).2.locatorWays e.kind)

theorem test_source_search :
    searchView searched ⟨1, none⟩ = (.slot 11, [.ranked 1 0 11, .invalid, .invalid, .invalid]) ∧
    searchView searched ⟨2, none⟩ = (.none, List.replicate 4 .invalid) ∧
    searchView (located otherWays) ⟨1, none⟩ = (.slot 11, [.ranked 1 1 4, .ranked 3 0 11, .pinned 3 4, .ranked 2 4 4]) ∧
    searchView (located ownWays) ⟨1, none⟩ = (.slot 11, [.ranked 1 1 4, .ranked 2 0 11, .pinned 3 4, .invalid]) ∧
    searchView (located pinnedWays) ⟨1, none⟩ = (.slot 11, pinnedWays) ∧
    searchView (located staleWays) ⟨1, none⟩ = (.slot 11, [.ranked 1 0 11, .invalid, .invalid, .invalid]) ∧
    searchView (located stalePinned) ⟨1, none⟩ = (.slot 11, pinnedWays) ∧
    searchView (located allPinned) ⟨1, none⟩ = (.slot 11, allPinned) ∧
    searchView { searched with slots := (searched.slots.set 11 emptySlot).set 5 ⟨[board], false, some ⟨.east, .pick⟩⟩ }
      ⟨1, none⟩ = (.wait, List.replicate 4 .invalid) := by decide +kernel

theorem witness_remnant_search : State.remnantSearch
    (withSaw searched .saw2 { SawRecord.initial with settings := { Settings.initial with remnantAllowed := true } }) .west .saw2
      ⟨1, some (900, 600)⟩ = some 130 := by decide +kernel

/-- A saw that allows remnants, over slots of the remnant window. -/
def remnantShop (slots : List (Nat × Panel)) : State :=
  withSaw (slots.foldl (fun s r => withSlot s r.1 ⟨[r.2], false, none⟩) shop) .saw2
    { SawRecord.initial with settings := { Settings.initial with remnantAllowed := true } }

theorem test_smallest_remnant : (remnantShop [(128, ⟨2, 3, 1, .remnant, 900, 700⟩), (131, ⟨3, 4, 1, .remnant, 700, 800⟩),
      (132, ⟨4, 5, 1, .remnant, 800, 700⟩), (133, ⟨5, 6, 1, .remnant, 600, 600⟩)]).remnantSearch .west .saw2 ⟨1, some (700, 700)⟩ =
    some 131 := by decide +kernel

/-! ## Witnesses: the runway -/

theorem witness_travel_time : (1 ≤ 1 ∧ 1 * 1 ≤ 1 * 1) ∧ 1500 * 1500 ≤ 3000 * 750 ∧ 2999 * 750 < 1500 * 1500 ∧
    60000 * 100 < 4000 * 4000 := by decide

/-- The cell with its east gantry in a state, reserving the east end. -/
def eastIn (q : GantryState) : State := withGantry shop .east { idleAt 40500 39000 42000 with state := q }

/-- A pick of the west gantry. -/
def westPick : Machine.Step := ⟨.travelPick, 33750, some 20, none, none, none⟩

theorem witness_verdicts : westPick.kind ≠ .place ∧ westPick.kind ≠ .travelOnly ∧ 38999 < (shop.span .east).lo ∧
    ¬39000 < (shop.span .east).lo ∧ (shop.span .west).hi < 3001 ∧ ¬(shop.span .west).hi < 3000 ∧
    (∀ q ∈ [GantryState.dwell, .stepping, .hoverHold, .offline, .parked, .faulted, .idle, .stranded],
      ((eastIn q).gantry .east).state = q ∧ ¬39000 < ((eastIn q).span .east).lo) := by decide +kernel

/-- The crossing with the requester's task the earlier one. -/
def crossingEarlier : State :=
  withGantry crossingCase .west
    { crossingCase.gantry .west with task := some ⟨.book .saw1 1, 415000, .picking, some 59, none, 0, none⟩ }

theorem witness_crossing : ¬(crossingCase.span .west).hi < 7500 ∧ (crossingCase.gantry .west).state = .waitGrant ∧
    clearOf .west (crossingCase.gantry .west).requestSpan (crossingCase.span .east) = false ∧
    ¬elapsed crossingCase.clock (crossingCase.taskStart .west) < elapsed crossingCase.clock (crossingCase.taskStart .east) ∧
    elapsed crossingEarlier.clock (crossingEarlier.taskStart .west) <
      elapsed crossingEarlier.clock (crossingEarlier.taskStart .east) ∧
    clearOf .west (crossingEarlier.gantry .west).requestSpan (crossingEarlier.span .east) = false := by decide +kernel

/-! ## Witnesses: gantries -/

/-- The cell with its west gantry in a state. -/
def westIn (s : State) (q : GantryState) : State := withGantry s .west { idleAt 1500 0 3000 with state := q }

theorem witness_announced :
    calm (westIn shop .offline) = true ∧ (westIn shop .offline).cell ≠ .noLayout ∧
    ((westIn shop .offline).gantry .west).state = .offline ∧ (shop.gantry .west).state ≠ .offline ∧
    (1499 : Word).toNat < 1500 ∧ 34000 < (34001 : Word).toNat ∧
    ((westIn shop .offline).geom.gantries.get .west).limHi = 34000 ∧ ((westIn shop .offline).geom.gantries.get .west).limLo = 1500 ∧
    (shop.span .east).lo = 39000 ∧ ((withGantry shop .east (idleAt 20000 18500 21500)).span .east).lo ≤
      (shop.geom.standing .west (17000 : Word).toNat).hi ∧
    ¬((withGantry shop .east (idleAt 20000 18500 21500)).span .east).lo ≤ (shop.geom.standing .west (16999 : Word).toNat).hi ∧
    (shop.gantry .east).state ≠ .waitGrant ∧ (shop.gantry .east).waits = false ∧
    calm (westIn shop .parked) = true ∧ ((westIn shop .parked).gantry .west).state ≠ .idle ∧
    (shop.gantry .west).state = .idle := by decide +kernel

theorem witness_announced_pass : State.NothingToGive (withGantry shop .west (idleAt 34000 32500 35500)) :=
  nothing_of (.inr (by decide +kernel))

theorem test_gantry_ready : runwayView (exec (.gantryReady (.gantry .west) [34000]) (westIn shop .offline)) .west =
    some (.idle, some 34000, some ⟨32500, 35500⟩, none) := by decide +kernel

/-- The west gantry FAULTED with a board in its fault record, and STRANDED with a board on its head. -/
def faultedHolding : State :=
  withGantry stocked .west { idleAt 1500 0 3000 with state := .faulted, frozen := true, fault := some { fault with panel := some { board with serial := 2 } } }
def strandedTask : Task := ⟨.panelReturn, 0, .stranded, none, none, 0, none⟩
def strandedHolding (task : Task) : State :=
  withGantry stocked .west
    { idleAt 1500 0 3000 with
      state := .stranded
      carried := some { board with serial := 2 }
      task := some task }

/-- Slots that a restored panel cannot be laid on, or can. -/
def heldAt (r : Slot) : State := withSlot faultedHolding 5 r

theorem witness_restore_refused :
    (∀ s ∈ [shop, westIn shop .faulted, faultedHolding, strandedHolding strandedTask, heldAt ⟨[board], false, some ⟨.west, .put⟩⟩,
        heldAt ⟨[board], true, none⟩, heldAt ⟨List.replicate 40 board, false, none⟩],
      calm s = true ∧ s.cell ≠ .noLayout ∧ s.addressed (5 : Word).toNat = some 5 ∧ (s.pickArea 5).isSome) ∧
    (∀ q ∈ [GantryState.offline, .parked, .faulted, .stranded], ((westIn shop q).gantry .west).state = q) ∧
    (shop.gantry .west).state = .idle ∧ (0 : Word).toNat ≤ 2 ∧ (2 : Word).toNat ≤ 2 ∧ (1 : Word).toNat ≤ 1 ∧
    (1499 : Word).toNat < (shop.geom.gantries.get .west).limLo ∧
    ((withGantry shop .east (idleAt 20000 18500 21500)).span .east).lo ≤ (shop.geom.standing .west (17000 : Word).toNat).hi ∧
    (faultedHolding.gantry .west).state = .faulted ∧
    ((faultedHolding.gantry .west).fault.bind FaultRecord.panel).isSome ∧
    ((strandedHolding strandedTask).gantry .west).carried.isSome ∧ shop.addressed (144 : Word).toNat = none ∧
    (heldAt ⟨List.replicate 40 board, false, none⟩).thickness 1 = 180 := by decide +kernel

theorem witness_restore : (shop.geom.gantries.get .west).limLo ≤ (1500 : Word).toNat ∧
    (34000 : Word).toNat ≤ (shop.geom.gantries.get .west).limHi ∧
    (shop.geom.standing .west (34000 : Word).toNat).hi < (shop.span .east).lo ∧ (shop.gantry .east).state ≠ .waitGrant ∧
    (shop.gantry .east).waits = false ∧ ((strandedHolding strandedTask).gantry .west).state = .stranded ∧
    (heldAt ⟨[board], false, none⟩).addressed (5 : Word).toNat = some 5 ∧ 5 < (heldAt ⟨[board], false, none⟩).slots.length ∧
    (((heldAt ⟨[board], false, none⟩).slot 5).stack.length < 40) ∧
    (heldAt ⟨[board], false, none⟩).height 5 + 180 ≤ shop.geom.maxStackHeight ∧ stocked.passDue = true ∧
    stocked.round [.west, .east] = none ∧ stocked.stillIdle [.west, .east] = [.west, .east] := by decide +kernel

theorem test_restore_lays_panel :
    (nextOf (exec (.gantryRestore .planner [0, 1500, 2, 5, 1]) faultedHolding)).map (fun t =>
      ((t.slot 5).stack, (t.gantry .west).state, (t.port .planner).outbound)) =
    some ([board, { board with serial := 2 }], .idle,
      [⟨.reply (.accepted 0x0E 0 (some ⟨2, some ⟨5, 0, 6⟩, 2, 360⟩)), 1, 1⟩]) := by decide +kernel

/-- A step of each kind that the west gantry has outstanding, over a stocked cell with a book on saw 1. -/
def outstandingStep (kind : StepKind) (slot : Option Nat) (saw : Option Saw) (task : Option Task) (carried : Option Panel) : State :=
  withSaw (withGantry stocked .west (stepping (issuedStep kind slot saw) task carried)) .saw1
    { sawWith [assembling] with offers := [⟨1, 900, 600, 0, .inProgress .west⟩] }

def slotPick : State := outstandingStep .travelPick (some 5) none (some (bookTask .picking (some 5))) none
def outfeedPick : State :=
  outstandingStep .travelPick none (some .saw1) (some ⟨.remnantReturn .saw1, 0, .outfeedPick, none, some 130, 0, some 4⟩) none
def placeStep : State := outstandingStep .place none (some .saw1) (some (bookTask .placing (some 5))) (some { board with serial := 2 })
def putStep : State :=
  outstandingStep .travelPut (some 5) none (some ⟨.panelReturn, 0, .putting, none, some 5, 0, none⟩) (some { board with serial := 2 })

theorem witness_step_done :
    (∀ s ∈ [slotPick, outfeedPick, placeStep, putStep], calm s = true ∧ s.cell ≠ .noLayout ∧
      (s.gantry .west).state = .stepping ∧ (s.gantry .west).issued = some ⟨7, ⟨0, 12750⟩, 0, 9000⟩) ∧
    (0 : Word).toNat ≤ 3 ∧ (3 : Word).toNat ≤ 3 ∧ (7 : BitVec 8).toNat = (7 : Word).toNat ∧
    (7 : BitVec 8).toNat ≠ (8 : Word).toNat ∧ 0 ≤ (0 : Word).toNat ∧ (12750 : Word).toNat ≤ 12750 ∧
    (slotPick.slot 5).stack.getLast? = some board ∧ 5 < slotPick.slots.length ∧
    outfeedPick.offerOf .west .saw1 = some ⟨1, 900, 600, 0, .inProgress .west⟩ ∧
    (placeStep.gantry .west).carried = some { board with serial := 2 } ∧ (shop.gantry .west).state ≠ .stepping := by
  decide +kernel

/-- What a state shows of the west gantry's panel and of slot 5 after a report of an outcome. -/
def panelView (s : State) (outcome : Word) : Option (Option Panel × List Panel × Bool) :=
  (nextOf (exec (.stepDone (.gantry .west) [7, 11250, outcome]) s)).map fun t =>
    ((t.gantry .west).carried, (t.slot 5).stack, (t.slot 5).suspect)

theorem test_step_done : panelView slotPick 0 = some (some board, [], false) ∧ panelView slotPick 1 = some (none, [board], true) ∧
    panelView outfeedPick 0 = some (some ⟨4, 2, 1, .remnant, 900, 600⟩, [board], false) := by decide +kernel

theorem test_step_done_at_place_and_put : panelView placeStep 0 = some (none, [board], false) ∧
    panelView placeStep 2 = some (some { board with serial := 2 }, [board], false) ∧
    panelView putStep 0 = some (none, [board, { board with serial := 2 }], false) ∧
    panelView putStep 3 = some (some { board with serial := 2 }, [board], true) := by decide +kernel

/-- A panel's return about to end. -/
def returning : State := withSlot putStep 5 ⟨[board], false, some ⟨.west, .put⟩⟩

theorem witness_return : calm returning = true ∧ returning.cell ≠ .noLayout ∧ (returning.gantry .west).state = .stepping ∧
    (returning.gantry .west).issued = some ⟨7, ⟨0, 12750⟩, 0, 9000⟩ ∧
    (returning.gantry .west).current.map Step.kind = some .travelPut ∧ 5 < returning.slots.length ∧
    (returning.slot 5).claim = some ⟨.west, .put⟩ ∧ ((returning.gantry .west).task.map Task.kind) = some .panelReturn ∧
    (returning.gantry .west).carried = some { board with serial := 2 } ∧ (returning.gantry .east).state ≠ .waitGrant ∧
    (returning.gantry .east).waits = false := by decide +kernel

theorem witness_return_pass : State.NothingToGive (withGantry { returning with cell := .closed } .west (idleAt 1500 0 3000)) :=
  nothing_of (.inl (by decide +kernel))

/-- A remnant return about to end. -/
def offcutPanel : Panel := ⟨2, 2, 1, .remnant, 900, 600⟩
def storing : State :=
  withSaw (withGantry returning .west
    { returning.gantry .west with
      task := some ⟨.remnantReturn .saw1, 0, .putting, none, some 5, 0, none⟩
      carried := some offcutPanel }) .saw1 { SawRecord.initial with offers := [⟨1, 900, 600, 0, .inProgress .west⟩] }

theorem witness_stored : calm storing = true ∧ storing.cell ≠ .noLayout ∧ (storing.gantry .west).state = .stepping ∧
    (storing.gantry .west).issued = some ⟨7, ⟨0, 12750⟩, 0, 9000⟩ ∧
    (storing.gantry .west).current.map Step.kind = some .travelPut ∧ (storing.slot 5).claim = some ⟨.west, .put⟩ ∧
    ((storing.gantry .west).task.map Task.kind) = some (.remnantReturn .saw1) ∧
    storing.offerOf .west .saw1 = some ⟨1, 900, 600, 0, .inProgress .west⟩ ∧
    (storing.gantry .west).carried = some offcutPanel ∧ (storing.gantry .east).state ≠ .waitGrant ∧
    (storing.gantry .east).waits = false := by decide +kernel

theorem witness_stored_pass (t : State) (h : t.saws = storing.saws.set .saw1 SawRecord.initial) : t.NothingToGive :=
  nothing_of_lists fun w => by rw [State.saw, h]; cases w <;> decide

theorem test_stored : ((nextOf (exec (.stepDone (.gantry .west) [7, 11250, 0]) storing)).map fun t =>
      ((t.slot 5).stack, (t.saw .saw1).offers, (t.gantry .west).state, (t.port (.saw .saw1)).outbound)) =
    some ([board, offcutPanel], [], .idle,
      [⟨.pushed (.offerReport ⟨1, 900, 600, .stored, none, 2, some ⟨5, 0, 6⟩⟩), 1, 1⟩]) := by decide +kernel

/-- The west gantry STEPPING on a yield to 4,000. -/
def yieldRecord (former : Option FormerState) (aside : Option Machine.Step) (task : Option Task) (carried : Option Panel) :
    GantryRecord :=
  { stepping (issuedStep .travelOnly none none) task carried with
    current := some { issuedStep .travelOnly none none with target := 4000 }
    former := former
    setAside := aside }

def asideStep (x : Nat) : Machine.Step := ⟨.travelPick, x, some 5, none, none, none⟩

/-- The cases of a yielder: it was IDLE, it was STRANDED, its step was set aside, its book has ended with an empty head or with a panel
on it. -/
def yieldIdle : GantryRecord := yieldRecord (some .idle) none none none
def yieldStranded : GantryRecord := yieldRecord (some .stranded) none (some strandedTask) (some board)
def yieldAside (x : Nat) : GantryRecord := yieldRecord none (some (asideStep x)) (some (bookTask .picking (some 5))) none
def yieldEnded (carried : Option Panel) : GantryRecord := yieldRecord none none (carried.map fun _ => returnTask 0 (some 5)) carried

/-- The east gantry in WAIT_GRANT for a pick whose way is clear of a west gantry at 4,000. -/
def waitingEast : GantryRecord :=
  { idleAt 40500 39000 42000 with
    state := .waitGrant
    task := some ⟨.book .saw2 9, 0, .picking, some 59, none, 0, none⟩
    current := some ⟨.travelPick, 20250, some 59, none, some ⟨⟨18750, 42000⟩, .yielding⟩, none⟩ }

theorem witness_yield_completes :
    (∀ s ∈ [shop, openAreas], ∀ r ∈ [yieldIdle, yieldStranded, yieldAside 11250, yieldAside 38000, yieldEnded none, yieldEnded (some board)],
      ∀ e ∈ [parkedEast, waitingEast],
      let t := withGantry (withGantry s .west r) .east e
      calm t = true ∧ t.cell ≠ .noLayout ∧ (t.gantry .west).state = .stepping ∧
        (t.gantry .west).issued = some ⟨7, ⟨0, 12750⟩, 0, 9000⟩ ∧ (t.gantry .west).current.map Step.kind = some .travelOnly) ∧
    (7 : BitVec 8).toNat = (7 : Word).toNat ∧ 0 ≤ (4000 : Word).toNat ∧ (4000 : Word).toNat ≤ 12750 ∧
    (yieldIdle.former = some .idle ∧ yieldStranded.former = some .stranded) ∧
    ((yieldAside 11250).former = none ∧ (yieldAside 11250).setAside = some (asideStep 11250) ∧
      (asideStep 11250).kind ≠ .place ∧ (asideStep 11250).kind ≠ .travelOnly ∧
      (shop.geom.travel .west 4000 11250).hi < (shop.span .east).lo ∧ ¬(shop.geom.travel .west 4000 38000).hi < (shop.span .east).lo) ∧
    ((yieldEnded none).setAside = none ∧ (yieldEnded none).carried = none ∧ (yieldEnded (some board)).carried = some board) ∧
    (parkedEast.state ≠ .waitGrant ∧ parkedEast.waits = false ∧ parkedEast.state ≠ .idle ∧ parkedEast.state ≠ .stranded) ∧
    waitingEast.state = .waitGrant ∧ (shop.geom.standing .west 4000).hi < 18750 ∧
    ((withGantry shop .west { yieldStranded with position := some 4000, state := .stranded }).putSearch .west).isSome ∧
    (withGantry openAreas .west { yieldStranded with position := some 4000, state := .stranded }).putSearch .west = none := by
  decide +kernel

theorem witness_yield_pass (t : State) (h : t.saws = shop.saws) : t.NothingToGive :=
  nothing_of_lists fun w => by rw [State.saw, h]; cases w <;> decide

theorem test_yield_completes :
    ((nextOf (exec (.stepDone (.gantry .west) [7, 4000, 0]) (withGantry (withGantry closedShop .west yieldIdle) .east waitingEast))).map
      fun t => ((t.gantry .west).state, (t.gantry .east).state)) = some (.idle, .stepping) ∧
    ((nextOf (exec (.stepDone (.gantry .west) [7, 4000, 1]) (alone (withGantry shop .west (yieldAside 11250))))).map
      fun t => ((t.gantry .west).setAside, (t.gantry .west).current.map Step.target)) = some (none, some 11250) := by
  decide +kernel

/-- The PLACE of a book's last panel. -/
def lastLift : Book := { assembling with lift := 2, placed := [9] }
def lastPlace : State := withSaw placeStep .saw1 (sawWith [lastLift])

theorem witness_book_released : calm lastPlace = true ∧ lastPlace.cell ≠ .noLayout ∧ (lastPlace.gantry .west).state = .stepping ∧
    (lastPlace.gantry .west).issued = some ⟨7, ⟨0, 12750⟩, 0, 9000⟩ ∧
    (lastPlace.gantry .west).current.map (fun c => (c.kind, c.saw)) = some (.place, some .saw1) ∧
    (lastPlace.gantry .west).carried = some { board with serial := 2 } ∧
    (lastPlace.gantry .west).task.map Task.kind = some (.book .saw1 40) ∧ lastPlace.bookOf .saw1 40 = some lastLift ∧
    lastLift.abortRequested = false ∧ lastLift.entries.length ≤ lastLift.lift ∧ (lastPlace.gantry .east).state ≠ .waitGrant ∧
    (lastPlace.gantry .east).waits = false := by decide +kernel

theorem witness_book_released_pass (t : State)
    (h : t.saws = lastPlace.saws.set .saw1 { lastPlace.saw .saw1 with books := [{ lastLift with state := .released }] }) :
    t.NothingToGive := nothing_of_lists fun w => by rw [State.saw, h]; cases w <;> decide

theorem test_book_released : ((nextOf (exec (.stepDone (.gantry .west) [7, 11250, 0]) lastPlace)).map fun t =>
      ((t.gantry .west).state, (t.saw .saw1).books.map Book.placed, (t.port (.saw .saw1)).outbound)) =
    some (.idle, [[9, 2]], [⟨.pushed (.bookReport ⟨40, .complete, [9, 2], none, none⟩), 1, 1⟩]) := by decide +kernel

theorem undisturbed_alone (s : State) (hc : s.gantries.east = parkedEast) : s.Undisturbed .west where
  grant := by simp [State.gantry, PerGantry.get, otherGantry, hc, parkedEast]
  search := by simp [State.gantry, PerGantry.get, otherGantry, hc, parkedEast, GantryRecord.waits]
  pass := fun _ => by simp [State.gantry, PerGantry.get, otherGantry, hc, parkedEast]

theorem witness_undisturbed : (alone slotPick).Undisturbed .west := undisturbed_alone _ rfl

theorem witness_fault : calm (alone slotPick) = true ∧ elapsed 8999 0 = 8999 ∧ elapsed 9000 0 = 9000 ∧ (shop.gantry .west).state ≠ .stepping ∧ 12750 < (12751 : Word).toNat ∧
    (255 : Word).toNat ≤ 255 ∧ ((alone slotPick).gantry .west).state = .stepping ∧
    (∀ q ∈ [GantryState.offline, .faulted], ((westIn shop q).gantry .west).state = q) ∧
    (∀ q ∈ [GantryState.dwell, .waitGrant, .hoverHold, .stranded], ((westIn (alone shop) q).gantry .west).state = q ∧
      calm (westIn (alone shop) q) = true ∧ ((westIn (alone shop) q).port (.gantry .west)).carrierUp = true ∧
      (westIn (alone shop) q).gantries.east = parkedEast) := by decide +kernel

/-- The west gantry in DWELL before a step, until 1,000. -/
def dwellBefore (c : Machine.Step) : State :=
  withGantry { shop with clock := 1000 } .west
    { idleAt 1500 0 3000 with
      state := .dwell
      task := some (bookTask .picking (some 5))
      current := some c
      dwellEnd := some ⟨500, 500⟩ }

theorem witness_dwell_end : (∀ c ∈ [⟨.travelPick, 11250, some 5, none, none, none⟩, ⟨.place, 1500, none, some .saw1, none, none⟩],
      (dwellBefore c).duties = .none ∧ ((dwellBefore c).gantry .west).state = .dwell ∧
      ((dwellBefore c).gantry .west).dwellEnd = some ⟨500, 500⟩ ∧ 500 ≤ elapsed (dwellBefore c).clock 500 ∧
      elapsed 999 500 < 500 ∧ ((dwellBefore c).gantry .west).current = some c ∧ c.kind ≠ .travelOnly ∧
      ((dwellBefore c).gantry .east).state ≠ .waitGrant ∧
      (c.kind = .place ∨ ((dwellBefore c).geom.travel .west 1500 c.target).hi < ((dwellBefore c).span .east).lo)) ∧
    (shop.gantry .west).state ≠ .dwell := by decide +kernel

/-- Steps that the west gantry owes a dwell before, or none, by the direction and the material of its last one. -/
def dwellOwed (direction : Option Direction) (material : Option Nat) (clock : Time) : State :=
  withGantry { stocked with clock := clock } .west
    { idleAt 1500 0 3000 with lastDirection := direction, lastMaterial := material, lastCompletion := some 0 }

theorem test_dwell_of_a_step :
    (∀ c ∈ [(dwellOwed none none 0, 0), (dwellOwed (some .west) none 299, 300), (dwellOwed (some .east) (some 9) 499, 500),
        (dwellOwed (some .west) (some 9) 499, 500)],
      ((c.1.prepare .west (c.1.pickStep 5)).1.gantry .west).dwellEnd = if c.2 = 0 then none else some ⟨0, c.2⟩) ∧
    ∀ c ∈ [dwellOwed (some .west) none 300, dwellOwed (some .west) (some 9) 500],
      ((c.prepare .west (c.pickStep 5)).1.gantry .west).state = .stepping := by decide +kernel

/-- A DWELL that has ended before a yield, and before a pick whose way an east gantry in a state bars. -/
def barred (q : GantryState) : State :=
  withGantry (dwellBefore (asideStep 38000)) .east { idleAt 40500 39000 42000 with state := q }

theorem witness_dwell_yield : (dwellBefore { asideStep 4000 with kind := .travelOnly }).duties = .none ∧
    ((dwellBefore { asideStep 4000 with kind := .travelOnly }).gantry .west).state = .dwell ∧ (shop.gantry .east).state ≠ .waitGrant ∧
    (shop.span .west).hi < (shop.span .east).lo ∧
    ∀ q ∈ [GantryState.dwell, .stepping, .hoverHold], (barred q).duties = .none ∧ ((barred q).gantry .west).state = .dwell ∧
      ((barred q).gantry .west).dwellEnd = some ⟨500, 500⟩ ∧ 500 ≤ elapsed (barred q).clock 500 ∧
      ((barred q).gantry .west).current = some (asideStep 38000) ∧ (asideStep 38000).kind ≠ .place ∧
      (asideStep 38000).kind ≠ .travelOnly ∧ ((barred q).gantry .east).state = q ∧ q ≠ .waitGrant ∧
      ¬(shop.geom.travel .west 1500 38000).hi < ((barred q).span .east).lo := by decide +kernel

/-- A fault record names the slot of its step in both forms, and so does the slot last marked. -/
theorem test_slots_in_both_forms : (((nextOf (exec (.overrun .west) pickCase)).map State.plannerView).map fun v =>
      ((v.gantries.west.fault.bind FaultView.step).bind FaultStepView.slot, v.lastMarked)) =
    some (some ⟨59, 2, 12⟩, some ⟨59, 2, 12⟩) := by decide +kernel

/-- The west gantry over saw 1's busy table with a board, in HOVER_HOLD until 90,000. -/
def hovering : State :=
  withSaw (withGantry (alone { shop with clock := 90000 }) .west
    { idleAt 6000 4500 7500 with
      state := .hoverHold
      task := some (bookTask .holding (some 5))
      carried := some board
      hold := some ⟨.saw1, ⟨0, 90000⟩⟩ }) .saw1 { sawWith [assembling] with table := .busy }

theorem witness_hover_timeout : hovering.duties = .none ∧ calm hovering = true ∧ (hovering.gantry .west).state = .hoverHold ∧
    (hovering.gantry .west).hold = some ⟨.saw1, ⟨0, 90000⟩⟩ ∧ 90000 ≤ elapsed hovering.clock 0 ∧ elapsed 89999 0 < 90000 ∧
    (hovering.gantry .west).task = some (bookTask .holding (some 5)) ∧ hovering.bookOf .saw1 40 = some assembling ∧
    (hovering.gantry .west).carried = some board ∧ (∀ q ∈ [GantryState.idle, .stranded, .waitGrant],
      (hovering.gantry .east).state ≠ q) ∧ (hovering.gantry .east).waits = false := by decide +kernel

theorem test_hover_timeout : ((nextOf (exec (.hoverTimeout .west) hovering)).map fun t => (t.port (.saw .saw1)).outbound) =
    some [⟨.pushed (.bookReport ⟨40, .aborted, [], some (.hoverTimeout, 1), some .hoverTimeout⟩), 1, 1⟩] := by decide +kernel

/-! ## Witnesses: saws -/

/-- Saw 1 with some books. -/
def shopWith (books : List Book) : State := withSaw shop .saw1 (sawWith books)

theorem witness_saw_set : calm shop = true ∧ calm (shopWith [assembling]) = true ∧ shop.cell ≠ .noLayout ∧
    ((0 : Word).toNat = 0 ∧ 4 < (5 : Word).toNat) ∧ (4 : Word).toNat = sawNumber .saw4 ∧ (1 : Word).toNat = sawNumber .saw1 ∧
    1 < (2 : Word).toNat ∧ (1 : Word).toNat ≤ 1 ∧ shop.sawPresent .saw4 = false ∧ shop.sawPresent .saw1 = true ∧
    ((shopWith [assembling]).saw .saw1).books.find? (fun x => decide (x.state = .assembling)) = some assembling ∧
    ((shopWith [queuedBook 1]).saw .saw1).books.find? (fun x => decide (x.state = .assembling)) = none ∧
    (shop.saw .saw1).settings = ⟨false, 1, 0, 0, 0, false, 800⟩ := by decide +kernel

theorem witness_saw_set_pass : State.NothingToGive (closedShop.setSaw .saw1 SawRecord.initial) :=
  nothing_of (.inl (by decide +kernel))

theorem test_saw_set_clamps : ((nextOf (exec (.sawSet .planner [1, 1, 4, 60001, 0, 1, 1, 29]) shop)).map fun t =>
      ((t.saw .saw1).settings, (t.port (.saw .saw1)).flags)) =
    some (⟨true, 3, 60000, 0, 1, true, 30⟩, [.settingsChanged]) := by decide +kernel

/-- A BOOK_REQUEST of tag 50 with some entries. -/
def request (entries : List (List Word)) : List Word := [50, BitVec.ofNat 16 entries.length] ++ entries.flatten

theorem witness_book_request :
    (∀ s ∈ [shop, shopWith [queuedBook 1, queuedBook 2, queuedBook 3, queuedBook 4], shopWith [releasedBook 50]],
      calm s = true ∧ s.cell = .opened ∧ s.sawPresent .saw1 = true ∧ s.kind 1 = some ⟨3, 180, 2800, 2070⟩ ∧ s.kind 3 = none ∧
      s.sawPresent .saw4 = false) ∧
    (∀ es ∈ [[], List.replicate 7 [1, 0, 0], List.replicate 6 [1, 0, 0], [[1, 0, 0], [1024, 0, 0]], [[1, 200, 0]], [[1, 0, 100]],
        [[3, 0, 0]], [[1, 2800, 2071]], [[1, 200, 100]], List.replicate 5 [1, 0, 0], List.replicate 4 [1, 0, 0]],
      (request es).length = 2 + 3 * word (request es) 1) ∧
    word (request (List.replicate 7 [1, 0, 0])) 1 = 7 ∧ word (request [[1, 0, 0], [1024, 0, 0]]) 5 = 1024 ∧
    ((shopWith [queuedBook 1, queuedBook 2, queuedBook 3, queuedBook 4]).saw .saw1).books.length = 4 ∧
    (∃ b ∈ ((shopWith [releasedBook 50]).saw .saw1).books, b.tag = 50) ∧
    (shop.saw .saw1).settings.maxBookHeight < ((List.range 5).map fun _ => shop.thickness 1).sum ∧
    ¬(shop.saw .saw1).settings.maxBookHeight < ((List.range 4).map fun _ => shop.thickness 1).sum := by decide +kernel

theorem witness_book_request_pass : State.NothingToGive (shopWith [queuedBook 50]) := nothing_of (.inr (by decide +kernel))

theorem test_book_request : ((nextOf (exec (.bookRequest (.saw .saw1) (request [[1, 0, 0], [1, 200, 100]])) shop)).map fun t =>
      (t.saw .saw1).books) =
    some [⟨50, [⟨1, none⟩, ⟨1, some (200, 100)⟩], .queued, none, 1, false, [], none, false, none, none, none⟩] := by decide +kernel

/-- The west gantry at work on the book of tag 40, the east one out of service. -/
def abortCase (r : GantryRecord) : State := withGantry (alone (shopWith [assembling])) .west r

/-- A step outstanding, a pick in preparation, a hover hold, and a crossing yield with and without a panel. -/
def abortStepping : GantryRecord := stepping (issuedStep .travelPick (some 5) none) (some (bookTask .picking (some 5))) none
def abortDwell : GantryRecord :=
  { abortStepping with state := .dwell, current := some ⟨.travelPick, 11250, some 5, none, none, none⟩, dwellEnd := some ⟨0, 500⟩ }
def abortHover : GantryRecord := hovering.gantry .west
def abortYield (carried : Option Panel) : GantryRecord :=
  { abortDwell with
    carried := carried
    current := some ⟨.travelOnly, 4000, none, none, none, none⟩
    setAside := some ⟨.travelHover, 6000, none, some .saw1, none, none⟩ }

theorem witness_book_abort :
    (∀ s ∈ [shopWith [queuedBook 1], shopWith [releasedBook 1], shopWith [{ assembling with tag := 1, abortRequested := true }],
        abortCase abortStepping], calm s = true ∧ s.cell ≠ .noLayout ∧ s.sawPresent .saw1 = true ∧ s.sawPresent .saw4 = false) ∧
    ((shopWith [queuedBook 1]).saw .saw1).books.find? (fun b => decide (b.tag = 2)) = none ∧
    ((shopWith [queuedBook 1]).saw .saw1).books.find? (fun b => decide (b.tag = 1)) = some (queuedBook 1) ∧
    ((shopWith [releasedBook 1]).saw .saw1).books.find? (fun b => decide (b.tag = 1)) = some (releasedBook 1) ∧
    ((abortCase abortStepping).saw .saw1).books.find? (fun b => decide (b.tag = 40)) = some assembling ∧
    assembling.abortRequested = false ∧ assembling.gantry = some .west ∧
    abortStepping.task.map Task.kind = some (.book .saw1 40) ∧ abortStepping.state = .stepping ∧ abortStepping.setAside = none := by
  decide +kernel

theorem witness_book_abort_ends :
    (∀ r ∈ [abortDwell, { abortDwell with state := .waitGrant }, abortHover, abortYield none, abortYield (some board)],
      calm (abortCase r) = true ∧ (abortCase r).sawPresent .saw1 = true ∧
      ((abortCase r).saw .saw1).books.find? (fun b => decide (b.tag = 40)) = some assembling ∧
      ((abortCase r).gantry .west).task.map Task.kind = some (.book .saw1 40) ∧
      ((abortCase r).gantry .east).state = .parked ∧ ((abortCase r).gantry .east).waits = false) ∧
    (abortDwell.state = .dwell ∧ abortDwell.setAside = none ∧ abortDwell.carried = none) ∧
    (abortHover.state = .hoverHold ∧ abortHover.setAside = none ∧ abortHover.carried = some board) ∧
    (abortYield (some board)).setAside.isSome ∧ (abortYield (some board)).state = .dwell := by decide +kernel

theorem witness_book_abort_pass : State.NothingToGive (withGantry (alone shop) .west (idleAt 1500 0 12750)) :=
  nothing_of (.inr (by decide +kernel))

theorem test_book_abort : ((nextOf (exec (.bookAbort (.saw .saw1) [40]) (abortCase abortDwell))).map fun t =>
      ((t.gantry .west).state, (t.saw .saw1).books, (t.port (.saw .saw1)).outbound)) =
    some (.idle, [],
      [⟨.pushed (.bookReport ⟨40, .aborted, [], some (.sawAbort, 1), some .sawAbort⟩), 1, 1⟩,
        ⟨.reply (.accepted 0x22 0 none), 1, 1⟩]) := by decide +kernel

/-- A hover in preparation, with a panel on the head. -/
def abortHovering (q : GantryState) : GantryRecord :=
  { abortDwell with
    state := q
    task := some (bookTask .hovering (some 5))
    carried := some board
    current := some ⟨.travelHover, 6000, none, some .saw1, none, none⟩ }

theorem witness_abort_hovering : ∀ q ∈ [GantryState.dwell, .waitGrant], calm (abortCase (abortHovering q)) = true ∧
    ((abortCase (abortHovering q)).gantry .west).task.map (fun t => (t.kind, t.phase)) = some (.book .saw1 40, .hovering) ∧
    ((abortCase (abortHovering q)).gantry .west).setAside = none ∧
    ((abortCase (abortHovering q)).gantry .west).carried = some board ∧ ((abortCase (abortHovering q)).gantry .east).state = .parked := by
  decide +kernel

theorem test_abort_hovering : ((nextOf (exec (.bookAbort (.saw .saw1) [40]) (abortCase (abortHovering .dwell)))).map fun t =>
      ((t.saw .saw1).books, (t.gantry .west).carried, (t.gantry .west).task.map Task.kind)) =
    some ([], some board, some .panelReturn) := by decide +kernel

theorem witness_book_taken : calm (shopWith [releasedBook 1]) = true ∧ calm shop = true ∧ shop.cell ≠ .noLayout ∧
    shop.sawPresent .saw4 = false ∧ shop.sawPresent .saw1 = true ∧
    ((shopWith [releasedBook 1]).saw .saw1).books.find? (fun b => decide (b.state = .released)) = some (releasedBook 1) ∧
    (releasedBook 1).tag = 1 ∧ (releasedBook 1).tag ≠ 2 ∧
    (shop.saw .saw1).books.find? (fun b => decide (b.state = .released)) = none := by decide +kernel

theorem witness_book_taken_pass : State.NothingToGive (shopWith []) := nothing_of (.inr (by decide +kernel))

theorem witness_table_state : calm hovering = true ∧ hovering.cell ≠ .noLayout ∧ hovering.sawPresent .saw4 = false ∧
    hovering.sawPresent .saw1 = true ∧ (1 : Word).toNat = 1 ∧ (0 : Word).toNat = 0 ∧ (hovering.saw .saw1).table ≠ .clear ∧
    ((hovering.gantry .west).state = .hoverHold ∧ (hovering.gantry .west).hold.map HoverHold.saw = some .saw1) ∧
    (hovering.gantry .east).state = .parked ∧ (shop.gantry .west).state ≠ .hoverHold ∧
    (shop.gantry .east).state ≠ .hoverHold := by decide +kernel

theorem test_table_clear_places : ((nextOf (exec (.tableState (.saw .saw1) [0]) hovering)).map fun t =>
      ((t.gantry .west).state, (t.gantry .west).current.map Machine.Step.kind)) = some (.stepping, some .place) := by
  decide +kernel

/-- Saw 1 with two offers. -/
def offered : State := withSaw shop .saw1 { SawRecord.initial with offers := List.replicate 2 ⟨1, 900, 600, 0, .waiting⟩ }

theorem witness_remnant_offer : (∀ s ∈ [shop, offered, openAreas], calm s = true ∧ s.cell = .opened ∧ s.sawPresent .saw1 = true ∧
      s.kind (1 : Word).toNat = some ⟨3, 180, 2800, 2070⟩ ∧ s.kind (3 : Word).toNat = none) ∧ shop.sawPresent .saw4 = false ∧
    1023 < (1024 : Word).toNat ∧ (1 : Word).toNat ≤ 1023 ∧ 200 ≤ (200 : Word).toNat ∧ (2800 : Word).toNat ≤ 2800 ∧
    100 ≤ (100 : Word).toNat ∧ (2070 : Word).toNat ≤ 2070 ∧ ¬200 ≤ (199 : Word).toNat ∧ 2 ≤ (offered.saw .saw1).offers.length ∧
    (shop.saw .saw1).offers.length < 2 ∧ (shop.gantry .west).state = .idle ∧
    (shop.remnantReturnSearch .west .saw1 1).isSome ∧
    (∀ g ∈ [Gantry.west, .east], (openAreas.remnantReturnSearch g .saw1 1).isSome = false) := by decide +kernel

theorem witness_remnant_offer_pass : State.NothingToGive
    (withSaw (withGantry (alone shop) .west { idleAt 1500 0 3000 with state := .parked }) .saw1 (offered.saw .saw1)) :=
  nothing_of (.inr (by decide +kernel))

/-- Saw 1 pacing: two starts, and two windows of which the second is the longer. -/
def paced : SawRecord :=
  { SawRecord.initial with
    settings := ⟨true, 3, 1000, 3000, 0, false, 800⟩
    pacing := [100, 600]
    pacingEnd := some ⟨600, 1000⟩ }

theorem witness_timed_saw_events : paced.pacingEndAt 1000 = some ⟨1000, 2100⟩ ∧ paced.pacingEndAt 3100 = none ∧
    SawRecord.initial.pacingEndAt 0 = none ∧ elapsed 1599 600 < 1000 ∧ 1000 ≤ elapsed 1600 600 ∧ shop.duties = .none ∧
    (∀ w ∈ [Saw.saw1, .saw2, .saw3, .saw4], (shop.saw w).starved.residue < 100 ∧ (shop.saw w).held.residue < 100) ∧
    (shop.saw .saw1).pacingEnd = none ∧ (withSaw shop .saw1 paced).duties = .none := by decide +kernel

theorem witness_pacing_pass : State.NothingToGive (withSaw { shop with clock := 1600 } .saw1 { paced with pacingEnd := none }) :=
  nothing_of (.inr (by decide +kernel))

theorem witness_pacing_in_order : paced.settings.w1 ≤ 60000 ∧ paced.settings.w2 ≤ 60000 ∧ paced.settings.w3 ≤ 60000 ∧
    paced.pacing.length ≤ 3 ∧ (paced.pacing.Pairwise fun a b => elapsed 1000 b ≤ elapsed 1000 a) ∧
    ∀ x ∈ paced.pacing, elapsed 1000 x + 3000 < 4294967296 := by
  have h : elapsed 1000#32 100#32 = 900 ∧ elapsed 1000#32 600#32 = 400 := by decide +kernel
  simp [paced, h]

/-- Saw 1 paced by its first rule, 200 ms after the clock has returned to the reading of its older start. -/
def returned (later : Time) : SawRecord := { paced with pacing := [4294967000, later] }

/-- The older start alone holds PACING, which ends as it leaves the window; or the later start comes back into the window before that, and
PACING ends as it leaves. -/
theorem test_pacing_after_clock_return : (returned 5000).pacingEndAt 4294967200 = some ⟨4294967200, 800⟩ ∧
    (returned 500).pacingEndAt 4294967200 = some ⟨4294967200, 1596⟩ ∧ (returned 5000).pacingEndAt 704 = none := by decide +kernel

/-! ## Witnesses: the cell -/

/-- The cell HALTED. -/
def haltedShop : State := { shop with cell := .halted }

theorem witness_cell_commands : (∀ s ∈ [closedShop, shop, haltedShop, abortCase abortStepping], calm s = true ∧ s.cell ≠ .noLayout) ∧
    closedShop.cell = .closed ∧ shop.cell = .opened ∧ haltedShop.cell = .halted ∧
    (shop.gantry .west).task = none ∧ (shop.gantry .east).task = none ∧
    ((abortCase abortStepping).gantry .west).task.isSome := by decide +kernel

theorem witness_cell_commands_pass : State.NothingToGive shop := nothing_of (.inr (by decide +kernel))

theorem test_close_busy : ((nextOf (exec (.closeCell .planner) (abortCase abortStepping))).map fun t => (t.port .planner).outbound) =
    some [⟨.reply (.refused 0x0F .cellBusy 1), 1, 1⟩] := by decide +kernel

theorem witness_cell_reset :
    (∀ s ∈ [shop, haltedShop, abortCase abortStepping, abortCase abortDwell, abortCase abortHover,
        abortCase { abortDwell with state := .waitGrant, carried := some board }, strandedHolding strandedTask, faultedHolding,
        westIn shop .offline], calm s = true) ∧
    State.reset.cell = .noLayout ∧ (abortCase abortStepping).slots.length = 144 ∧
    (faultedHolding.gantry .west).fault = some { fault with panel := some { board with serial := 2 } } ∧
    (frozenAt .west 1500 0 3000).duties = .none := by decide +kernel

theorem witness_cell_reset_ready : State.reset.Ready .planner ⟨0x0F, [9]⟩ 1 := ready_of (by decide +kernel)

theorem test_cell_reset : ((nextOf (exec (.cellReset .planner) (abortCase abortStepping))).map fun t =>
      (t.cell, (t.gantry .west).state, (t.slot 5).suspect, (t.saw .saw1).books, (t.port (.saw .saw1)).flags)) =
    some (.closed, .faulted, true, [], [.resetSeen]) := by decide +kernel

/-- Both gantries with a slot pick outstanding. -/
def twoPicks : State :=
  { closedShop with
    gantries :=
      ⟨stepping (issuedStep .travelPick (some 5) none) (some (bookTask .picking (some 5))) none,
        { stepping (issuedStep .travelPick (some 20) none) (some (bookTask .picking (some 20))) none with position := some 40500 }⟩ }

theorem test_reset_marks_east_last : ((nextOf (exec (.cellReset .planner) twoPicks)).map fun t =>
      ((t.slot 5).suspect, (t.slot 20).suspect, t.lastMarked)) = some (true, true, some 20) := by decide +kernel

/-- The cell with a book waiting at saw 2 and at saw 3, an offer at saw 1, and both saws enabled. -/
def enabledSaw (books : List Book) (offers : List Offer) : SawRecord :=
  { SawRecord.initial with settings := ⟨true, 3, 0, 0, 0, false, 800⟩, books := books, offers := offers }
def rushed (pointer : Saw) : State :=
  { shop with
    pointer := pointer
    saws := ⟨enabledSaw [] [⟨1, 900, 600, 0, .waiting⟩], enabledSaw [queuedBook 1] [], enabledSaw [queuedBook 2] [], .initial⟩ }

theorem witness_dispatch_order : (rushed .saw4).sawPresent .saw1 = true ∧
    (rushed .saw4).round [.west, .east] = some (.west, .saw1, .offer ⟨1, 900, 600, 0, .waiting⟩) ∧
    (rushed .saw1).round [.west, .east] = some (.west, .saw2, .book (queuedBook 1)) ∧
    (rushed .saw2).round [.west, .east] = some (.east, .saw3, .book (queuedBook 2)) ∧
    (rushed .saw2).round [] = none ∧ ((rushed .saw2).holdSet .saw2) = [] := by decide +kernel

/-- The cell with a WAITING head offer at saw 1, and with a QUEUED head book whose source is there, is claimed, or is missing. -/
def bookable (s : State) : State := { s with pointer := .saw2, saws := (rushed .saw1).saws }

theorem witness_given :
    (∀ s ∈ [shop, stocked, claimedShop], (((bookable s).saw .saw2).books.find? (fun x => decide (x.state = .queued)) = some (queuedBook 1)) ∧
      (∀ x ∈ ((bookable s).saw .saw2).books, x.state ≠ .assembling) ∧ (queuedBook 1).entries[0]? = some ⟨1, none⟩ ∧
      ((bookable s).gantry .west).carried = none ∧ ((bookable s).gantry .east).state = .idle) ∧
    ((bookable stocked).sourceSearch .west .saw2 ⟨1, none⟩).1 = .slot 5 ∧
    ((bookable claimedShop).sourceSearch .west .saw2 ⟨1, none⟩).1 = .wait ∧
    ((bookable shop).sourceSearch .west .saw2 ⟨1, none⟩).1 = .none ∧
    ((bookable shop).saw .saw1).offers = [⟨1, 900, 600, 0, .waiting⟩] ∧
    ((bookable shop).remnantReturnSearch .west .saw1 1).isSome ∧ (bookable shop).free.order.head? = some 0 := by decide +kernel

theorem test_two_rounds : (State.dispatchPass { rushed .saw4 with slots := stocked.slots }).pointer = .saw2 ∧
    ((State.dispatchPass { rushed .saw4 with slots := stocked.slots }).saw .saw1).offers = [⟨1, 900, 600, 0, .inProgress .west⟩] ∧
    ((State.dispatchPass { rushed .saw4 with slots := stocked.slots }).gantry .east).task.map Task.kind =
      some (.book .saw2 1) := by decide +kernel

/-! ## Witnesses: searches that run again -/

/-- Slot 5 suspect, with a board, and the west gantry as it waits for a store change; the east one is out of service. -/
def suspended (s : State) (r : GantryRecord) : State := alone (withGantry (withSlot s 5 ⟨[board], true, none⟩) .west r)

/-- A lift that waits for a source, and a STRANDED gantry. -/
def waitingLift : GantryRecord := { idleAt 1500 0 3000 with state := .dwell, task := some (bookTask .sourceWait none) }
def strandedRecord : GantryRecord := (strandedHolding strandedTask).gantry .west

/-- The cell with a book on saw 1, and the same with slot 5's windows gone and a board on slot 11 that the east gantry has claimed. -/
def bookShop : State := withSaw shop .saw1 (sawWith [assembling])
def contended : State :=
  withSlot { bookShop with windows := [⟨true, 8, 2, false, false⟩] ++ List.replicate 7 .initial } 11 ⟨[board], false, some ⟨.east, .pick⟩⟩

theorem witness_search_again :
    (∀ s ∈ [suspended bookShop waitingLift, suspended contended waitingLift, suspended shop strandedRecord,
        suspended openAreas strandedRecord],
      calm s = true ∧ s.cell ≠ .noLayout ∧ s.addressed (5 : Word).toNat = some 5 ∧ 5 < s.slots.length ∧ (s.slot 5).suspect = true ∧
      (s.gantry .west).task.isSome ∧ (s.gantry .east).state ≠ .waitGrant ∧ (s.gantry .east).waits = false) ∧
    (∀ s ∈ [suspended bookShop waitingLift, suspended contended waitingLift], (s.gantry .west).state = .dwell ∧
      (s.gantry .west).current = none ∧ (s.gantry .west).task = some (bookTask .sourceWait none) ∧
      s.bookOf .saw1 40 = some assembling ∧ assembling.entries[0]? = some ⟨1, none⟩) ∧
    ((withSlot (suspended bookShop waitingLift) 5 ⟨[board], false, none⟩).sourceSearch .west .saw1 ⟨1, none⟩).1 = .slot 5 ∧
    ((withSlot (suspended contended waitingLift) 5 ⟨[board], false, none⟩).sourceSearch .west .saw1 ⟨1, none⟩).1 = .wait ∧
    (withSlot (suspended shop strandedRecord) 5 ⟨[board], false, none⟩).putSearch .west = some 0 ∧
    (withSlot (suspended openAreas strandedRecord) 5 ⟨[board], false, none⟩).putSearch .west = none ∧
    ((suspended shop strandedRecord).gantry .west).state = .stranded ∧ strandedTask.phase = .stranded ∧
    (shop.geom.travel .west 1500 (shop.geom.slotX 5)).hi < ((suspended shop strandedRecord).span .east).lo := by decide +kernel

theorem test_search_again : (nextOf (exec (.slotRelease .planner [5]) (suspended bookShop waitingLift))).map (fun t =>
      ((t.gantry .west).state, (t.gantry .west).task.map Task.phase, (t.slot 5).claim)) =
    some (.stepping, some .picking, some ⟨.west, .pick⟩) := by decide +kernel

/-- A lift that waits with no source left. -/
def barren : State := withSlot (suspended bookShop waitingLift) 5 ⟨[], true, none⟩

theorem witness_search_ends : calm barren = true ∧ barren.cell ≠ .noLayout ∧ barren.addressed (5 : Word).toNat = some 5 ∧
    5 < barren.slots.length ∧ (barren.slot 5).suspect = true ∧ (barren.gantry .west).task = some (bookTask .sourceWait none) ∧
    (barren.gantry .west).state = .dwell ∧ (barren.gantry .west).current = none ∧ (barren.gantry .west).carried = none ∧
    barren.bookOf .saw1 40 = some assembling ∧ assembling.entries[0]? = some ⟨1, none⟩ ∧
    ((withSlot barren 5 emptySlot).sourceSearch .west .saw1 ⟨1, none⟩).1 = .none ∧ (barren.gantry .east).state ≠ .waitGrant ∧
    (barren.gantry .east).waits = false := by decide +kernel

theorem witness_search_ends_pass (t : State) (h : t.saws = barren.saws.set .saw1 { barren.saw .saw1 with books := [] }) :
    t.NothingToGive := nothing_of_lists fun w => by rw [State.saw, h]; cases w <;> decide

theorem test_search_ends : (nextOf (exec (.slotRelease .planner [5]) barren)).map (fun t =>
      ((t.gantry .west).state, (t.saw .saw1).books, (t.port (.saw .saw1)).outbound)) =
    some (.idle, [], [⟨.pushed (.bookReport ⟨40, .aborted, [], some (.noSource, 1), some .noSource⟩), 1, 1⟩]) := by decide +kernel

end Sys2Proof.Tests
end

section
/-! PROOFS. The geometry of the cell as words: the two forms of a slot address word (TABLE 10.4, R8, R11, R12), and the 44 words of
a layout record (R2, TABLE 1.2).  A gantry's and a saw's fields are treated as blocks of seven and of four words, so that each
round trip is shown once for a block. -/

namespace Sys2Proof.Machine

/-! ## Slot address words -/

/-- An address word below 512 has the form bit clear and is its own number field. -/
theorem slotAddress_linear {n : Nat} (h : n < 512) : slotAddress n = .linear n := by
  have hform : bits n 15 1 = 0 := by unfold bits; omega
  have hnumber : bits n 0 9 = n := by unfold bits; omega
  rw [slotAddress, if_pos hform, hnumber]

/-- An address word in grid form, with the ignored bits 0, carries its lane and its bay apart. -/
theorem slotAddress_grid {lane bay : Nat} (hl : lane < 16) (hb : bay < 64) :
    slotAddress (32768 + lane * 256 + bay) = .grid lane bay := by
  have hform : bits (32768 + lane * 256 + bay) 15 1 ≠ 0 := by unfold bits; omega
  have hlane : bits (32768 + lane * 256 + bay) 8 4 = lane := by unfold bits; omega
  have hbay : bits (32768 + lane * 256 + bay) 0 6 = bay := by unfold bits; omega
  rw [slotAddress, if_neg hform, hlane, hbay]

/-- The grid-form word of a name whose fields fit is sent without a loss. -/
theorem SlotName.gridWord_toNat {n : SlotName} (hl : n.lane < 16) (hb : n.bay < 64) :
    n.gridWord.toNat = 32768 + n.lane * 256 + n.bay := by
  rw [SlotName.gridWord, BitVec.toNat_ofNat]; omega

theorem State.addressed_eq {s : State} {l : Layout} (h : s.layout = some l) (w : Nat) :
    s.addressed w = (slotAddress w).slot l.lanes l.bays := by
  simp [State.addressed, State.geom, h]

theorem State.addressed_linear {s : State} {l : Layout} (h : s.layout = some l) {n : Nat} (hn : n < 512) :
    s.addressed n = if n < l.lanes * l.bays then some n else none := by
  rw [s.addressed_eq h, slotAddress_linear hn, SlotAddress.slot]

theorem State.addressed_grid {s : State} {l : Layout} (h : s.layout = some l) {lane bay : Nat} (hl : lane < 16)
    (hb : bay < 64) : s.addressed (32768 + lane * 256 + bay) =
      if lane < l.lanes ∧ 1 ≤ bay ∧ bay ≤ l.bays then some (lane * l.bays + (bay - 1)) else none := by
  rw [s.addressed_eq h, slotAddress_grid hl hb, SlotAddress.slot]

/-! ## Lane and bay of a slot -/

theorem Layout.laneOf_lt {l : Layout} {n : Nat} (hn : n < l.lanes * l.bays) : l.laneOf n < l.lanes :=
  Nat.div_lt_of_lt_mul (by rwa [Nat.mul_comm])

theorem Layout.one_le_bayOf (l : Layout) (n : Nat) : 1 ≤ l.bayOf n := Nat.le_add_left ..

theorem Layout.bayOf_le {l : Layout} (hb : 1 ≤ l.bays) (n : Nat) : l.bayOf n ≤ l.bays := Nat.mod_lt n hb

/-- The slots are numbered along the lanes, bay by bay (R7). -/
theorem Layout.laneOf_mul_bays_add_bayOf (l : Layout) (n : Nat) : l.laneOf n * l.bays + (l.bayOf n - 1) = n :=
  Nat.div_add_mod' n l.bays

/-- The grid form that a reply gives names its slot (R12). -/
theorem State.addressed_gridWord {s : State} {l : Layout} (h : s.layout = some l) (hlanes : l.lanes ≤ 8)
    (hbays : 1 ≤ l.bays) (hbays32 : l.bays ≤ 32) {n : Nat} (hn : n < l.lanes * l.bays) :
    s.addressed (l.slotName n).gridWord.toNat = some n := by
  have hlane := Layout.laneOf_lt hn
  have hbay := Layout.bayOf_le hbays n
  have hl : (l.slotName n).lane < 16 := by change l.laneOf n < 16; omega
  have hb : (l.slotName n).bay < 64 := by change l.bayOf n < 64; omega
  rw [SlotName.gridWord_toNat hl hb, State.addressed_grid h hl hb, if_pos ⟨hlane, l.one_le_bayOf n, hbay⟩]
  exact congrArg some (l.laneOf_mul_bays_add_bayOf n)

/-- Settles O22: the fields of an address word read apart, and division with remainder by `bays`. -/
theorem slotAddressForms : Obligations.SlotAddressForms := by
  intro s l h hlanes hbays hbays32
  refine ⟨fun n hn => State.addressed_linear h hn, fun lane bay hl hb => ?_, fun n hn => ?_⟩
  · rw [State.addressed_grid h hl hb]
    split
    case isTrue hrange => rw [Nat.add_sub_assoc hrange.2.1]
    case isFalse => rfl
  · exact ⟨State.addressed_gridWord h hlanes hbays hbays32 hn, rfl, (l.laneOf_mul_bays_add_bayOf n).symm,
      l.one_le_bayOf n, Layout.bayOf_le hbays n, rfl, rfl⟩

/-! ## Words and whole numbers -/

/-- A number that one word carries. -/
def FitsWord (n : Nat) : Prop := n < 65536

@[simp] theorem lowWord_word (ws : List Word) (i : Nat) : lowWord (word ws i) = ws.getD i 0 := by
  simp [lowWord, word]

theorem word_lt (ws : List Word) (i : Nat) : word ws i < 65536 := (ws.getD i 0).isLt

/-- A payload word written as the low word of a number that fits reads as that number. -/
theorem word_eq_of_getD {ws : List Word} {i n : Nat} (hw : ws.getD i 0 = lowWord n) (hn : FitsWord n) : word ws i = n := by
  rw [word, hw]; exact Nat.mod_eq_of_lt hn

@[simp] theorem lowWord_two_words (ws : List Word) (i j : Nat) : lowWord (word ws i * 65536 + word ws j) = ws.getD j 0 := by
  have hlow : lowWord (word ws i * 65536 + word ws j) = lowWord (word ws j) := by
    apply BitVec.eq_of_toNat_eq
    simp only [lowWord, BitVec.toNat_ofNat]
    omega
  rw [hlow, lowWord_word]

@[simp] theorem highWord_two_words (ws : List Word) (i j : Nat) :
    highWord (word ws i * 65536 + word ws j) = ws.getD i 0 := by
  have hquot : (word ws i * 65536 + word ws j) / 65536 = word ws i := by have := word_lt ws j; omega
  rw [highWord, hquot]
  exact lowWord_word ws i

/-- Two words written as the high and the low word of a 32-bit number read as that number. -/
theorem two_words_eq_of_getD {ws : List Word} {i j n : Nat} (hi : ws.getD i 0 = highWord n) (hj : ws.getD j 0 = lowWord n)
    (hn : n < 4294967296) : word ws i * 65536 + word ws j = n := by
  have hhigh : word ws i = n / 65536 := word_eq_of_getD hi (show n / 65536 < 65536 by omega)
  have hlow : word ws j = n % 65536 := by rw [word, hj, lowWord, BitVec.toNat_ofNat]
  omega

/-- Word `j` of a block of `k` words that stands from word `i`, written as the low word of a number that fits. -/
theorem word_of_block {ws block : List Word} {i j k n : Nat} (hws : (ws.drop i).take k = block) (hj : j < k)
    (hw : block.getD j 0 = lowWord n) (hn : FitsWord n) : word ws (i + j) = n := by
  have hget : ws.getD (i + j) 0 = block.getD j 0 := by
    rw [← hws, List.getD_eq_getElem?_getD, List.getD_eq_getElem?_getD, List.getElem?_take_of_lt hj, List.getElem?_drop]
  exact word_eq_of_getD (hget.trans hw) hn

/-- A list of words is the list of its words by index. -/
theorem map_range_getD (ws : List Word) : (List.range ws.length).map (ws.getD · 0) = ws :=
  List.ext_getElem (by simp) fun i _ hi => by simp [hi]

/-! ## The layout record's words -/

/-- Each of the seven fields is carried by a word (TABLE 1.2). -/
def GantryGeometry.FitsWords (g : GantryGeometry) : Prop :=
  FitsWord g.half ∧ FitsWord g.limLo ∧ FitsWord g.limHi ∧ FitsWord g.vmax ∧ FitsWord g.accel ∧ FitsWord g.pickTime ∧
    FitsWord g.placeTime

/-- Each of the four fields is carried by a word (TABLE 1.2). -/
def SawPlace.FitsWords (p : SawPlace) : Prop :=
  FitsWord p.present ∧ FitsWord p.infeedX ∧ FitsWord p.outfeedX ∧ FitsWord p.tableY

/-- A gantry whose seven words stand from word `i` is read from there. -/
theorem gantryOfWords_eq {g : GantryGeometry} {ws : List Word} {i : Nat} (hws : (ws.drop i).take 7 = g.words)
    (hg : g.FitsWords) : gantryOfWords ws i = g := by
  obtain ⟨hhalf, hlo, hhi, hvmax, haccel, hpick, hplace⟩ := hg
  have first : word ws i = g.half := word_of_block (j := 0) hws (by decide) rfl hhalf
  rw [gantryOfWords, first, word_of_block (j := 1) hws (by decide) rfl hlo, word_of_block (j := 2) hws (by decide) rfl hhi,
    word_of_block (j := 3) hws (by decide) rfl hvmax, word_of_block (j := 4) hws (by decide) rfl haccel,
    word_of_block (j := 5) hws (by decide) rfl hpick, word_of_block (j := 6) hws (by decide) rfl hplace]

/-- A saw whose four words stand from word `i` is read from there. -/
theorem sawOfWords_eq {p : SawPlace} {ws : List Word} {i : Nat} (hws : (ws.drop i).take 4 = p.words)
    (hp : p.FitsWords) : sawOfWords ws i = p := by
  obtain ⟨hpresent, hinfeed, houtfeed, htable⟩ := hp
  have first : word ws i = p.present := word_of_block (j := 0) hws (by decide) rfl hpresent
  rw [sawOfWords, first, word_of_block (j := 1) hws (by decide) rfl hinfeed, word_of_block (j := 2) hws (by decide) rfl houtfeed,
    word_of_block (j := 3) hws (by decide) rfl htable]

/-- A gantry's words are the seven it is read from. -/
@[simp] theorem gantryOfWords_words (ws : List Word) (i : Nat) :
    (gantryOfWords ws i).words = (List.range' i 7).map (ws.getD · 0) := by
  simp [gantryOfWords, GantryGeometry.words, List.range']

/-- A saw's words are the four it is read from. -/
@[simp] theorem sawOfWords_words (ws : List Word) (i : Nat) :
    (sawOfWords ws i).words = (List.range' i 4).map (ws.getD · 0) := by
  simp [sawOfWords, SawPlace.words, List.range']

/-- A record is written as the 44 words it is read from, in their order. -/
theorem layoutOfWords_words (ws : List Word) : (layoutOfWords ws).words = (List.range 44).map (ws.getD · 0) := by
  simp only [Layout.words, layoutOfWords, lowWord_word, lowWord_two_words, highWord_two_words, gantryOfWords_words,
    sawOfWords_words]
  rfl

/-- Settles O23: block by block for the gantries and the saws, field by field for the rest, with the hover limit in two words. -/
theorem layoutRecordRoundTrip : Obligations.LayoutRecordRoundTrip := by
  refine ⟨fun ws hlength => ?_, ?_⟩
  · rw [layoutOfWords_words, ← hlength, map_range_getD]
  · intro l fits gantry saw hrunway hmargin hgantry hlanes hbays hpitch horigin hlaneY hlanePitch hheight hreverse hhead
      hslack hhover hsaw
    have west : gantryOfWords l.words 2 = l.gantries.west := gantryOfWords_eq rfl (hgantry .west)
    have east : gantryOfWords l.words 9 = l.gantries.east := gantryOfWords_eq rfl (hgantry .east)
    have saw1 : sawOfWords l.words 28 = l.saws.saw1 := sawOfWords_eq rfl (hsaw .saw1)
    have saw2 : sawOfWords l.words 32 = l.saws.saw2 := sawOfWords_eq rfl (hsaw .saw2)
    have saw3 : sawOfWords l.words 36 = l.saws.saw3 := sawOfWords_eq rfl (hsaw .saw3)
    have saw4 : sawOfWords l.words 40 = l.saws.saw4 := sawOfWords_eq rfl (hsaw .saw4)
    have field {i n : Nat} (hw : l.words.getD i 0 = lowWord n) (hn : FitsWord n) : word l.words i = n :=
      word_eq_of_getD hw hn
    have hover : word l.words 26 * 65536 + word l.words 27 = l.hoverLimit := two_words_eq_of_getD rfl rfl hhover
    rw [layoutOfWords, west, east, saw1, saw2, saw3, saw4, hover, field (i := 0) rfl hrunway, field (i := 1) rfl hmargin,
      field (i := 16) rfl hlanes, field (i := 17) rfl hbays, field (i := 18) rfl hpitch, field (i := 19) rfl horigin,
      field (i := 20) rfl hlaneY, field (i := 21) rfl hlanePitch, field (i := 22) rfl hheight,
      field (i := 23) rfl hreverse, field (i := 24) rfl hhead, field (i := 25) rfl hslack]

end Sys2Proof.Machine
end

section
/-! PROOFS. How a property passes through the processing of a frame (R189), and that every command keeps the slots sound (R23, R25). -/

namespace Sys2Proof.Machine

/-! ## Frames -/

/-- Two properties of states with which a frame can be followed: `A` holds as the frame is taken, `B` once its effects are made and
through the consequences and the reply.  Neither looks at the ports. -/
structure Settling (A B : State → Prop) : Prop where
  before : ∀ s p r, A s → A (s.setPort p r)
  after : ∀ s p r, B s → B (s.setPort p r)
  settle : ∀ s, B s → B s.settle
  weaken : ∀ s, A s → B s

section
variable {A B : State → Prop} (h : Settling A B) {s : State} (hs : A s)
include h hs

theorem Settling.arrive (p : Port) (f : Frame) : A (s.arrive p f) := by
  unfold State.arrive
  split
  · exact h.before _ _ _ hs
  · exact hs

theorem Settling.process {p : Port} {f : Frame} {handle : State → State × Reply} (hb : ∀ t, A t → B (handle t).1) :
    B (s.process p f handle) := by
  have ha := h.arrive hs p f
  unfold State.process
  dsimp only
  split
  · split
    · exact h.after _ _ _ (h.settle _ (hb _ (h.before _ _ _ ha)))
    · exact h.weaken _ ha
  · exact h.weaken _ hs

theorem Settling.message {m : Message} {p : Port} {ws : List Word} {body : State → State × Reply}
    (hb : ∀ t, A t → m.check p ws = none → m.accepts t.cell = true → B (body t).1) : B (s.message m p ws body) := by
  refine h.process hs fun t ht => ?_
  unfold State.handleMessage
  split
  · exact h.weaken _ ht
  · next hc =>
    split
    · next ha => exact hb t ht hc ha
    · exact h.weaken _ ht

theorem Settling.command {k : CellCommand} {p : Port} {body : State → State × Reply}
    (hb : ∀ t, A t → k.accepts t.cell = true → B (body t).1) : B (s.command k p body) := by
  refine h.process hs fun t ht => ?_
  unfold State.handleCommand
  split
  · exact h.weaken _ ht
  · split
    · next ha => exact hb t ht ha
    · exact h.weaken _ ht

end

/-- A message whose checks come first keeps a property when its effects do. -/
theorem State.unless_keeps {B : State → Prop} {s : State} {m : Message} {f : Option Failure} {r : State × Reply} (hs : B s)
    (hr : f = none → B r.1) : B (s.unless m f r).1 := by
  unfold State.unless
  split
  · exact hs
  · exact hr rfl

/-! ## The slots -/

theorem State.SlotsSound.congr {s t : State} (hs : s.SlotsSound) (hslots : t.slots = s.slots) (hlayout : t.layout = s.layout) :
    t.SlotsSound := ⟨by rw [hslots, hlayout]; exact hs.count, by rw [hslots]; exact hs.exclusive⟩

/-- A suspect slot is unclaimed, a number that names no slot included. -/
theorem State.SlotsSound.unclaimed {s : State} (hs : s.SlotsSound) {n : Nat} (h : (s.slot n).suspect = true) :
    (s.slot n).claim = none := by
  unfold State.slot at *
  rw [List.getD_eq_getElem?_getD] at *
  cases hn : s.slots[n]? with
  | none => rfl
  | some r =>
    rw [hn] at h
    exact hs.exclusive r (List.mem_of_getElem? hn) h

theorem State.SlotsSound.setSlot {s : State} (hs : s.SlotsSound) {n : Nat} {r : Slot} (hr : r.suspect = true → r.claim = none) :
    (s.setSlot n r).SlotsSound := by
  refine ⟨by simpa [State.setSlot] using hs.count, fun q hq => ?_⟩
  rcases List.mem_or_eq_of_mem_set hq with hq | rfl
  · exact hs.exclusive q hq
  · exact hr

theorem slotsSound_carrying : Carrying State.SlotsSound where
  gantry _ _ _ _ hs := hs.congr rfl rfl
  saw _ _ _ _ hs := hs.congr rfl rfl
  push _ _ _ hs := hs.congr rfl rfl
  latch _ _ _ hs := hs.congr rfl rfl
  duties _ _ hs := hs.congr rfl rfl
  freeNext _ _ hs := hs.congr rfl rfl
  pointer _ _ hs := hs.congr rfl rfl
  free _ _ hs := hs.congr rfl rfl
  serial _ _ hs := hs.congr rfl rfl
  search s g w e hs := State.locatorStep_cases (fun _ _ h => h.congr rfl rfl) (fun _ _ h => h.congr rfl rfl)
    (fun _ _ h => h.congr rfl rfl) (fun _ _ h => h.congr rfl rfl) s g w e hs
  claim s n g k hs := by
    unfold State.claim
    split
    · next h => exact hs.setSlot fun hq => by rw [h.2] at hq; cases hq
    · exact hs
  unclaim _ _ hs := hs.setSlot fun _ => rfl
  suspect s n hs hc := by
    have hset : (s.setSlot n { s.slot n with suspect := true }).SlotsSound := hs.setSlot fun _ => hc
    exact hset.congr rfl rfl
  head _ _ _ _ hs := hs.congr rfl rfl
  place _ _ hs := hs.congr rfl rfl
  lay s n p hs := hs.setSlot hs.unclaimed
  unlay s n k hs := hs.setSlot hs.unclaimed

theorem slotsSound_settling : Settling State.SlotsSound State.SlotsSound :=
  ⟨fun _ _ _ hs => hs.congr rfl rfl, fun _ _ _ hs => hs.congr rfl rfl, fun _ hs => slotsSound_carrying.settle hs,
    fun _ hs => hs⟩

theorem State.SlotsSound.becomeFaulted {s : State} (hs : s.SlotsSound) (g : Gantry) (c : FaultCause) (n : BitVec 8)
    (silent : Bool) : (s.becomeFaulted g c n silent).SlotsSound :=
  slotsSound_carrying.becomeFaulted (fun _ _ h => h.congr rfl rfl) hs g c n silent

theorem State.SlotsSound.registerAll {s : State} (hs : s.SlotsSound) (n : Nat) (es : List StackEntry) :
    (s.registerAll n es).SlotsSound := by
  unfold State.registerAll
  induction es generalizing s with
  | nil => exact hs
  | cons e es ih => exact ih (slotsSound_carrying.lay _ _ _ (by exact hs.congr rfl rfl))

theorem State.SlotsSound.freePanels {s : State} (hs : s.SlotsSound) (ps : List Panel) : (s.freePanels ps).SlotsSound := by
  unfold State.freePanels
  induction ps generalizing s with
  | nil => exact hs
  | cons p ps ih => exact ih (by exact hs.congr rfl rfl)

/-- Fresh slot records, one for each slot of a layout, are sound. -/
theorem State.SlotsSound.of_replicate {s : State} {l : Layout} (hl : s.layout = some l)
    (hn : s.slots = List.replicate l.slotCount emptySlot) : s.SlotsSound := by
  refine ⟨by simp [hl, hn], fun r hr => ?_⟩
  rw [hn] at hr
  rw [List.eq_of_mem_replicate hr]
  exact fun _ => rfl

theorem State.loseSaw_slots (s : State) (l : Layout) (w : Saw) : (s.loseSaw l w).slots = s.slots := by
  unfold State.loseSaw; split <;> rfl

theorem State.loseSaw_layout (s : State) (l : Layout) (w : Saw) : (s.loseSaw l w).layout = s.layout := by
  unfold State.loseSaw; split <;> rfl

theorem State.SlotsSound.activate {s : State} (hs : s.SlotsSound) (l : Layout) : (s.activate l).SlotsSound := by
  unfold State.activate
  split
  · next hl =>
    obtain ⟨k, hk⟩ := Option.isSome_iff_exists.mp hl
    let u := (((s.loseSaw l .saw1).loseSaw l .saw2).loseSaw l .saw3).loseSaw l .saw4
    have hslots : u.slots = s.slots := by simp [u, State.loseSaw_slots]
    have hlayout : u.layout = s.layout := by simp [u, State.loseSaw_layout]
    by_cases hg : u.sameGrid l = true
    · have he : (s.nextLayout l).slots = s.slots := by
        show (u.renumber l).slots = s.slots
        rw [State.renumber, if_pos hg, hslots]
      have hc : l.slotCount = k.slotCount := by
        have := of_decide_eq_true hg
        simp only [State.geom, hlayout, hk, Option.getD_some] at this
        simp [Layout.slotCount, this]
      refine ⟨?_, by rw [he]; exact hs.exclusive⟩
      rw [he, hs.count, hk]
      exact hc.symm
    · refine .of_replicate (l := l) rfl ?_
      show (u.renumber l).slots = _
      rw [State.renumber, if_neg hg]
      rfl
  · exact .of_replicate (l := l) rfl rfl

theorem State.SlotsSound.layoutSet {s : State} (hs : s.SlotsSound) (ws : List Word) : (s.layoutSet ws).1.SlotsSound := by
  unfold State.layoutSet
  split
  · exact hs
  · dsimp only
    split
    · exact (hs.activate _).congr rfl rfl
    · exact hs.activate _

theorem State.SlotsSound.withdraw {s : State} (hs : s.SlotsSound) (n k : Nat) : (s.withdraw n k).SlotsSound := by
  unfold State.withdraw
  split
  · exact hs
  · exact slotsSound_carrying.storeChange ((slotsSound_carrying.unlay _ _ _ hs).freePanels _)

theorem State.SlotsSound.slotRelease {s : State} (hs : s.SlotsSound) (ws : List Word) : (s.slotRelease ws).1.SlotsSound := by
  unfold State.slotRelease State.releaseSlot
  split
  · exact hs
  · dsimp only
    split
    · exact slotsSound_carrying.storeChange (hs.setSlot fun h => by cases h)
    · exact hs

theorem State.SlotsSound.refuseFree {s : State} (hs : s.SlotsSound) (m : Message) (c : RefusalCode) :
    (s.refuseFree m c).1.SlotsSound := hs.congr rfl rfl

theorem State.SlotsSound.kindQuery {s : State} (hs : s.SlotsSound) (ws : List Word) : (s.kindQuery ws).1.SlotsSound := by
  unfold State.kindQuery
  split
  · exact hs.refuseFree _ _
  · exact hs

theorem State.SlotsSound.slotQuery {s : State} (hs : s.SlotsSound) (ws : List Word) : (s.slotQuery ws).1.SlotsSound := by
  unfold State.slotQuery
  repeat' split
  all_goals exact hs

theorem State.SlotsSound.sawQuery {s : State} (hs : s.SlotsSound) (ws : List Word) : (s.sawQuery ws).1.SlotsSound := by
  unfold State.sawQuery
  repeat' split
  all_goals exact hs.congr rfl rfl

theorem State.SlotsSound.sawSet {s : State} (hs : s.SlotsSound) (ws : List Word) : (s.sawSet ws).1.SlotsSound := by
  unfold State.sawSet
  split
  · exact hs
  · refine State.unless_keeps hs fun _ => ?_
    unfold State.applySettings State.latchSettings
    split <;> exact hs.congr rfl rfl

theorem State.SlotsSound.restore {s : State} (hs : s.SlotsSound) (g : Gantry) (ws : List Word) :
    (s.restore g ws).SlotsSound := by
  have hd : (s.disposePanel g ws).SlotsSound := by
    unfold State.disposePanel
    split
    · exact slotsSound_carrying.lay _ _ _ hs
    · exact hs.congr rfl rfl
    · exact hs
  have he : ((s.disposePanel g ws).endStrandedTask g).SlotsSound := by
    unfold State.endStrandedTask
    split
    · exact hd.congr rfl rfl
    · exact hd
  exact slotsSound_carrying.retry (by exact he.congr rfl rfl) _

theorem State.SlotsSound.bookAbort {s : State} (hs : s.SlotsSound) (w : Saw) (ws : List Word) :
    (s.bookAbort w ws).1.SlotsSound := by
  unfold State.bookAbort State.abortRecord State.actOnAbortBy
  repeat' split
  · exact hs.refuseFree _ _
  · exact hs.congr rfl rfl
  · exact hs
  · exact slotsSound_carrying.actOnAbort (by exact hs.congr rfl rfl) _
  · exact hs.congr rfl rfl
  · exact hs
  · exact hs

theorem State.SlotsSound.bookTaken {s : State} (hs : s.SlotsSound) (w : Saw) (ws : List Word) :
    (s.bookTaken w ws).1.SlotsSound := by
  unfold State.bookTaken
  repeat' split
  all_goals exact hs.congr rfl rfl

theorem State.SlotsSound.endHold {s : State} (hs : s.SlotsSound) (w : Saw) (g : Gantry) : (s.endHold w g).SlotsSound := by
  unfold State.endHold
  split
  · exact slotsSound_carrying.beginPlace (by exact hs.congr rfl rfl) _ _
  · exact hs

theorem State.SlotsSound.tableState {s : State} (hs : s.SlotsSound) (w : Saw) (ws : List Word) :
    (s.tableState w ws).1.SlotsSound := by
  have ht : (s.setTable w (carriedTable ws)).SlotsSound := hs.congr rfl rfl
  unfold State.tableState State.reportTable
  repeat' split
  · exact hs.refuseFree _ _
  · exact (ht.endHold _ _).endHold _ _
  · exact ht

theorem State.SlotsSound.gantryPark {s : State} (hs : s.SlotsSound) (g : Gantry) : (s.gantryPark g).1.SlotsSound := by
  unfold State.gantryPark
  split
  · exact hs.congr rfl rfl
  · exact hs

theorem State.SlotsSound.stepDone {s : State} (hs : s.SlotsSound) (g : Gantry) (ws : List Word) :
    (s.stepDone g ws).1.SlotsSound := by
  unfold State.stepDone State.acceptStep
  repeat' split
  · exact slotsSound_carrying.stepCompleted (by exact hs.congr rfl rfl) _ _ _
  · exact State.SlotsSound.becomeFaulted (by exact hs.congr rfl rfl) _ _ _ _
  · exact hs

theorem State.SlotsSound.gantryFault {s : State} (hs : s.SlotsSound) (g : Gantry) (ws : List Word) :
    (s.gantryFault g ws).1.SlotsSound := by
  unfold State.gantryFault
  split
  · exact hs
  · exact State.SlotsSound.becomeFaulted (by exact hs.congr rfl rfl) _ _ _ _

theorem State.SlotsSound.close {s : State} (hs : s.SlotsSound) : s.close.1.SlotsSound := by
  unfold State.close
  split
  · exact hs
  · exact hs.congr rfl rfl

theorem State.SlotsSound.resetGantry {s : State} (hs : s.SlotsSound) (g : Gantry) : (s.resetGantry g).SlotsSound := by
  have hi : (s.idleByReset g).SlotsSound := by
    unfold State.idleByReset State.freeRecordOpt
    split <;> exact hs.congr rfl rfl
  unfold State.resetGantry
  repeat' split
  all_goals first
    | exact hs
    | exact hi
    | exact hs.becomeFaulted _ _ _ _
    | exact slotsSound_carrying.secondCause hs _ _

theorem State.SlotsSound.resetSaw {s : State} (hs : s.SlotsSound) (w : Saw) : (s.resetSaw w).SlotsSound := hs.congr rfl rfl

/-- Where every claim is released, nothing is claimed. -/
theorem State.SlotsSound.releaseEveryClaim {s : State} (hs : s.SlotsSound) : s.releaseEveryClaim.SlotsSound := by
  refine ⟨by simpa [State.releaseEveryClaim] using hs.count, fun r hr _ => ?_⟩
  obtain ⟨q, -, rfl⟩ := List.mem_map.mp hr
  rfl

theorem State.SlotsSound.cellReset {s : State} (hs : s.SlotsSound) : s.cellReset.SlotsSound := by
  have h0 : (s.setCell s.cell.afterReset).SlotsSound := hs.congr rfl rfl
  have h1 := ((((((h0.resetGantry .west).resetGantry .east).resetSaw .saw1).resetSaw .saw2).resetSaw .saw3).resetSaw
    .saw4).releaseEveryClaim
  unfold State.cellReset
  dsimp only
  generalize State.releaseEveryClaim _ = u at *
  exact h1.congr rfl rfl

theorem State.SlotsSound.endDwell {s : State} (hs : s.SlotsSound) (g : Gantry) : (s.endDwell g).SlotsSound := by
  unfold State.endDwell
  dsimp only
  split
  · exact slotsSound_carrying.settle (slotsSound_carrying.settleRequest
      (slotsSound_carrying.request (by exact hs.congr rfl rfl) _ _ _) _)
  · exact hs.congr rfl rfl

theorem State.SlotsSound.carrierLoss {s : State} (hs : s.SlotsSound) (p : Port) : (s.carrierLoss p).SlotsSound := by
  have hl : (s.setPort p (s.port p).lostCarrier).SlotsSound := hs.congr rfl rfl
  unfold State.carrierLoss
  split
  · refine slotsSound_carrying.settle ?_
    unfold State.roleLinkLost State.gantryLinkLost
    repeat' split
    all_goals first
      | exact hl
      | exact hl.congr rfl rfl
      | exact hl.becomeFaulted _ _ _ _
      | exact slotsSound_carrying.secondCause hl _ _
  · exact hs

theorem State.SlotsSound.carrierReturn {s : State} (hs : s.SlotsSound) (p : Port) : (s.carrierReturn p).SlotsSound := by
  unfold State.carrierReturn
  split
  · exact hs
  · refine slotsSound_carrying.settle ?_
    unfold State.roleLinkBack
    split <;> exact hs.congr rfl rfl

theorem State.SlotsSound.readEnd {s : State} (hs : s.SlotsSound) (b : Bool) : (s.readEnd b).SlotsSound := by
  unfold State.readEnd
  split
  · refine slotsSound_carrying.settle ?_
    unfold State.judgeMemory
    repeat' split
    · exact hs.congr rfl rfl
    · exact hs.congr rfl rfl
    · exact hs.congr rfl rfl
    · exact .of_replicate rfl rfl
  · exact hs

/-- Every command keeps the slots sound. -/
theorem State.SlotsSound.exec {s t : State} (hs : s.SlotsSound) (c : Instr) (ht : exec c s = .next t) : t.SlotsSound := by
  have key := slotsSound_settling
  have closed := slotsSound_carrying
  cases c <;> obtain ⟨rfl⟩ := ht
  case powerOn => exact ⟨rfl, fun r hr => by cases hr⟩
  case layoutReadEnd => exact hs.readEnd _
  case layoutWriteEnd =>
    unfold State.writeEnd
    split
    · exact hs.congr rfl rfl
    · exact hs
  case frameReceived | receiveBufferFull | flowStop | flowGo | frameSent | nextEndMarkedWord => exact hs.congr rfl rfl
  case carrierLoss => exact hs.carrierLoss _
  case carrierReturn => exact hs.carrierReturn _
  case unknownMessage =>
    split
    · exact hs
    · exact key.process hs fun _ h => h
  case layoutSet => exact key.message hs fun _ h _ _ => h.layoutSet _
  case layoutQuery | areaQuery | countsQuery | statusPeek => exact key.message hs fun _ h _ _ => h
  case kindSet => exact key.message hs fun _ h _ _ => State.unless_keeps h fun _ => h.congr rfl rfl
  case kindQuery => exact key.message hs fun _ h _ _ => h.kindQuery _
  case areaSet => exact key.message hs fun _ h _ _ => State.unless_keeps h fun _ => h.congr rfl rfl
  case stackRegister => exact key.message hs fun _ h _ _ => State.unless_keeps h fun _ => h.registerAll _ _
  case stackWithdraw => exact key.message hs fun _ h _ _ => State.unless_keeps h fun _ => h.withdraw _ _
  case slotRelease => exact key.message hs fun _ h _ _ => h.slotRelease _
  case slotQuery => exact key.message hs fun _ h _ _ => h.slotQuery _
  case sawSet => exact key.message hs fun _ h _ _ => h.sawSet _
  case sawQuery => exact key.message hs fun _ h _ _ => h.sawQuery _
  case gantryPark => exact key.message hs fun _ h _ _ => h.gantryPark _
  case gantryRestore => exact key.message hs fun _ h _ _ => State.unless_keeps h fun _ => h.restore _ _
  case openCell | haltCell | resumeCell | latchCounts | clearCounts | locatorFlush | pinOn | pinOff =>
    exact key.command hs fun _ h _ => h.congr rfl rfl
  case closeCell => exact key.command hs fun _ h _ => h.close
  case cellReset => exact key.command hs fun _ h _ => h.cellReset
  case bookRequest => exact key.message hs fun _ h _ _ => State.unless_keeps h fun _ => h.congr rfl rfl
  case bookAbort => exact key.message hs fun _ h _ _ => h.bookAbort _ _
  case bookTaken => exact key.message hs fun _ h _ _ => h.bookTaken _ _
  case tableState => exact key.message hs fun _ h _ _ => h.tableState _ _
  case remnantOffer => exact key.message hs fun _ h _ _ => State.unless_keeps h fun _ => h.congr rfl rfl
  case gantryReady => exact key.message hs fun _ h _ _ => State.unless_keeps h fun _ => closed.retry (by exact h.congr rfl rfl) _
  case stepDone => exact key.message hs fun _ h _ _ => h.stepDone _ _
  case gantryFault => exact key.message hs fun _ h _ _ => h.gantryFault _ _
  case statusQuery => exact key.message hs fun _ h _ _ => h.congr rfl rfl
  case overrun =>
    split
    · exact closed.settle (State.SlotsSound.becomeFaulted (by exact hs.congr rfl rfl) _ _ _ _)
    · exact hs
  case dwellEnd =>
    split
    · exact hs.endDwell _
    · exact hs
  case hoverTimeout =>
    split
    · exact closed.settle (closed.endBook (by exact hs.congr rfl rfl) _ _)
    · exact hs
  case pacingEnd =>
    unfold State.pacingReached
    split
    · exact closed.settle (by exact hs.congr rfl rfl)
    · exact hs
  case pacingRuleUnsatisfied =>
    unfold State.repace
    split
    · exact hs
    · exact hs.congr rfl rfl
  case sawTimerStep w k => cases k <;> exact hs.congr rfl rfl
  case cellClockTick => exact hs.congr rfl rfl
  case cellCommand =>
    split
    · exact hs
    · exact key.message hs fun _ h _ _ => h

/-- Settles O6: no command leaves a slot both claimed and suspect or a slot without its record. -/
theorem soundSlotsKept : Obligations.SoundSlotsKept := by
  intro s t hs ht
  unfold step at ht
  split at ht
  · next c rest _ => exact State.SlotsSound.exec (s := { s with pending := rest }) (by exact hs.congr rfl rfl) c ht
  · cases ht
    exact hs

end Sys2Proof.Machine
end

section
/-! PROOFS. The state that power-on leaves is sound, over any layout memory (R179). -/

namespace Sys2Proof.Machine

section
variable (memory : List Word)

@[simp] theorem State.atPowerOn_gantry (g : Gantry) : (State.atPowerOn memory).gantry g = .initial := by cases g <;> rfl

@[simp] theorem State.atPowerOn_saw (w : Saw) : (State.atPowerOn memory).saw w = .initial := by cases w <;> rfl

@[simp] theorem State.atPowerOn_port (p : Port) : (State.atPowerOn memory).port p = .initial := by
  rcases p with _ | w | g
  · rfl
  · cases w <;> rfl
  · cases g <;> rfl

@[simp] theorem State.atPowerOn_slot (n : Nat) : (State.atPowerOn memory).slot n = emptySlot := rfl

theorem GantryRecord.initial_sound : GantryRecord.initial.Sound where
  task _ h := by cases h
  empty _ := rfl
  fault := by simp [GantryRecord.initial]
  work := ⟨⟨rfl, rfl, rfl, rfl⟩, rfl, rfl⟩

theorem SawRecord.initial_sound : SawRecord.initial.Sound where
  limit := by decide
  windows := by decide
  pacing := by decide
  order := ⟨0, 0, 0, by decide⟩
  tags := by decide
  books _ h := by cases h
  offers := by decide
  waiting _ h := by cases h

theorem PortRecord.initial_sound : PortRecord.initial.Sound := by
  constructor <;> simp [PortRecord.initial]

/-- Before a layout is active the runway asks for nothing but OFFLINE gantries. -/
theorem State.atPowerOn_runwaySound : (State.atPowerOn memory).RunwaySound where
  noLayout := by simp [State.atPowerOn]
  reading _ := rfl
  valid _ h := by cases h
  before _ g := by simp [GantryRecord.initial]
  apart h := by cases h
  inside h := by cases h
  waiting g q h := by simp [GantryRecord.initial] at h
  outstanding g i h := by simp [GantryRecord.issued, GantryRecord.initial] at h

theorem State.atPowerOn_slotsSound : (State.atPowerOn memory).SlotsSound := ⟨rfl, fun _ h => by cases h⟩

theorem State.atPowerOn_workSound : (State.atPowerOn memory).WorkSound where
  gantry g := by rw [State.atPowerOn_gantry]; exact GantryRecord.initial_sound
  puts g n := by simp [emptySlot, GantryRecord.initial]
  picks g n := by simp [emptySlot, GantryRecord.initial]
  picked g n h := by simp [emptySlot] at h
  books g w tag := by simp [GantryRecord.initial, SawRecord.initial]
  offers g w := by simp [GantryRecord.initial, SawRecord.initial]
  closed _ g := by simp [GantryRecord.initial]

/-- All 4,096 records are FREE, none of them used since power-on (R20). -/
theorem State.atPowerOn_storeSound : (State.atPowerOn memory).StoreSound where
  pool := by
    simp [State.blanks, State.livePanels, State.atPowerOn, PerGantry.all, GantryRecord.panels, GantryRecord.initial,
      FreeList.order, List.range_eq_range']
  serials := by simp [State.livePanels, State.atPowerOn, PerGantry.all, GantryRecord.panels, GantryRecord.initial]
  range p h := by simp [State.livePanels, State.atPowerOn, PerGantry.all, GantryRecord.panels, GantryRecord.initial] at h
  counter := by simp [State.atPowerOn, maxSerial]
  limits n := by simp [emptySlot, State.height, State.heightOf]
  room g n h := by simp [GantryRecord.initial] at h

theorem State.atPowerOn_sound : (State.atPowerOn memory).Sound where
  runway := State.atPowerOn_runwaySound memory
  slots := State.atPowerOn_slotsSound memory
  saws w := by rw [State.atPowerOn_saw]; exact SawRecord.initial_sound
  work := State.atPowerOn_workSound memory
  store := State.atPowerOn_storeSound memory

theorem State.atPowerOn_portsSound : (State.atPowerOn memory).PortsSound := fun p => by
  rw [State.atPowerOn_port]; exact PortRecord.initial_sound

theorem State.atPowerOn_locatorSound : (State.atPowerOn memory).LocatorSound := by
  refine ⟨rfl, fun ws h => ?_⟩
  rw [List.eq_of_mem_replicate h]
  exact ⟨rfl, .refl _, by decide⟩

end

/-- Settles O2: each block's power-on values, and the soundness of what power-on leaves. -/
theorem resetHoldsPowerOnValues : Obligations.ResetHoldsPowerOnValues := by
  refine ⟨State.atPowerOn_sound _, State.atPowerOn_portsSound _, State.atPowerOn_locatorSound _, rfl, rfl, rfl, rfl, rfl, rfl,
    rfl, rfl, rfl, rfl, rfl, rfl, rfl, fun g => ?_, fun w => ?_, fun p => ?_⟩
  · cases g <;> exact ⟨rfl, rfl, rfl, rfl, rfl, rfl, rfl, rfl, rfl, rfl, rfl, rfl⟩
  · cases w <;> exact ⟨rfl, rfl, rfl, rfl, rfl⟩
  · rw [State.reset, State.atPowerOn_port]
    exact ⟨rfl, rfl, rfl, rfl, rfl, rfl, rfl, rfl, rfl, rfl⟩

end Sys2Proof.Machine
end

section
/-! PROOFS. The planner's messages to the Stack Map: KIND_SET (R16, R18), STACK_REGISTER (R22, R29, R30), STACK_WITHDRAW (R31) and
SLOT_RELEASE (R28). -/

namespace Sys2Proof.Machine

/-! ## Checks taken entry by entry -/

section
variable {α : Type} (code : RefusalCode) (c : α → Bool) (f : Nat → α)

/-- A check over entries names the first failing one by its position. -/
theorem entryCheck_eq_some {n i : Nat} (hi : i < n) (hc : c (f i) = true) (hj : ∀ j, j < i → c (f j) = false) :
    entryCheck code c ((List.range n).map f) = some (code, i + 1) := by
  have : ((List.range n).map f).findIdx? c = some i :=
    List.findIdx?_eq_some_iff_getElem.mpr ⟨by simpa using hi, by simpa using hc, fun j hji => by simpa using hj j hji⟩
  simp [entryCheck, firstPosition, this]

theorem entryCheck_eq_none {n : Nat} (h : ∀ i, i < n → c (f i) = false) :
    entryCheck code c ((List.range n).map f) = none := by
  have : ((List.range n).map f).findIdx? c = none := by simpa using h
  simp [entryCheck, firstPosition, this]

end

@[simp] theorem firstOf_nil : firstOf [] = none := rfl

@[simp] theorem firstOf_none (cs : List (Option Failure)) : firstOf (none :: cs) = firstOf cs := rfl

@[simp] theorem firstOf_some (f : Failure) (cs : List (Option Failure)) : firstOf (some f :: cs) = some f := rfl

@[simp] theorem checkOf_true (code : RefusalCode) (d : Nat) : checkOf true code d = some (code, d) := rfl

@[simp] theorem checkOf_false (code : RefusalCode) (d : Nat) : checkOf false code d = none := rfl

/-- A message whose own checks fail is refused and changes nothing. -/
theorem State.message_refused {s : State} {m : Message} {p : Port} {ws : List Word} {body : State → State × Reply}
    {c : RefusalCode} {d : Nat} (h : s.Ready p ⟨m.code, ws⟩ 1) (hc : m.check p ws = none) (ha : m.accepts s.cell = true)
    (hb : body (s.taken p) = (s.taken p, refusedReply m c d)) :
    s.message m p ws body = s.answered p (.refused m.code c (BitVec.ofNat 16 d)) :=
  State.message_answer h hc ha rfl hb

/-! ## STACK_REGISTER: the checks -/

theorem stackRegister_check {ws : List Word} (h : ws.length = 2 + 3 * word ws 1) :
    Message.stackRegister.check .planner ws = none := by
  simp [Message.check, Message.onPort, Message.payloadLength, Message.checkedFields, h]

theorem State.exec_stackRegister_refused {s : State} {ws : List Word} {c : RefusalCode} {d : Nat}
    (h : s.Ready .planner ⟨0x07, ws⟩ 1) (hl : ws.length = 2 + 3 * word ws 1) (hn : s.cell ≠ .noLayout)
    (hf : s.stackRegisterFailure ws = some (c, d)) :
    exec (.stackRegister .planner ws) s = .next (s.answered .planner (.refused 0x07 c (BitVec.ofNat 16 d))) := by
  have hf' : (s.taken .planner).stackRegisterFailure ws = some (c, d) := hf
  refine congrArg Host.Outcome.next (State.message_refused h (stackRegister_check hl) (by simpa [Message.accepts] using hn) ?_)
  simp only [State.stackRegister, hf', State.unless]

/-- Past checks 1 and 2 of TABLE 2.3 the failure is that of the slot and of the entries. -/
theorem State.stackRegisterFailure_at {s : State} {ws : List Word} {n : Nat} (h1 : 1 ≤ word ws 1) (h16 : word ws 1 ≤ 16)
    (hn : s.addressed (word ws 0) = some n) : s.stackRegisterFailure ws = s.stackFailureAt n (stackEntries ws) := by
  rw [State.stackRegisterFailure, if_neg (by omega), hn]

theorem State.fitsKind_iff (s : State) (code length width : Nat) : s.fitsKind code length width = true ↔
    ∃ k, s.kind code = some k ∧ 200 ≤ length ∧ length ≤ k.length ∧ 100 ≤ width ∧ width ≤ k.width := by
  simp [State.fitsKind, Option.any_eq_true]

theorem StackEntry.unsound_iff (e : StackEntry) : e.unsound = true ↔ 1023 < e.kind ∨ 1 < e.origin := by
  simp [StackEntry.unsound]

/-- The misfit of a remnant entry, where its kind is defined. -/
theorem State.badRemnant_iff (s : State) (e : StackEntry) : s.badRemnant e = true ↔ e.origin = 1 ∧
    ∀ k, s.kind e.kind = some k → ¬(200 ≤ e.length ∧ e.length ≤ k.length ∧ 100 ≤ e.width ∧ e.width ≤ k.width) := by
  rw [State.badRemnant, Bool.and_eq_true, decide_eq_true_iff, Bool.not_eq_true', ← Bool.not_eq_true, State.fitsKind_iff]
  simp only [not_exists, not_and]

theorem stackEntries_length (ws : List Word) : (stackEntries ws).length = word ws 1 := by simp [stackEntries]

theorem State.entriesHeight_eq (s : State) (ws : List Word) : s.entriesHeight (stackEntries ws) =
    ((List.range (word ws 1)).map fun i => s.thickness (stackEntryAt ws i).kind).sum := by
  simp [State.entriesHeight, stackEntries, Function.comp_def]

theorem State.stackTooFull_iff (s : State) (n : Nat) (ws : List Word) : s.stackTooFull n (stackEntries ws) = true ↔
    40 < (s.slot n).stack.length + word ws 1 ∨ s.geom.maxStackHeight < s.height n +
      ((List.range (word ws 1)).map fun i => s.thickness (stackEntryAt ws i).kind).sum := by
  rw [State.stackTooFull, decide_eq_true_iff, stackEntries_length, State.entriesHeight_eq]

/-- A slot that can take panels passes checks 3 to 5 of TABLE 2.3. -/
theorem State.slotChecks_pass {s : State} {n : Nat} (ha : s.hasPickArea n = true) (hc : (s.slot n).claim = none)
    (hs : (s.slot n).suspect = false) : s.slotChecks n = [none, none, none] := by
  simp [State.slotChecks, ha, State.unclaimed, hc, hs]

/-- Settles O33: each case names the first check of TABLE 2.3 that fails, those before it passing. -/
theorem stackRegisterRefused : Obligations.StackRegisterRefused := by
  intro s ws h hl hn refused run first none' unsound undefined misfit full
  have refuse {c : RefusalCode} {d : Nat} (hf : s.stackRegisterFailure ws = some (c, d)) : run = refused c d :=
    State.exec_stackRegister_refused h hl hn hf
  refine ⟨fun hw => refuse (if_pos hw), fun h1 h16 => ⟨fun ha => refuse ?_, fun n ha => ?_⟩⟩
  · rw [State.stackRegisterFailure, if_neg (by omega), ha]
  have hat := State.stackRegisterFailure_at h1 h16 ha
  refine ⟨fun hp => refuse ?_, fun hp hc => refuse ?_, fun hp hc hs => refuse ?_, fun hp hc hs => ?_⟩
  · simp [hat, State.stackFailureAt, State.slotChecks, hp]
  · simp [hat, State.stackFailureAt, State.slotChecks, hp, State.unclaimed, hc]
  · simp [hat, State.stackFailureAt, State.slotChecks, hp, State.unclaimed, hc, hs]
  have hslot := State.slotChecks_pass hp hc hs
  have sound (hu : none' unsound) : entryCheck .badField StackEntry.unsound (stackEntries ws) = none :=
    entryCheck_eq_none _ _ _ fun i hi => Bool.eq_false_iff.mpr ((StackEntry.unsound_iff _).not.mpr (hu i hi))
  have defined (hu : none' undefined) : entryCheck .unknownKind (fun e => (s.kind e.kind).isNone) (stackEntries ws) = none :=
    entryCheck_eq_none _ _ _ fun i hi => Bool.eq_false_iff.mpr (Option.isNone_iff_eq_none.not.mpr (hu i hi))
  have fit (hu : none' misfit) : entryCheck .badField s.badRemnant (stackEntries ws) = none :=
    entryCheck_eq_none _ _ _ fun i hi => Bool.eq_false_iff.mpr ((s.badRemnant_iff _).not.mpr (hu i hi))
  refine ⟨fun i hi => refuse ?_, fun hu i hi => refuse ?_, fun hu hd i hi => refuse ?_, fun hu hd hm hf => refuse ?_,
    fun hu hd hm hf hfree => refuse ?_⟩
  · have := entryCheck_eq_some .badField StackEntry.unsound (stackEntryAt ws) hi.1 ((StackEntry.unsound_iff _).mpr hi.2.1)
      fun j hj => Bool.eq_false_iff.mpr ((StackEntry.unsound_iff _).not.mpr (hi.2.2 j hj))
    simp [hat, State.stackFailureAt, hslot, stackEntries, this]
  · have := entryCheck_eq_some .unknownKind (fun e => (s.kind e.kind).isNone) (stackEntryAt ws) hi.1
      (Option.isNone_iff_eq_none.mpr hi.2.1)
      fun j hj => Bool.eq_false_iff.mpr (Option.isNone_iff_eq_none.not.mpr (hi.2.2 j hj))
    rw [← stackEntries] at this
    simp [hat, State.stackFailureAt, hslot, sound hu, this]
  · have := entryCheck_eq_some .badField s.badRemnant (stackEntryAt ws) hi.1 ((s.badRemnant_iff _).mpr hi.2.1)
      fun j hj => Bool.eq_false_iff.mpr ((s.badRemnant_iff _).not.mpr (hi.2.2 j hj))
    rw [← stackEntries] at this
    simp [hat, State.stackFailureAt, hslot, sound hu, defined hd, this]
  · simp [hat, State.stackFailureAt, hslot, sound hu, defined hd, fit hm, (s.stackTooFull_iff n ws).mpr hf]
  · have hfull := Bool.eq_false_iff.mpr ((s.stackTooFull_iff n ws).not.mpr hf)
    simp [hat, State.stackFailureAt, hslot, sound hu, defined hd, fit hm, hfull, stackEntries_length, hfree]

end Sys2Proof.Machine
end

section
/-! PROOFS. KIND_SET (R16, R18): the checks of the entries one after another, and what the written kind table holds. -/

namespace Sys2Proof.Machine

/-! ## The kind table -/

theorem find?_insertKind (code c : Nat) (k : Kind) (t : List (Nat × Kind)) :
    ((insertKind code k t).find? fun e => decide (e.1 = c)).map Prod.snd =
      if c = code then some k else (t.find? fun e => decide (e.1 = c)).map Prod.snd := by
  induction t with
  | nil => by_cases hc : c = code <;> simp [insertKind, hc, eq_comm]
  | cons e t ih =>
    unfold insertKind
    split
    · by_cases hc : c = code <;> simp [hc, List.find?_cons, Ne.symm, eq_comm]
    · split
      · next he => by_cases hc : c = code <;> simp_all [eq_comm]
      · next he =>
        rw [List.find?_cons, List.find?_cons]
        by_cases hc : e.1 = c
        · have : ¬c = code := fun h => he (hc.trans h)
          simp [hc, this]
        · simpa [hc] using ih

theorem find?_removeKind (code c : Nat) (t : List (Nat × Kind)) :
    ((removeKind code t).find? fun e => decide (e.1 = c)).map Prod.snd =
      if c = code then none else (t.find? fun e => decide (e.1 = c)).map Prod.snd := by
  unfold removeKind
  rw [List.find?_filter]
  by_cases hc : c = code
  · subst hc
    simp
  · have : (fun e : Nat × Kind => decide (decide (e.1 ≠ code) = true ∧ decide (e.1 = c) = true)) =
        fun e => decide (e.1 = c) := by
      funext e
      by_cases he : e.1 = c <;> simp [he, hc]
    rw [if_neg hc, this]

/-- Writing an entry changes the entry of its own kind alone. -/
theorem find?_writeKind (code c : Nat) (k : Option Kind) (t : List (Nat × Kind)) :
    ((writeKind code k t).find? fun e => decide (e.1 = c)).map Prod.snd =
      if c = code then k else (t.find? fun e => decide (e.1 = c)).map Prod.snd := by
  cases k with
  | none => exact find?_removeKind code c t
  | some k => exact find?_insertKind code c k t

/-- A kind that no entry of a KIND_SET names keeps its entry. -/
theorem State.kind_writeKinds_of_forall_ne (s : State) (es : List KindWrite) (c : Nat) (h : ∀ e ∈ es, e.code ≠ c) :
    (s.writeKinds es).kind c = s.kind c := by
  unfold State.writeKinds State.kind
  dsimp only
  generalize s.kinds = t
  induction es generalizing t with
  | nil => rfl
  | cons e es ih =>
    rw [List.foldl_cons, ih (fun e' he => h e' (List.mem_cons_of_mem _ he)), find?_writeKind,
      if_neg (h e List.mem_cons_self).symm]

/-- Of entries that name different kinds each is written. -/
theorem State.kind_writeKinds_of_mem (s : State) {es : List KindWrite} (hd : (es.map KindWrite.code).Nodup) {e : KindWrite}
    (he : e ∈ es) : (s.writeKinds es).kind e.code = e.kind := by
  induction es generalizing s with
  | nil => cases he
  | cons e' es ih =>
    obtain ⟨hn, hd'⟩ := List.nodup_cons.mp hd
    have hstep : s.writeKinds (e' :: es) = (s.writeKinds [e']).writeKinds es := rfl
    rw [hstep]
    rcases List.mem_cons.mp he with rfl | he
    · rw [State.kind_writeKinds_of_forall_ne _ _ _ fun e' he' hc => hn (List.mem_map.mpr ⟨e', he', hc⟩)]
      exact (find?_writeKind _ _ _ _).trans (if_pos rfl)
    · exact ih _ hd' he

/-! ## The checks of the entries -/

/-- The checks of a list of entries name the first entry that fails, each entry checked against those before it. -/
theorem State.kindEntriesFailure_eq_some (s : State) {es : List KindWrite} {earlier : List Nat} {i : Nat} {c : RefusalCode}
    (hi : i < es.length) (hc : s.kindWriteFailure (((es.take i).map KindWrite.code).reverse ++ earlier) es[i] = some c)
    (hj : ∀ j (h : j < i), s.kindWriteFailure (((es.take j).map KindWrite.code).reverse ++ earlier) es[j] = none) :
    s.kindEntriesFailure earlier es = some (c, es[i].code) := by
  induction es generalizing earlier i with
  | nil => simp at hi
  | cons e es ih =>
    rw [State.kindEntriesFailure]
    cases i with
    | zero =>
      have hc' : s.kindWriteFailure earlier e = some c := hc
      simp only [hc']
      rfl
    | succ i =>
      have h0 : s.kindWriteFailure earlier e = none := hj 0 (by omega)
      simp only [h0]
      exact ih (i := i) (by simpa using hi) (by simpa using hc) fun j h => by simpa using hj (j + 1) (by omega)

theorem State.kindEntriesFailure_eq_none (s : State) {es : List KindWrite} {earlier : List Nat}
    (hj : ∀ j (h : j < es.length), s.kindWriteFailure (((es.take j).map KindWrite.code).reverse ++ earlier) es[j] = none) :
    s.kindEntriesFailure earlier es = none := by
  induction es generalizing earlier with
  | nil => rfl
  | cons e es ih =>
    have h0 : s.kindWriteFailure earlier e = none := hj 0 (by simp)
    rw [State.kindEntriesFailure]
    simp only [h0]
    refine ih fun j h => ?_
    have := hj (j + 1) (by simpa using h)
    simpa using this

theorem kindWrites_length (ws : List Word) : (kindWrites ws).length = word ws 0 := by simp [kindWrites]

theorem kindWrites_getElem (ws : List Word) (i : Nat) (h : i < (kindWrites ws).length) :
    (kindWrites ws)[i] = kindWriteAt ws i := by simp [kindWrites]

/-- The codes of the entries before entry `i`, as its checks meet them. -/
theorem mem_codes_before (ws : List Word) {i : Nat} (hi : i < word ws 0) (c : Nat) :
    c ∈ (((kindWrites ws).take i).map KindWrite.code).reverse ++ [] ↔ ∃ j, j < i ∧ (kindWriteAt ws j).code = c := by
  simp only [kindWrites, ← List.map_take, List.take_range, List.append_nil, List.mem_reverse, List.map_map, List.mem_map,
    List.mem_range, Function.comp]
  rw [Nat.min_eq_left hi.le]

theorem Kind.inRange_iff (k : Kind) : k.inRange = true ↔ k.material ≤ 63 ∧ 30 ≤ k.thickness ∧ k.thickness ≤ 600 ∧
    200 ≤ k.length ∧ k.length ≤ 5600 ∧ 100 ≤ k.width ∧ k.width ≤ 2200 := decide_eq_true_iff

/-- An entry fails checks 2 to 4 of R16: its code is too high or named before, or a field is out of range. -/
def KindWrite.Bad (earlier : List Nat) (e : KindWrite) : Prop :=
  1023 < e.code ∨ e.code ∈ earlier ∨ 1 < e.defined ∨ ∃ k, e.kind = some k ∧ k.inRange = false

theorem State.kindWriteFailure_of_bad (s : State) {earlier : List Nat} {e : KindWrite} (h : e.Bad earlier) :
    s.kindWriteFailure earlier e = some .badField := by
  unfold State.kindWriteFailure
  split
  · rfl
  · split
    · rfl
    · next h1 h2 =>
      refine if_pos ?_
      rcases h with h | h | h | ⟨k, hk, hr⟩
      · exact absurd h h1
      · exact absurd (List.contains_iff_mem.mpr h) h2
      · exact .inl h
      · exact .inr (by simp [hk, hr])

theorem State.kindWriteFailure_of_not_bad (s : State) {earlier : List Nat} {e : KindWrite} (h : ¬e.Bad earlier) :
    s.kindWriteFailure earlier e = if e.kind ≠ s.kind e.code ∧ s.kindInUse e.code = true then some .kindInUse else none := by
  simp only [KindWrite.Bad, not_or, not_exists, not_and] at h
  obtain ⟨hcode, hnew, hdef, hrange⟩ := h
  unfold State.kindWriteFailure
  rw [if_neg hcode, if_neg (by simpa using hnew), if_neg]
  rintro (hd | hr)
  · exact hdef hd
  · obtain ⟨k, hk, hk'⟩ := (Option.any_eq_true _ _).mp hr
    exact hrange k hk (by simpa using hk')

/-! ## The message -/

theorem kindSet_check {ws : List Word} (h : ws.length = 1 + 6 * word ws 0) : Message.kindSet.check .planner ws = none := by
  simp [Message.check, Message.onPort, Message.payloadLength, Message.checkedFields, h]

/-- The checks of a KIND_SET read nothing of the ports. -/
theorem State.kindSetFailure_taken (s : State) (p : Port) (ws : List Word) :
    (s.taken p).kindSetFailure ws = s.kindSetFailure ws := by
  have entries (es : List KindWrite) (earlier : List Nat) :
      (s.taken p).kindEntriesFailure earlier es = s.kindEntriesFailure earlier es := by
    induction es generalizing earlier with
    | nil => rfl
    | cons e es ih =>
      have hw : (s.taken p).kindWriteFailure earlier e = s.kindWriteFailure earlier e := rfl
      simp only [State.kindEntriesFailure, hw, ih]
  simp only [State.kindSetFailure, entries]

theorem State.exec_kindSet_refused {s : State} {ws : List Word} {c : RefusalCode} {d : Nat}
    (h : s.Ready .planner ⟨0x03, ws⟩ 1) (hl : ws.length = 1 + 6 * word ws 0) (hn : s.cell = .closed)
    (hf : s.kindSetFailure ws = some (c, d)) :
    exec (.kindSet .planner ws) s = .next (s.answered .planner (.refused 0x03 c (BitVec.ofNat 16 d))) := by
  have hf' : (s.taken .planner).kindSetFailure ws = some (c, d) := (s.kindSetFailure_taken _ _).trans hf
  refine congrArg Host.Outcome.next (State.message_refused h (kindSet_check hl) (by simpa [Message.accepts] using hn) ?_)
  simp only [State.kindSet, hf', State.unless]

theorem State.exec_kindSet_accepted {s : State} {ws : List Word} (h : s.Ready .planner ⟨0x03, ws⟩ 1)
    (hl : ws.length = 1 + 6 * word ws 0) (hn : s.cell = .closed) (hf : s.kindSetFailure ws = none) :
    exec (.kindSet .planner ws) s =
      .next ((s.writeKinds (kindWrites ws)).answered .planner (.accepted 0x03 0 none)) := by
  have hf' : (s.taken .planner).kindSetFailure ws = none := (s.kindSetFailure_taken _ _).trans hf
  have hb : (s.taken .planner).kindSet ws = ((s.writeKinds (kindWrites ws)).taken .planner, acceptedReply .kindSet) := by
    simp only [State.kindSet, hf', State.unless]
    rfl
  refine congrArg Host.Outcome.next (State.message_effect h (kindSet_check hl) (by simpa [Message.accepts] using hn) rfl
    (by rw [hb]; rfl) ?_ rfl)
  rw [hb]
  exact State.settle_of_quiet _ h.settled

/-- Settles O29: the failure is that of the first entry that fails, and entries that pass name different kinds. -/
theorem kindSetWritesWhole : Obligations.KindSetWritesWhole := by
  intro s ws h hl hn refused code kind bad inUse
  have refuse {c : RefusalCode} {d : Nat} (hf : s.kindSetFailure ws = some (c, d)) : exec (.kindSet .planner ws) s = refused c d :=
    State.exec_kindSet_refused h hl hn hf
  refine ⟨fun hw => refuse (if_pos hw), fun h1 h8 => ?_⟩
  have hentries : s.kindSetFailure ws = s.kindEntriesFailure [] (kindWrites ws) := if_neg (by omega)
  let before := fun i => (((kindWrites ws).take i).map KindWrite.code).reverse ++ []
  have hbad {i : Nat} (hi : i < word ws 0) : (kindWriteAt ws i).Bad (before i) ↔ bad i := by
    have hrange (k : Kind) : k.inRange = false ↔ ¬(k.material ≤ 63 ∧ 30 ≤ k.thickness ∧ k.thickness ≤ 600 ∧ 200 ≤ k.length ∧
        k.length ≤ 5600 ∧ 100 ≤ k.width ∧ k.width ≤ 2200) := by
      rw [← k.inRange_iff, Bool.not_eq_true]
    simp only [KindWrite.Bad, before, mem_codes_before ws hi, hrange]
    rfl
  have failure {i : Nat} (hi : i < word ws 0) (hb : ¬bad i) : s.kindWriteFailure (before i) (kindWriteAt ws i) =
      if kind i ≠ s.kind (code i) ∧ s.kindInUse (code i) = true then some .kindInUse else none :=
    s.kindWriteFailure_of_not_bad ((hbad hi).not.mpr hb)
  have pass {i : Nat} (hi : i < word ws 0) (hp : ¬bad i ∧ ¬inUse i) :
      s.kindWriteFailure (before i) (kindWriteAt ws i) = none := by
    rw [failure hi hp.1, if_neg hp.2]
  have first {i : Nat} {c : RefusalCode} (hi : i < word ws 0) (hj : ∀ j, j < i → ¬bad j ∧ ¬inUse j)
      (hc : s.kindWriteFailure (before i) (kindWriteAt ws i) = some c) : s.kindSetFailure ws = some (c, code i) := by
    have := s.kindEntriesFailure_eq_some (es := kindWrites ws) (earlier := []) (i := i) (c := c)
      (by rwa [kindWrites_length]) (by rwa [kindWrites_getElem])
      fun j h => by rw [kindWrites_getElem]; exact pass (h.trans hi) (hj j h)
    rw [hentries, this, kindWrites_getElem]
    rfl
  refine ⟨fun i hi hj => ⟨fun hb => refuse (first hi hj ?_), fun hb hu => refuse (first hi hj ?_)⟩, fun hp => ?_⟩
  · exact s.kindWriteFailure_of_bad ((hbad hi).mpr hb)
  · rw [failure hi hb, if_pos hu]
  have hf : s.kindSetFailure ws = none := by
    rw [hentries]
    refine s.kindEntriesFailure_eq_none fun j hj => ?_
    rw [kindWrites_getElem]
    rw [kindWrites_length] at hj
    exact pass hj (hp j hj)
  have hnew : ((kindWrites ws).map KindWrite.code).Nodup := by
    rw [List.nodup_iff_pairwise_ne, List.pairwise_iff_getElem]
    intro j i hj hi hji
    simp only [List.length_map, kindWrites_length] at hj hi
    simp only [List.getElem_map, kindWrites_getElem]
    exact fun hc => (hp i hi).1 (.inr (.inl ⟨j, hji, hc⟩))
  refine ⟨_, State.exec_kindSet_accepted h hl hn hf, fun i hi => ?_, fun c hc => ?_⟩
  · refine s.kind_writeKinds_of_mem hnew (e := kindWriteAt ws i) ?_
    exact List.mem_map.mpr ⟨i, List.mem_range.mpr hi, rfl⟩
  · refine s.kind_writeKinds_of_forall_ne _ c fun e he => ?_
    obtain ⟨i, hi, rfl⟩ := List.mem_map.mp he
    exact hc i (List.mem_range.mp hi)

end Sys2Proof.Machine
end

section
/-! PROOFS. STACK_WITHDRAW and SLOT_RELEASE (R28, R31), and the registration of STACK_REGISTER (R22, R30). -/

namespace Sys2Proof.Machine

/-! ## Store changes -/

theorem State.storeChange_of_nobodyWaits {s : State} (h : s.NobodyWaits) : s.storeChange = s := by
  have hr (g : Gantry) : s.retry g = s := by rw [State.retry, if_neg (by rw [h g]; decide)]
  rw [State.storeChange, hr, hr]

theorem State.freePanels_eq (s : State) (ps : List Panel) :
    s.freePanels ps = { s with free := { s.free with returned := s.free.returned ++ ps.map Panel.record } } := by
  unfold State.freePanels
  induction ps generalizing s with
  | nil => simp
  | cons p ps ih => rw [List.foldl_cons, ih]; simp [State.freeRecord, FreeList.return]

theorem State.slot_set_self (s : State) (n : Nat) : s.slots.set n (s.slot n) = s.slots := by
  unfold State.slot
  refine List.ext_getElem (by simp) fun i h1 h2 => ?_
  by_cases hi : n = i
  · subst hi
    simp [List.getElem?_eq_getElem h2]
  · simp [hi]

/-! ## STACK_WITHDRAW -/

theorem slotRelease_check (a : Word) : Message.slotRelease.check .planner [a] = none := rfl

/-- What a withdrawal takes and what it leaves of a stack. -/
theorem Slot.withdrawn_eq {r : Slot} {asked : Nat} {below above : List Panel} (hs : r.stack = below ++ above)
    (ha : if asked = 0 then below = [] else above.length = min asked r.stack.length) :
    withdrawCount asked r.stack.length = above.length ∧ r.withdrawn asked = above.reverse := by
  have hcount : withdrawCount asked r.stack.length = above.length := by
    unfold withdrawCount
    split at ha
    · next h0 => rw [if_pos h0, hs, ha]; rfl
    · next h0 => rw [if_neg h0, ha]
  refine ⟨hcount, ?_⟩
  rw [Slot.withdrawn, hcount, hs, List.length_append, Nat.add_sub_cancel, List.drop_left]

/-- A withdrawal while no search waits. -/
theorem State.withdraw_eq {s : State} (hw : s.NobodyWaits) {n asked : Nat} {below above : List Panel}
    (hs : (s.slot n).stack = below ++ above)
    (ha : if asked = 0 then below = [] else above.length = min asked (s.slot n).stack.length) :
    s.withdraw n asked = { s with
      slots := s.slots.set n { s.slot n with stack := below }
      free := { s.free with returned := s.free.returned ++ above.reverse.map Panel.record } } := by
  obtain ⟨hcount, hdrawn⟩ := Slot.withdrawn_eq hs ha
  unfold State.withdraw
  rw [hdrawn, hcount]
  split
  · next hnil =>
    obtain rfl : above = [] := List.reverse_eq_nil_iff.mp hnil
    have hslot : ({ s.slot n with stack := below } : Slot) = s.slot n := by rw [← List.append_nil below, ← hs]
    rw [hslot, State.slot_set_self]
    simp
  · have htake : (s.slot n).stack.take ((s.slot n).stack.length - above.length) = below := by
      rw [hs, List.length_append, Nat.add_sub_cancel, List.take_left]
    rw [State.freePanels_eq, State.unlay, htake]
    exact State.storeChange_of_nobodyWaits hw

/-- A port that is ready for a longer reply is ready for a shorter one. -/
theorem State.Ready.mono {s : State} {p : Port} {f : Frame} {j k : Nat} (h : s.Ready p f k) (hj : j ≤ k) : s.Ready p f j :=
  ⟨h.settled, h.fronted, by have := h.room; omega⟩

theorem State.exec_stackWithdraw_refused {s : State} {a c : Word} {code : RefusalCode} {d : Nat}
    (h : s.Ready .planner ⟨0x08, [a, c]⟩ 1) (hn : s.cell ≠ .noLayout) (hf : s.withdrawFailure [a, c] = some (code, d)) :
    exec (.stackWithdraw .planner [a, c]) s =
      .next (s.answered .planner (.refused 0x08 code (BitVec.ofNat 16 d))) := by
  have hf' : (s.taken .planner).withdrawFailure [a, c] = some (code, d) := hf
  refine congrArg Host.Outcome.next (State.message_refused h rfl (by simpa [Message.accepts] using hn) ?_)
  simp only [State.stackWithdraw, hf', State.unless]

theorem Reply.parts_withdrawReply_le (p : Port) (ns : List Nat) : (Reply.withdrawReply ns).parts p ≤ 2 := by
  simp only [Reply.parts]
  split <;> omega

theorem State.exec_stackWithdraw_accepted {s : State} {a c : Word} {n : Nat} {below above : List Panel}
    (h : s.Ready .planner ⟨0x08, [a, c]⟩ 2) (hn : s.cell ≠ .noLayout) (hc : c.toNat ≤ 40) (hw : s.NobodyWaits)
    (haddr : s.addressed a.toNat = some n) (hclaim : (s.slot n).claim = none) (hs : (s.slot n).stack = below ++ above)
    (ha : if c.toNat = 0 then below = [] else above.length = min c.toNat (s.slot n).stack.length) :
    exec (.stackWithdraw .planner [a, c]) s = .next (State.answered
      { s with
        slots := s.slots.set n { s.slot n with stack := below }
        free := { s.free with returned := s.free.returned ++ above.reverse.map Panel.record } } .planner
      (.withdrawReply (above.reverse.map Panel.serial))) := by
  have hword : word [a, c] 1 = c.toNat := rfl
  have hf : (s.taken .planner).withdrawFailure [a, c] = none := by
    have haddr' : (s.taken .planner).addressed (word [a, c] 0) = some n := haddr
    have hfree : (s.taken .planner).unclaimed n = true := decide_eq_true hclaim
    rw [State.withdrawFailure, if_neg (by rw [hword]; omega), haddr']
    simp only [hfree, Bool.not_true, checkOf_false]
  have hb : (s.taken .planner).stackWithdraw [a, c] =
      ((s.taken .planner).withdraw n c.toNat,
        .withdrawReply (((s.slot n).withdrawn c.toNat).map Panel.serial)) := by
    have haddr' : ((s.taken .planner).addressed (word [a, c] 0)).getD 0 = n := congrArg (Option.getD · 0) haddr
    simp only [State.stackWithdraw, hf, State.unless, haddr']
    rfl
  have he : (s.taken .planner).withdraw n c.toNat = _ := State.withdraw_eq (s := s.taken .planner) hw hs ha
  refine congrArg Host.Outcome.next (State.message_effect (h.mono (Reply.parts_withdrawReply_le _ _)) rfl
    (by simpa [Message.accepts] using hn) rfl ?_ ?_ rfl)
  · rw [hb, (Slot.withdrawn_eq hs ha).2]
  · rw [hb, he]
    exact State.settle_of_quiet _ h.settled

/-! ## SLOT_RELEASE -/

/-- A suspect flag is cleared while no search waits. -/
theorem State.releaseSlot_of_nobodyWaits {s : State} (hw : s.NobodyWaits) {n : Nat} (h : (s.slot n).suspect = true) :
    s.releaseSlot n = { s with slots := s.slots.set n { s.slot n with suspect := false } } := by
  rw [State.releaseSlot, if_pos h]
  exact State.storeChange_of_nobodyWaits hw

theorem State.slotRelease_addressed {s : State} {a : Word} {n : Nat} (h : s.addressed a.toNat = some n) :
    s.slotRelease [a] = (s.releaseSlot n, acceptedReply .slotRelease) := by
  have h' : s.addressed (word [a] 0) = some n := h
  simp only [State.slotRelease, h']

/-- Settles O34: the refusals in R31's order, the withdrawal as a split of the stack, and the three outcomes of SLOT_RELEASE. -/
theorem withdrawAndRelease : Obligations.WithdrawAndRelease := by
  refine ⟨?_, ?_⟩
  · intro s a c hn refused run
    refine ⟨fun h => ?_, fun h hc hw n below above haddr _ hclaim hs ha =>
      State.exec_stackWithdraw_accepted h hn hc hw haddr hclaim hs ha⟩
    have hword : word [a, c] 1 = c.toNat := rfl
    have haddrWord : s.addressed (word [a, c] 0) = s.addressed a.toNat := rfl
    refine ⟨fun hc => State.exec_stackWithdraw_refused h hn (if_pos hc), fun hc haddr =>
      State.exec_stackWithdraw_refused h hn ?_, fun hc n haddr hclaim => State.exec_stackWithdraw_refused h hn ?_⟩
    · rw [State.withdrawFailure, if_neg (by rw [hword]; omega), haddrWord, haddr]
      rfl
    · have hfree : s.unclaimed n = false := decide_eq_false hclaim
      rw [State.withdrawFailure, if_neg (by rw [hword]; omega), haddrWord, haddr]
      simp only [hfree, Bool.not_false, checkOf_true]
  intro s a h hn
  refine ⟨fun haddr => ?_, fun n haddr hsus => ?_, fun n haddr hin hsus hw => ?_⟩
  · have hb : (s.taken .planner).slotRelease [a] = (s.taken .planner, refusedReply .slotRelease .badSlot a.toNat) := by
      have haddr' : (s.taken .planner).addressed (word [a] 0) = none := haddr
      simp only [State.slotRelease, haddr']
      rfl
    have := State.message_refused (body := fun t => t.slotRelease [a]) h (slotRelease_check a) (by simpa [Message.accepts] using hn) hb
    rw [BitVec.ofNat_toNat, BitVec.setWidth_eq] at this
    exact congrArg Host.Outcome.next this
  · refine congrArg Host.Outcome.next (State.message_answer h rfl (by simpa [Message.accepts] using hn) rfl ?_)
    have hsus' : ¬((s.taken .planner).slot n).suspect = true := Bool.eq_false_iff.mp hsus
    rw [State.slotRelease_addressed (s := s.taken .planner) haddr, State.releaseSlot, if_neg hsus']
    rfl
  · have hb : (s.taken .planner).slotRelease [a] = _ := State.slotRelease_addressed (s := s.taken .planner) haddr
    refine congrArg Host.Outcome.next (State.message_effect h rfl (by simpa [Message.accepts] using hn) rfl
      (by rw [hb]; rfl) ?_ rfl)
    rw [hb]
    dsimp only
    rw [State.releaseSlot_of_nobodyWaits (s := s.taken .planner) hw hsus]
    exact State.settle_of_quiet _ h.settled

end Sys2Proof.Machine
end

section
/-! PROOFS. The registration of STACK_REGISTER (R22, R30): the free list taken from its head, the serial that is given, and what
laying one panel after another comes to. -/

namespace Sys2Proof.Machine

/-! ## The free list -/

theorem State.freeCount_eq (s : State) : s.freeCount = s.free.order.length := by simp [State.freeCount, FreeList.order]

/-- A free list that is not empty is its head and then its tail (R20). -/
theorem FreeList.order_eq_cons {f : FreeList} (h : f.order ≠ []) : f.order = f.head :: f.tail.order := by
  unfold FreeList.order FreeList.head FreeList.tail at *
  by_cases hf : f.fresh < poolSize
  · obtain ⟨m, hm⟩ : ∃ m, poolSize - f.fresh = m + 1 := ⟨poolSize - f.fresh - 1, by omega⟩
    have hm' : poolSize - (f.fresh + 1) = m := by omega
    simp only [if_pos hf, hm, hm', List.range'_succ, List.cons_append]
  · have h0 : poolSize - f.fresh = 0 := by omega
    simp only [if_neg hf, h0, List.range'_zero, List.nil_append] at h ⊢
    cases hr : f.returned with
    | nil => exact absurd hr h
    | cons r rs => rfl

theorem FreeList.order_return (f : FreeList) (r : Nat) : (f.return r).order = f.order ++ [r] := by
  simp [FreeList.order, FreeList.return]

/-! ## Serials -/

/-- The `j`-th value of the serials from `n` on, cyclically from 16,777,215 to 1 (R22). -/
def serialAfter (n j : Nat) : Nat := (n - 1 + j) % 16777215 + 1

/-- A value a serial can take (R22). -/
def IsSerial (n : Nat) : Prop := 1 ≤ n ∧ n ≤ maxSerial

theorem serialAfter_zero {n : Nat} (h : IsSerial n) : serialAfter n 0 = n := by
  obtain ⟨h1, h2⟩ := h
  unfold maxSerial at h2
  unfold serialAfter; omega

theorem nextSerial_eq {n : Nat} (h : IsSerial n) : nextSerial n = n % 16777215 + 1 := by
  obtain ⟨h1, h2⟩ := h
  unfold nextSerial maxSerial at *
  split <;> omega

theorem serialAfter_isSerial (n j : Nat) : IsSerial (serialAfter n j) := by
  unfold IsSerial serialAfter maxSerial; omega

theorem nextSerial_isSerial {n : Nat} (h : IsSerial n) : IsSerial (nextSerial n) := by
  obtain ⟨h1, h2⟩ := h
  unfold IsSerial nextSerial maxSerial at *
  split <;> omega

theorem serialAfter_nextSerial {n : Nat} (h : IsSerial n) (j : Nat) : serialAfter (nextSerial n) j = serialAfter n (j + 1) := by
  rw [nextSerial_eq h]
  obtain ⟨h1, h2⟩ := h
  unfold maxSerial at h2
  unfold serialAfter; omega

theorem serialAfter_inj {n i j : Nat} (hi : i < 16777215) (hj : j < 16777215) (h : serialAfter n i = serialAfter n j) :
    i = j := by
  unfold serialAfter at h; omega

theorem State.serialLive_iff (s : State) (n : Nat) : s.serialLive n = true ↔ n ∈ s.livePanels.map Panel.serial := by
  simp [State.serialLive]

/-- The search for a serial ends at the first value that is not live, or runs out of fuel. -/
theorem State.findSerial_spec (s : State) (fuel : Nat) {n : Nat} (h : IsSerial n) :
    ∃ m, m ≤ fuel ∧ s.findSerial fuel n = serialAfter n m ∧ (∀ j, j < m → s.serialLive (serialAfter n j) = true) ∧
      (s.serialLive (serialAfter n m) = true → m = fuel) := by
  induction fuel generalizing n with
  | zero => exact ⟨0, le_rfl, (serialAfter_zero h).symm, fun j hj => absurd hj (Nat.not_lt_zero j), fun _ => rfl⟩
  | succ fuel ih =>
    unfold State.findSerial
    split
    · next hl =>
      obtain ⟨m, hm, he, hlive, hend⟩ := ih (nextSerial_isSerial h)
      rw [serialAfter_nextSerial h] at he hend
      refine ⟨m + 1, by omega, he, fun j hj => ?_, fun hl' => by rw [hend hl']⟩
      cases j with
      | zero => rwa [serialAfter_zero h]
      | succ j =>
        rw [← serialAfter_nextSerial h]
        exact hlive j (by omega)
    · next hl => exact ⟨0, by omega, (serialAfter_zero h).symm, fun j hj => absurd hj (Nat.not_lt_zero j),
        fun hl' => absurd (serialAfter_zero h ▸ hl') hl⟩

/-- While at most 4,096 panels are LIVE the serial that is given is the first value from the counter on that is not live. -/
theorem State.serialToGive_spec {s : State} (hc : IsSerial s.serialCounter) (hl : s.livePanels.length ≤ poolSize) :
    ∃ m, s.serialToGive = serialAfter s.serialCounter m ∧ s.serialLive s.serialToGive = false ∧
      ∀ j, j < m → s.serialLive (serialAfter s.serialCounter j) = true := by
  obtain ⟨m, hm, he, hlive, hend⟩ := s.findSerial_spec (poolSize + 1) hc
  refine ⟨m, he, ?_, hlive⟩
  by_contra hne
  rw [State.serialToGive, he, Bool.not_eq_false] at hne
  have hfuel := hend hne
  have hnodup : ((List.range (poolSize + 1)).map (serialAfter s.serialCounter)).Nodup := by
    refine List.Nodup.map_on (fun i hi j hj h => ?_) List.nodup_range
    have := List.mem_range.mp hi
    have := List.mem_range.mp hj
    unfold poolSize at *
    exact serialAfter_inj (by omega) (by omega) h
  have hsub : (List.range (poolSize + 1)).map (serialAfter s.serialCounter) ⊆ s.livePanels.map Panel.serial := by
    intro v hv
    obtain ⟨j, hj, rfl⟩ := List.mem_map.mp hv
    exact (s.serialLive_iff _).mp (hlive j (hfuel ▸ List.mem_range.mp hj))
  have := (hnodup.subperm hsub).length_le
  simp only [List.length_map, List.length_range] at this
  omega

theorem State.serialToGive_isSerial {s : State} (hc : IsSerial s.serialCounter) : IsSerial s.serialToGive := by
  obtain ⟨m, -, he, -⟩ := s.findSerial_spec (poolSize + 1) hc
  rw [State.serialToGive, he]
  exact serialAfter_isSerial _ _

/-! ## The LIVE panels -/

/-- The panels in the stacks of all slots but one. -/
def State.otherPiles (s : State) (n : Nat) : List Panel := (s.slots.eraseIdx n).flatMap Slot.stack

theorem State.piles_perm (s : State) (n : Nat) : (s.slots.flatMap Slot.stack).Perm ((s.slot n).stack ++ s.otherPiles n) := by
  unfold State.otherPiles State.slot
  by_cases hn : n < s.slots.length
  · have := ((List.getElem_cons_eraseIdx_perm hn).flatMap_right Slot.stack).symm
    simpa [hn] using this
  · simp [hn, List.eraseIdx_of_length_le (Nat.not_lt.mp hn), emptySlot]

/-- What the stacks hold once one slot's record is replaced. -/
theorem State.piles_setSlot_perm (s : State) {n : Nat} (hn : n < s.slots.length) (r : Slot) :
    ((s.setSlot n r).slots.flatMap Slot.stack).Perm (r.stack ++ s.otherPiles n) := by
  have h := (s.setSlot n r).piles_perm n
  have hslot : (s.setSlot n r).slot n = r := by rw [State.slot_setSlot, if_pos hn]
  have hother : (s.setSlot n r).otherPiles n = s.otherPiles n :=
    congrArg (List.flatMap Slot.stack) List.eraseIdx_set_eq
  rwa [hslot, hother] at h

/-- The panels on the heads and in the fault records. -/
def State.headPanels (s : State) : List Panel := s.gantries.west.panels ++ s.gantries.east.panels

theorem State.livePanels_eq (s : State) : s.livePanels = s.slots.flatMap Slot.stack ++ s.headPanels := by
  simp [State.livePanels, State.headPanels]

/-- A panel laid on a slot is LIVE besides those that were. -/
theorem State.livePanels_lay_perm (s : State) {n : Nat} (hn : n < s.slots.length) (p : Panel) :
    (s.lay n p).livePanels.Perm (p :: s.livePanels) := by
  rw [State.livePanels_eq, State.livePanels_eq]
  have h1 : ((s.lay n p).slots.flatMap Slot.stack).Perm _ := s.piles_setSlot_perm hn { s.slot n with stack := (s.slot n).stack ++ [p] }
  have h2 := s.piles_perm n
  have hmid : ((s.slot n).stack ++ [p] ++ s.otherPiles n).Perm (p :: ((s.slot n).stack ++ s.otherPiles n)) := by
    rw [List.append_assoc]
    exact List.perm_middle
  exact (h1.trans (hmid.trans (h2.symm.cons p))).append_right _

/-! ## Laying the panels -/

/-- The panels that a registration of entries lays on a slot, in message order. -/
def State.panelsOf (s : State) (n : Nat) : List StackEntry → List Panel
  | [] => []
  | e :: es => s.registered e :: (s.registerOne n e).panelsOf n es

theorem State.panelsOf_length (s : State) (n : Nat) (es : List StackEntry) : (s.panelsOf n es).length = es.length := by
  induction es generalizing s with
  | nil => rfl
  | cons e es ih => simp [State.panelsOf, ih]

/-- The serial counter once some serials have been given, the last of them being the one before the counter (R22). -/
def counterAfter (counter : Nat) (serials : List Nat) (i : Nat) : Nat :=
  if i = 0 then counter else serials.getD (i - 1) 0 % 16777215 + 1

theorem counterAfter_cons (counter a : Nat) (serials : List Nat) (i : Nat) :
    counterAfter counter (a :: serials) (i + 1) = counterAfter (a % 16777215 + 1) serials i := by
  cases i <;> simp [counterAfter]

/-- The kind, origin and dimensions of the panel that an entry becomes (R30). -/
structure State.Fills (s : State) (e : StackEntry) (p : Panel) : Prop where
  kind : p.kind = e.kind
  origin : p.origin = if e.origin = 1 then .remnant else .raw
  size : ∀ k, s.kind e.kind = some k → (p.length, p.width) = if e.origin = 1 then (e.length, e.width) else (k.length, k.width)

theorem State.registered_fills (s : State) (e : StackEntry) : s.Fills e (s.registered e) := by
  unfold State.registered State.newPanel
  split
  · next h => exact ⟨rfl, by rw [if_pos h], fun _ _ => by rw [if_pos h]⟩
  · next h => exact ⟨rfl, by rw [if_neg h], fun k hk => by rw [if_neg h, hk]; rfl⟩

@[simp] theorem State.registered_serial (s : State) (e : StackEntry) : (s.registered e).serial = s.serialToGive := by
  unfold State.registered; split <;> rfl

@[simp] theorem State.registered_record (s : State) (e : StackEntry) : (s.registered e).record = s.free.head := by
  unfold State.registered; split <;> rfl

/-- What a registration needs of the store for a number of entries: free records, room among the LIVE panels, a serial counter
in range and a slot to lay them on. -/
structure State.Registers (s : State) (n count : Nat) : Prop where
  slot : n < s.slots.length
  free : count ≤ s.free.order.length
  live : s.livePanels.length + count ≤ poolSize
  counter : IsSerial s.serialCounter

theorem State.Registers.registerOne {s : State} {n count : Nat} (h : s.Registers n (count + 1)) (e : StackEntry) :
    (s.registerOne n e).Registers n count := by
  have hcons := FreeList.order_eq_cons (f := s.free) (List.ne_nil_of_length_pos (by have := h.free; omega))
  refine ⟨by
      show n < (s.slots.set n _).length
      rw [List.length_set]
      exact h.slot, ?_, ?_,
    nextSerial_isSerial (State.serialToGive_isSerial h.counter)⟩
  · have := h.free
    rw [hcons, List.length_cons] at this
    exact Nat.le_of_succ_le_succ this
  · have hp : ((s.registerOne n e).livePanels).Perm (_ :: s.livePanels) := s.takeRecord.livePanels_lay_perm h.slot (s.registered e)
    rw [hp.length_eq, List.length_cons]
    have := h.live
    omega

/-- A registration lays the panels, takes their records from the head of the free list and leaves the counter past the last
serial. -/
theorem State.registerAll_eq {s : State} {n : Nat} {es : List StackEntry} (h : s.Registers n es.length) :
    ∃ free : FreeList, free.order = s.free.order.drop es.length ∧
      (s.panelsOf n es).map Panel.record = s.free.order.take es.length ∧
      s.registerAll n es = { s with
        slots := s.slots.set n { s.slot n with stack := (s.slot n).stack ++ s.panelsOf n es }
        free := free
        serialCounter := counterAfter s.serialCounter ((s.panelsOf n es).map Panel.serial) es.length } := by
  induction es generalizing s with
  | nil =>
    refine ⟨s.free, rfl, rfl, ?_⟩
    have hslot : ({ s.slot n with stack := (s.slot n).stack ++ s.panelsOf n [] } : Slot) = s.slot n := by simp [State.panelsOf]
    rw [hslot, State.slot_set_self]
    rfl
  | cons e es ih =>
    obtain ⟨free, hfree, hrec, heq⟩ := ih (h.registerOne e)
    have hcons := FreeList.order_eq_cons (f := s.free) (List.ne_nil_of_length_pos (by have := h.free; simp at this; omega))
    have hslot : (s.registerOne n e).slot n = { s.slot n with stack := (s.slot n).stack ++ [s.registered e] } := by
      rw [State.registerOne, State.lay, State.slot_setSlot]
      exact if_pos h.slot
    have hslots : (s.registerOne n e).slots = s.slots.set n { s.slot n with stack := (s.slot n).stack ++ [s.registered e] } := rfl
    have hcounter : (s.registerOne n e).serialCounter = s.serialToGive % 16777215 + 1 :=
      nextSerial_eq (State.serialToGive_isSerial h.counter)
    refine ⟨free, ?_, ?_, ?_⟩
    · rw [hfree, hcons]; rfl
    · rw [State.panelsOf, List.map_cons, hrec, hcons, State.registered_record]; rfl
    · have hall : s.registerAll n (e :: es) = (s.registerOne n e).registerAll n es := rfl
      rw [hall, heq, hslot, hslots, hcounter, List.set_set]
      simp only [State.panelsOf, List.map_cons, List.length_cons, counterAfter_cons, State.registered_serial,
        List.append_assoc, List.singleton_append]
      generalize (s.registerOne n e).panelsOf n es = ps
      simp only [State.registerOne, State.takeRecord, State.giveSerial, State.lay, State.setSlot]

/-- The serial of each panel is the first value, from the counter as it stands by then, that is not live by then (R22). -/
theorem State.panelsOf_serial {s : State} {n : Nat} {es : List StackEntry} (h : s.Registers n es.length) {i : Nat} {p : Panel}
    (hp : (s.panelsOf n es)[i]? = some p) :
    ∃ m, p.serial = serialAfter (counterAfter s.serialCounter ((s.panelsOf n es).map Panel.serial) i) m ∧
      ¬(s.serialLive p.serial = true ∨ ∃ j, j < i ∧ ((s.panelsOf n es).map Panel.serial)[j]? = some p.serial) ∧
      ∀ j, j < m → (s.serialLive (serialAfter (counterAfter s.serialCounter ((s.panelsOf n es).map Panel.serial) i) j) = true ∨
        ∃ k, k < i ∧ ((s.panelsOf n es).map Panel.serial)[k]? =
          some (serialAfter (counterAfter s.serialCounter ((s.panelsOf n es).map Panel.serial) i) j)) := by
  induction es generalizing s i with
  | nil => simp [State.panelsOf] at hp
  | cons e es ih =>
    have hlen : s.livePanels.length ≤ poolSize := by have := h.live; omega
    obtain ⟨m, he, hdead, hlive⟩ := State.serialToGive_spec h.counter hlen
    cases i with
    | zero =>
      obtain rfl : s.registered e = p := by simpa [State.panelsOf] using hp
      refine ⟨m, by simpa [counterAfter] using he, by simp [hdead], fun j hj => .inl (by simpa [counterAfter] using hlive j hj)⟩
    | succ i =>
      have hp' : ((s.registerOne n e).panelsOf n es)[i]? = some p := by simpa [State.panelsOf] using hp
      have hcounter : (s.registerOne n e).serialCounter = s.serialToGive % 16777215 + 1 :=
        nextSerial_eq (State.serialToGive_isSerial h.counter)
      have hperm : ((s.registerOne n e).livePanels).Perm (s.registered e :: s.livePanels) :=
        s.takeRecord.livePanels_lay_perm h.slot (s.registered e)
      -- live once the first panel lies there: its own serial, or live before
      have hnow (v : Nat) (serials : List Nat) : ((s.registerOne n e).serialLive v = true ∨ ∃ j, j < i ∧ serials[j]? = some v) ↔
          (s.serialLive v = true ∨ ∃ j, j < i + 1 ∧ (s.serialToGive :: serials)[j]? = some v) := by
        rw [State.serialLive_iff, (hperm.map Panel.serial).mem_iff, State.serialLive_iff, List.map_cons, List.mem_cons,
          State.registered_serial]
        constructor
        · rintro ((rfl | hv) | ⟨j, hj, hv⟩)
          · exact .inr ⟨0, by omega, rfl⟩
          · exact .inl hv
          · exact .inr ⟨j + 1, by omega, by simpa using hv⟩
        · rintro (hv | ⟨j, hj, hv⟩)
          · exact .inl (.inr hv)
          · cases j with
            | zero => exact .inl (.inl (by simpa using hv.symm))
            | succ j => exact .inr ⟨j, by omega, by simpa using hv⟩
      obtain ⟨m, hm, hdead', hlive'⟩ := ih (h.registerOne e) hp'
      simp only [State.panelsOf, List.map_cons, counterAfter_cons, State.registered_serial]
      rw [hcounter] at hm hlive'
      exact ⟨m, hm, (hnow _ _).not.mp hdead', fun j hj => (hnow _ _).mp (hlive' j hj)⟩

/-- The panels agree with their entries. -/
theorem State.panelsOf_fills {s : State} {n : Nat} {es : List StackEntry} {i : Nat} {p : Panel}
    (hp : (s.panelsOf n es)[i]? = some p) : ∃ e, es[i]? = some e ∧ s.Fills e p := by
  induction es generalizing s i with
  | nil => simp [State.panelsOf] at hp
  | cons e es ih =>
    cases i with
    | zero =>
      obtain rfl : s.registered e = p := by simpa [State.panelsOf] using hp
      exact ⟨e, rfl, s.registered_fills e⟩
    | succ i =>
      obtain ⟨e', he, hf⟩ := ih (s := s.registerOne n e) (by simpa [State.panelsOf] using hp)
      exact ⟨e', he, hf.kind, hf.origin, hf.size⟩

theorem State.heightOf_append (s : State) (ps qs : List Panel) : s.heightOf (ps ++ qs) = s.heightOf ps + s.heightOf qs := by
  simp [State.heightOf]

/-- The panels of a registration are as thick as the entries say. -/
theorem State.heightOf_panelsOf (s t : State) (n : Nat) (es : List StackEntry) :
    t.heightOf (s.panelsOf n es) = t.entriesHeight es := by
  induction es generalizing s with
  | nil => rfl
  | cons e es ih =>
    have := ih (s.registerOne n e)
    simp only [State.heightOf, State.entriesHeight, State.panelsOf, List.map_cons, List.sum_cons] at this ⊢
    rw [this, (s.registered_fills e).kind]

end Sys2Proof.Machine
end

section
/-! PROOFS. STACK_REGISTER (R30): the message that passes TABLE 2.3 registers its entries and names what it has laid. -/

namespace Sys2Proof.Machine

/-- The reply to a registration of entries that lay on a slot. -/
theorem State.registerReply_registerAll {s : State} {n : Nat} {es : List StackEntry} (h : s.Registers n es.length) :
    (s.registerAll n es).registerReply n (s.slot n).stack.length =
      .registerReply (s.geom.slotName n) ((s.panelsOf n es).map Panel.serial) ((s.slot n).stack.length + es.length)
        (s.height n + s.entriesHeight es) (s.freeCount - es.length) := by
  obtain ⟨free, hfree, -, heq⟩ := State.registerAll_eq h
  have hslots : (s.registerAll n es).slots = s.slots.set n { s.slot n with stack := (s.slot n).stack ++ s.panelsOf n es } :=
    congrArg State.slots heq
  have hstack : ((s.registerAll n es).slot n).stack = (s.slot n).stack ++ s.panelsOf n es := by
    simp [State.slot, hslots, h.slot]
  have hthick (c : Nat) : (s.registerAll n es).thickness c = s.thickness c := by rw [heq]; rfl
  have hheight : (s.registerAll n es).height n = s.height n + s.entriesHeight es := by
    have hof (ps : List Panel) : (s.registerAll n es).heightOf ps = s.heightOf ps := by simp [State.heightOf, hthick]
    rw [State.height, hstack, hof, State.heightOf_append, State.heightOf_panelsOf]
    rfl
  have hcount : (s.registerAll n es).freeCount = s.freeCount - es.length := by
    rw [State.freeCount_eq, State.freeCount_eq, congrArg State.free heq]
    simp [hfree]
  have hgeom : (s.registerAll n es).geom = s.geom := by rw [heq]; rfl
  rw [State.registerReply, hstack, hheight, hcount, hgeom]
  simp [State.panelsOf_length]

/-- A STACK_REGISTER whose entries pass every check of TABLE 2.3. -/
theorem State.stackRegisterFailure_eq_none {s : State} {ws : List Word} {n : Nat} (h1 : 1 ≤ word ws 1) (h16 : word ws 1 ≤ 16)
    (ha : s.addressed (word ws 0) = some n) (hp : s.hasPickArea n = true) (hc : (s.slot n).claim = none)
    (hs : (s.slot n).suspect = false)
    (hentries : ∀ i, i < word ws 1 → (stackEntryAt ws i).kind ≤ 1023 ∧ (stackEntryAt ws i).origin ≤ 1 ∧
      ∃ k, s.kind (stackEntryAt ws i).kind = some k ∧ ((stackEntryAt ws i).origin = 1 → 200 ≤ (stackEntryAt ws i).length ∧
        (stackEntryAt ws i).length ≤ k.length ∧ 100 ≤ (stackEntryAt ws i).width ∧ (stackEntryAt ws i).width ≤ k.width))
    (hcount : (s.slot n).stack.length + word ws 1 ≤ 40)
    (hheight : s.height n + (((List.range (word ws 1)).map fun i => s.thickness (stackEntryAt ws i).kind).sum) ≤
      s.geom.maxStackHeight) (hfree : word ws 1 ≤ s.freeCount) : s.stackRegisterFailure ws = none := by
  have sound : entryCheck .badField StackEntry.unsound (stackEntries ws) = none :=
    entryCheck_eq_none _ _ _ fun i hi => Bool.eq_false_iff.mpr <| (StackEntry.unsound_iff _).not.mpr <| by
      have := hentries i hi; omega
  have defined : entryCheck .unknownKind (fun e => (s.kind e.kind).isNone) (stackEntries ws) = none :=
    entryCheck_eq_none _ _ _ fun i hi => by
      obtain ⟨-, -, k, hk, -⟩ := hentries i hi
      simp [hk]
  have fit : entryCheck .badField s.badRemnant (stackEntries ws) = none :=
    entryCheck_eq_none _ _ _ fun i hi => Bool.eq_false_iff.mpr <| (s.badRemnant_iff _).not.mpr <| by
      obtain ⟨-, -, k, hk, hfit⟩ := hentries i hi
      rintro ⟨ho, hbad⟩
      exact hbad k hk (hfit ho)
  have hroom : s.stackTooFull n (stackEntries ws) = false :=
    Bool.eq_false_iff.mpr <| (s.stackTooFull_iff n ws).not.mpr <| by omega
  have hpool : decide (s.freeCount < (stackEntries ws).length) = false :=
    decide_eq_false (by rw [stackEntries_length]; omega)
  rw [State.stackRegisterFailure_at h1 h16 ha, State.stackFailureAt, State.slotChecks_pass hp hc hs, sound, defined, fit, hroom,
    hpool]
  rfl

/-- Settles O32: the panels are `State.panelsOf`, laid one after another from the head of the free list. -/
theorem stackRegisterLaysPanels : Obligations.StackRegisterLaysPanels := by
  intro s ws n h hl hn h1 h16 ha hin hp hc hs entry hentries hcount hheight hfree hlive hlow hhigh
  let t := s.taken .planner
  have hf : t.stackRegisterFailure ws = none :=
    State.stackRegisterFailure_eq_none (s := t) h1 h16 ha hp hc hs hentries hcount hheight hfree
  have hr : t.Registers n (stackEntries ws).length := by
    rw [stackEntries_length]
    exact ⟨hin, by rw [← State.freeCount_eq]; exact hfree, hlive, ⟨hlow, hhigh⟩⟩
  obtain ⟨free, hdrop, htake, heq⟩ := State.registerAll_eq hr
  have hreply := State.registerReply_registerAll hr
  rw [State.entriesHeight_eq] at hreply
  rw [stackEntries_length] at hdrop htake heq hreply
  have hb : t.stackRegister ws = (t.registerAll n (stackEntries ws),
      (t.registerAll n (stackEntries ws)).registerReply n (t.slot n).stack.length) := by
    have ha' : (t.addressed (word ws 0)).getD 0 = n := congrArg (Option.getD · 0) ha
    simp only [State.stackRegister, hf, State.unless, ha']
  refine ⟨t.panelsOf n (stackEntries ws), free,
    counterAfter s.serialCounter ((t.panelsOf n (stackEntries ws)).map Panel.serial) (word ws 1), ?_⟩
  intro start value live
  refine ⟨by rw [State.panelsOf_length, stackEntries_length], fun i p hi => ?_, rfl, htake, hdrop, ?_⟩
  · obtain ⟨e, he, hkind, horigin, hsize⟩ := State.panelsOf_fills hi
    obtain rfl : entry i = e := by
      have hi' : i < word ws 1 := by
        have := (List.getElem?_eq_some_iff.mp he).1
        rwa [stackEntries_length] at this
      simpa [stackEntries, hi'] using he
    exact ⟨hkind, horigin, hsize, State.panelsOf_serial hr hi⟩
  · refine congrArg Host.Outcome.next (State.message_effect h (stackRegister_check hl) (by simpa [Message.accepts] using hn) rfl
      ?_ ?_ rfl)
    · show (t.stackRegister ws).2 = _
      rw [hb]
      exact hreply
    · show (t.stackRegister ws).1.settle = _
      rw [hb]
      dsimp only
      rw [heq]
      exact State.settle_of_quiet _ h.settled

end Sys2Proof.Machine
end

section
/-! PROOFS. STEP_DONE where it ends a task (R34, R35, R78, R106, R158, R163): what the completion leaves, up to the consequences it
prompts, and that none of them is due. -/

namespace Sys2Proof.Machine

/-! ## States but for what they have prompted -/

/-- The state with no consequence prompted. -/
def State.quiet (s : State) : State := { s with duties := .none }

theorem State.quiet_of_quiet {s : State} (h : s.duties = .none) : s.quiet = s := by rw [State.quiet, ← h]

/-- Settling a state in which nothing waits and nothing is there to give only clears what was prompted. -/
theorem State.settle_eq_quiet {s : State} (hw : s.NobodyWaits) (hg : ∀ g, (s.gantry g).state ≠ .waitGrant)
    (hn : s.NothingToGive) : s.settle = s.quiet :=
  s.settle_of_nothing_to_give (fun g _ => hw g) (fun g _ => hg g) hn

theorem both_gantries {P : Gantry → Prop} (g : Gantry) (h : P g) (ho : P (otherGantry g)) (k : Gantry) : P k := by
  rcases eq_or_eq_other g k with rfl | rfl
  · exact h
  · exact ho

theorem GantryRecord.waits_of_state {r : GantryRecord} (hs : r.state ≠ .stranded) (hd : r.state ≠ .dwell) : r.waits = false := by
  simp [GantryRecord.waits, hs, hd]

/-! ## An accepted STEP_DONE -/

theorem stepDone_check (g : Gantry) (k x o : Word) (ho : o.toNat ≤ 3) :
    Message.stepDone.check (.gantry g) [k, x, o] = none := by
  simp [Message.check, Message.onPort, Message.payloadLength, Message.checkedFields, word, ho]

/-- A gantry's record is replaced, and what that prompts is noted. -/
theorem State.setGantry_eq (s : State) (g : Gantry) (r : GantryRecord) :
    ∃ d, s.setGantry g r = { s with gantries := s.gantries.set g r, duties := d } := ⟨_, rfl⟩

/-- A record with the state and the reservation that the gantry has prompts nothing. -/
theorem State.setGantry_of_same {s : State} {g : Gantry} {r : GantryRecord} (hs : r.state = (s.gantry g).state)
    (hr : r.reservation = (s.gantry g).reservation) : s.setGantry g r = { s with gantries := s.gantries.set g r } := by
  rw [State.setGantry, if_pos ⟨hs, hr⟩]

/-- The last travel direction after a travel (R95). -/
theorem travelDirection_orElse (a b : Nat) (l : Option Direction) : ((travelDirection a b).orElse fun _ => l) =
    if a < b then some .east else if b < a then some .west else l := by
  unfold travelDirection
  split
  · rfl
  · split <;> rfl

/-- The gantry's record as its step has completed with OK. -/
def State.doneRecord (s : State) (g : Gantry) (c : Step) (granted : Span) (x : Nat) : GantryRecord :=
  { s.completedRecord g c granted x with lastOutcome := some .ok }

/-- The state in which a gantry's step has completed with OK and its task has not been taken further. -/
def State.done (s : State) (g : Gantry) (c : Step) (granted : Span) (x : Nat) (d : Duties) : State :=
  { s with gantries := s.gantries.set g (s.doneRecord g c granted x), duties := d }

theorem State.done_gantry (s : State) (g : Gantry) (c : Step) (granted : Span) (x : Nat) (d : Duties) :
    (s.done g c granted x d).gantry g = s.doneRecord g c granted x := PerGantry.get_set_same _ _ _

theorem State.done_other (s : State) (g : Gantry) (c : Step) (granted : Span) (x : Nat) (d : Duties) :
    (s.done g c granted x d).gantry (otherGantry g) = s.gantry (otherGantry g) := PerGantry.get_set_other _ _ _

/-- The outstanding step completes with OK inside its granted span. -/
theorem State.acceptStep_ok {s : State} {g : Gantry} {c : Step} {granted : Span} {x : Nat} (h : granted.holds x = true) :
    ∃ d, s.acceptStep g c granted x .ok = (s.done g c granted x d).stepCompleted g c true := by
  have he : (s.noteOutcome g .ok).completedRecord g c granted x = s.doneRecord g c granted x := by
    cases g <;> rfl
  obtain ⟨d, hd⟩ := (s.noteOutcome g .ok).setGantry_eq g (s.doneRecord g c granted x)
  refine ⟨d, ?_⟩
  rw [State.acceptStep, if_pos h, State.completeStep, he, hd]
  simp only [State.noteOutcome, State.setGantry, PerGantry.set_set]
  rfl

/-- A STEP_DONE with OK, for the outstanding step and inside its granted span, is accepted: the step completes, and what the
task's next move settles to is what the message leaves. -/
theorem State.exec_stepDone_ok {s E : State} {g : Gantry} {k x : Word} {c : Step} {i : Issued} (hn : s.cell ≠ .noLayout)
    (h : s.Ready (.gantry g) ⟨0x32, [k, x, 0]⟩ 1) (hstate : (s.gantry g).state = .stepping)
    (hc : (s.gantry g).current = some c) (hi : c.issued = some i) (hk : i.token.toNat = k.toNat)
    (hlo : i.span.lo ≤ x.toNat) (hhi : x.toNat ≤ i.span.hi) (ho : (E.port (.gantry g)).outbound = (s.port (.gantry g)).outbound)
    (hs : ∀ d, (((s.taken (.gantry g)).done g c i.span x.toNat d).stepCompleted g c true).settle = E.taken (.gantry g)) :
    exec (.stepDone (.gantry g) [k, x, 0]) s = .next (E.answered (.gantry g) (.accepted 0x32 0 none)) := by
  let t := s.taken (.gantry g)
  have hout : (t.gantry g).outstanding (word [k, x, 0] 0) = some (c, i.span) := by
    have h1 : (t.gantry g).state = .stepping := hstate
    have h2 : (t.gantry g).current = some c := hc
    simp [GantryRecord.outstanding, h1, h2, hi, word, hk]
  have hb : t.stepDone g [k, x, 0] = (t.acceptStep g c i.span x.toNat .ok, acceptedReply .stepDone) := by
    simp only [State.stepDone, hout]
    rfl
  obtain ⟨d, hd⟩ := t.acceptStep_ok (g := g) (c := c) (granted := i.span) (x := x.toNat)
    (by simp [Span.holds, hlo, hhi])
  refine congrArg Host.Outcome.next (State.message_effect h (stepDone_check g k x 0 (by decide))
    (by simpa [Message.accepts] using hn) rfl ?_ ?_ ho)
  · show (t.stepDone g [k, x, 0]).2 = _
    rw [hb]; rfl
  · show (t.stepDone g [k, x, 0]).1.settle = _
    rw [hb]
    dsimp only
    rw [hd]
    exact hs d

/-- A gantry that makes a step and one that waits for nothing: no search waits. -/
theorem State.nobodyWaits_of_stepping {s : State} {g : Gantry} (h : (s.gantry g).state = .stepping)
    (ho : (s.gantry (otherGantry g)).waits = false) : s.NobodyWaits :=
  both_gantries g (GantryRecord.waits_of_state (by rw [h]; decide) (by rw [h]; decide)) ho

/-- A gantry that has become IDLE and one that waits for nothing: settling only clears what was prompted. -/
theorem State.settle_of_idle {s : State} {g : Gantry} (h : (s.gantry g).state = .idle)
    (hg : (s.gantry (otherGantry g)).state ≠ .waitGrant) (ho : (s.gantry (otherGantry g)).waits = false)
    (hn : s.NothingToGive) : s.settle = s.quiet :=
  s.settle_eq_quiet (both_gantries g (GantryRecord.waits_of_state (by rw [h]; decide) (by rw [h]; decide)) ho)
    (both_gantries g (by rw [h]; decide) hg) hn

theorem State.releaseClaim_of_nobodyWaits {s : State} {n : Nat} (hw : s.NobodyWaits) (hc : (s.slot n).claim ≠ none) :
    s.releaseClaim n = s.setSlot n { s.slot n with claim := none } := by
  rw [State.releaseClaim, if_neg hc]
  exact State.storeChange_of_nobodyWaits hw

/-! ## What the ports hold -/

@[simp] theorem PortRecord.wake_carrierUp (r : PortRecord) : r.wake.carrierUp = r.carrierUp := by
  unfold PortRecord.wake; split <;> rfl

/-- A pushed message leaves every carrier as it is. -/
theorem State.push_carriers (s : State) (p : Port) (m : Pushed) (q : Port) :
    ((s.push p m).port q).carrierUp = (s.port q).carrierUp := by
  rw [State.push, State.setPort_port]
  split
  · next h =>
    rw [h, PortRecord.push]
    split
    · exact PortRecord.wake_carrierUp _
    · rfl
  · rfl

/-- Settling where a gantry has become IDLE, told of a state that differs in its ports and in what it has prompted alone. -/
theorem State.settle_idle_eq {v t : State} {ps : PerPort PortRecord} {d : Duties} {g : Gantry}
    (hv : v = { t with ports := ps, duties := d }) (hps : ∀ p, (ps.get p).carrierUp = (t.port p).carrierUp)
    (h : (t.gantry g).state = .idle) (hg : (t.gantry (otherGantry g)).state ≠ .waitGrant)
    (ho : (t.gantry (otherGantry g)).waits = false) (hn : t.NothingToGive) :
    v.settle = { t with ports := ps, duties := .none } := by
  subst hv
  exact State.settle_of_idle (s := { t with ports := ps, duties := d }) h hg ho (hn.of_ports ps d hps)

/-! ## The end of a return -/

/-- A put that completes while no search waits: the panel lies on the slot and the claim is gone. -/
theorem State.putOk_eq {s : State} {g : Gantry} {n : Nat} {p : Panel} (hp : (s.gantry g).carried = some p)
    (hn : n < s.slots.length) (hc : (s.slot n).claim ≠ none) (hw : s.NobodyWaits) :
    s.putOk g n = State.becomeIdle (State.putEnds { s with
      slots := s.slots.set n { s.slot n with stack := (s.slot n).stack ++ [p], claim := none }
      gantries := s.gantries.set g { s.gantry g with carried := none } } g n p.serial) g := by
  have hempty : s.setGantry g { s.gantry g with carried := none } =
      { s with gantries := s.gantries.set g { s.gantry g with carried := none } } := State.setGantry_of_same rfl rfl
  let t : State := { s with gantries := s.gantries.set g { s.gantry g with carried := none } }
  have hslot : (t.lay n p).slot n = { s.slot n with stack := (s.slot n).stack ++ [p] } := by
    rw [State.lay, State.slot_setSlot]
    exact if_pos hn
  have hwait : (t.lay n p).NobodyWaits := by
    have hother : (t.lay n p).gantry (otherGantry g) = s.gantry (otherGantry g) := PerGantry.get_set_other _ _ _
    have hown : (t.lay n p).gantry g = { s.gantry g with carried := none } := PerGantry.get_set_same _ _ _
    exact both_gantries g (by rw [hown]; exact hw g) (by rw [hother]; exact hw _)
  have hrel : (t.lay n p).releaseClaim n = { t with
      slots := s.slots.set n { s.slot n with stack := (s.slot n).stack ++ [p], claim := none } } := by
    rw [State.releaseClaim_of_nobodyWaits hwait (by rw [hslot]; exact hc), hslot]
    simp only [State.setSlot, State.lay, List.set_set]
    rfl
  unfold State.putOk
  simp only [hp, hempty]
  rw [show State.lay { s with gantries := s.gantries.set g { s.gantry g with carried := none } } n p = t.lay n p from rfl, hrel]

/-- The state in which a put has completed with OK: the panel lies on the slot, the claim is gone, the head is empty. -/
def State.putDown (s : State) (g : Gantry) (n : Nat) (p : Panel) (r : GantryRecord) (d : Duties) : State :=
  { s with
    slots := s.slots.set n { s.slot n with stack := (s.slot n).stack ++ [p], claim := none }
    gantries := s.gantries.set g { r with carried := none }
    duties := d }

theorem State.done_putOk {s : State} {g : Gantry} {c : Step} {v : Span} {x n : Nat} {p : Panel} (d : Duties)
    (hstate : (s.gantry g).state = .stepping) (hkind : c.kind = .travelPut) (hslot : c.slot = some n) (hin : n < s.slots.length)
    (hclaim : (s.slot n).claim ≠ none) (hp : (s.gantry g).carried = some p)
    (hwaits : (s.gantry (otherGantry g)).waits = false) :
    (s.done g c v x d).stepCompleted g c true =
      ((s.putDown g n p (s.doneRecord g c v x) d).putEnds g n p.serial).becomeIdle g := by
  have hrecord : ((s.done g c v x d).gantry g).carried = some p := by rw [State.done_gantry]; exact hp
  have hcomplete : (s.done g c v x d).stepCompleted g c true = (s.done g c v x d).putOk g n := by
    simp only [State.stepCompleted, hkind, hslot]
  rw [hcomplete, State.putOk_eq hrecord hin hclaim
    (State.nobodyWaits_of_stepping (by rw [State.done_gantry]; exact hstate) (by rw [State.done_other]; exact hwaits)),
    State.done_gantry]
  simp only [State.done, PerGantry.set_set]
  rfl

/-- A gantry's record as its task ends and it becomes IDLE (R148). -/
def GantryRecord.idled (r : GantryRecord) : GantryRecord :=
  { r with
    state := .idle
    task := none
    current := none
    setAside := none
    former := none
    dwellEnd := none
    hold := none }

theorem State.becomeIdle_eq (s : State) (g : Gantry) :
    ∃ d, s.becomeIdle g = { s with gantries := s.gantries.set g (s.gantry g).idled, duties := d } := ⟨_, rfl⟩

/-- Settles O44: the put lays the panel and idles the gantry, and nothing that this prompts is due. -/
theorem returnPutOnStack : Obligations.ReturnPutOnStack := by
  intro s g k x c i a n p hn h hstate hc hi hk hlo hhi hkind hslot hin hclaim ha hp hgrant hwaits t run
  let v := fun d => (s.taken (.gantry g)).putDown g n p (s.doneRecord g c i.span x.toNat) d
  have hvg (d : Duties) : (v d).gantry g = { s.doneRecord g c i.span x.toNat with carried := none } := PerGantry.get_set_same _ _ _
  have htask (d : Duties) : ((v d).gantry g).task = some a := (congrArg GantryRecord.task (hvg d)).trans ha
  have hcomplete (d : Duties) := State.done_putOk (s := s.taken (.gantry g)) (x := x.toNat) (v := i.span) d hstate hkind hslot hin
    (by show (s.slot n).claim ≠ none; simp [hclaim]) hp hwaits
  have htg : (t.gantry g).state = .idle := congrArg GantryRecord.state (PerGantry.get_set_same _ _ _)
  have hto : t.gantry (otherGantry g) = s.gantry (otherGantry g) := PerGantry.get_set_other _ _ _
  have hidled (d : Duties) : (v d).gantries.set g ((v d).gantry g).idled = t.gantries := by
    have hdir := travelDirection_orElse (s.pos g) c.target (s.gantry g).lastDirection
    rw [hvg]
    simp only [v, State.putDown, PerGantry.set_set, GantryRecord.idled, State.doneRecord, State.completedRecord, hdir, t]
    rfl
  refine ⟨?_, ?_⟩
  · intro hka hng
    refine State.exec_stepDone_ok hn h hstate hc hi hk hlo hhi rfl fun d => ?_
    have hends : (v d).putEnds g n p.serial = v d := by
      simp only [State.putEnds, htask, Option.map_some, hka]
    obtain ⟨d', hd'⟩ := (v d).becomeIdle_eq g
    rw [hidled] at hd'
    rw [hcomplete]
    calc State.settle (((v d).putEnds g n p.serial).becomeIdle g)
        = State.settle { v d with gantries := t.gantries, duties := d' } := by rw [hends, hd']
      _ = { t with ports := (s.taken (.gantry g)).ports, duties := .none } :=
          State.settle_idle_eq (d := d') rfl (s.taken_carriers _) htg (by rw [hto]; exact hgrant) (by rw [hto]; exact hwaits) hng
      _ = t.taken (.gantry g) := State.quiet_of_quiet (s := t.taken (.gantry g)) h.settled
  · intro w o hka ho u hng
    let report : Pushed := .offerReport
      ⟨o.kind, o.length, o.width, .stored, none, p.serial, some ⟨n, n / s.geom.bays, n % s.geom.bays + 1⟩⟩
    refine State.exec_stepDone_ok (E := u.push (.saw w) report) hn h hstate hc hi hk hlo hhi rfl fun d => ?_
    have hends : (v d).putEnds g n p.serial = State.push { v d with saws := u.saws } (.saw w) report := by
      have hoffer : (v d).offerOf g w = some o := ho
      simp only [State.putEnds, htask, Option.map_some, hka, State.endOffer, hoffer]
      rfl
    obtain ⟨d', hd'⟩ := (State.push { v d with saws := u.saws } (.saw w) report).becomeIdle_eq g
    have hd'' : (State.push { v d with saws := u.saws } (.saw w) report).becomeIdle g =
        { State.push { v d with saws := u.saws } (.saw w) report with gantries := t.gantries, duties := d' } :=
      hd'.trans (by rw [← hidled d]; rfl)
    have hports (q : Port) : (((s.taken (.gantry g)).push (.saw w) report).ports.get q).carrierUp = (u.port q).carrierUp :=
      (State.push_carriers _ _ _ q).trans (s.taken_carriers _ q)
    rw [hcomplete]
    calc State.settle (((v d).putEnds g n p.serial).becomeIdle g)
        = State.settle { State.push { v d with saws := u.saws } (.saw w) report with gantries := t.gantries, duties := d' } := by
          rw [hends, hd'']
      _ = { u with ports := ((s.taken (.gantry g)).push (.saw w) report).ports, duties := .none } :=
          State.settle_idle_eq (d := d') rfl hports htg (by show (t.gantry _).state ≠ _; rw [hto]; exact hgrant)
            (by show (t.gantry _).waits = _; rw [hto]; exact hwaits) hng
      _ = (u.push (.saw w) report).taken (.gantry g) :=
          State.quiet_of_quiet (s := (u.push (.saw w) report).taken (.gantry g)) h.settled

end Sys2Proof.Machine
end

section
/-! PROOFS. STEP_DONE where the PLACE of a book's last panel releases the book (R35, R137, R138, R158). -/

namespace Sys2Proof.Machine

/-! ## The book a gantry assembles -/

/-- A change of a book that leaves its tag and its state. -/
def Book.KeepsPlace (f : Book → Book) : Prop := ∀ b, (f b).tag = b.tag ∧ (f b).state = b.state

theorem find?_updateAssembling {f : Book → Book} (hf : Book.KeepsPlace f) (tag : Word) (bs : List Book) :
    ((updateAssembling tag f bs).find? fun b => decide (b.tag = tag ∧ b.state = .assembling)) =
      (bs.find? fun b => decide (b.tag = tag ∧ b.state = .assembling)).map f := by
  unfold updateAssembling
  rw [List.find?_map]
  have hp : (fun b : Book => decide (b.tag = tag ∧ b.state = .assembling)) ∘
      (fun b => if b.tag = tag ∧ b.state = .assembling then f b else b) =
      fun b => decide (b.tag = tag ∧ b.state = .assembling) := by
    funext b
    by_cases hb : b.tag = tag ∧ b.state = .assembling
    · simp [hb, hf b]
    · simp only [Function.comp_apply, if_neg hb]
  rw [hp]
  cases hfind : bs.find? fun b => decide (b.tag = tag ∧ b.state = .assembling) with
  | none => rfl
  | some b =>
    have hb : b.tag = tag ∧ b.state = .assembling := by simpa using List.find?_some hfind
    simp only [Option.map_some, if_pos hb]

theorem State.bookOf_updateBook {f : Book → Book} (hf : Book.KeepsPlace f) (s : State) (w : Saw) (tag : Word) :
    (s.updateBook w tag f).bookOf w tag = (s.bookOf w tag).map f := by
  unfold State.bookOf State.updateBook
  rw [State.setSaw_saw_same]
  exact find?_updateAssembling hf tag _

/-- Two changes of the ASSEMBLING record of a tag, one after the other. -/
theorem updateAssembling_updateAssembling {f : Book → Book} (hf : Book.KeepsPlace f) (h : Book → Book) (tag : Word)
    (bs : List Book) : updateAssembling tag h (updateAssembling tag f bs) = updateAssembling tag (h ∘ f) bs := by
  unfold updateAssembling
  rw [List.map_map]
  refine List.map_congr_left fun b _ => ?_
  by_cases hb : b.tag = tag ∧ b.state = .assembling
  · simp [hb, hf b]
  · simp [hb]

theorem State.bookTask_eq {s : State} {g : Gantry} {t : Task} {w : Saw} {tag : Word} (ht : (s.gantry g).task = some t)
    (hk : t.kind = .book w tag) : s.bookTask g = some (w, tag) := by
  simp only [State.bookTask, ht, Option.map_some, hk]

theorem State.bookAt_eq {s : State} {g : Gantry} {w : Saw} {tag : Word} (h : s.bookTask g = some (w, tag)) :
    s.bookAt g = s.bookOf w tag := by
  rw [State.bookAt, h]; rfl

theorem State.updateBookAt_eq {s : State} {g : Gantry} {w : Saw} {tag : Word} (h : s.bookTask g = some (w, tag))
    (f : Book → Book) : s.updateBookAt g f = s.updateBook w tag f := by
  rw [State.updateBookAt, h]

/-! ## The last PLACE -/

/-- The book's record with one more panel placed. -/
def Book.place (serial : Nat) (b : Book) : Book := { b with placed := b.placed ++ [serial] }

theorem Book.place_keepsPlace (serial : Nat) : Book.KeepsPlace (Book.place serial) := fun _ => ⟨rfl, rfl⟩

/-- The state in which a panel has been placed for a book: it has left the head and the pool, and the book and the saw count it
(R158). -/
def State.placed (s : State) (g : Gantry) (w : Saw) (tag : Word) (p : Panel) : State :=
  { s with
    free := s.free.return p.record
    gantries := s.gantries.set g { s.gantry g with carried := none }
    saws := s.saws.set w
      { s.saw w with
        books := updateAssembling tag (Book.place p.serial) (s.saw w).books
        panelsPlaced := (s.saw w).panelsPlaced.step } }

theorem State.placePanel_eq {s : State} {g : Gantry} {w : Saw} {tag : Word} (h : s.bookTask g = some (w, tag)) (p : Panel) :
    s.placePanel g w p = s.placed g w tag p := by
  have hempty : (s.freeRecord p.record).setGantry g { s.gantry g with carried := none } =
      { s.freeRecord p.record with gantries := s.gantries.set g { s.gantry g with carried := none } } :=
    State.setGantry_of_same rfl rfl
  let u : State := { s.freeRecord p.record with gantries := s.gantries.set g { s.gantry g with carried := none } }
  have htask : u.bookTask g = some (w, tag) := by
    have : u.gantry g = { s.gantry g with carried := none } := PerGantry.get_set_same _ _ _
    rw [State.bookTask, this]
    exact h
  have hb : u.updateBookAt g (Book.place p.serial) = _ := State.updateBookAt_eq htask _
  have hsaw : (u.updateBook w tag (Book.place p.serial)).saw w =
      { s.saw w with books := updateAssembling tag (Book.place p.serial) (s.saw w).books } := State.setSaw_saw_same _ _ _
  unfold State.placePanel
  rw [hempty]
  show (u.updateBookAt g (Book.place p.serial)).setSaw w
    { (u.updateBookAt g (Book.place p.serial)).saw w with
      panelsPlaced := ((u.updateBookAt g (Book.place p.serial)).saw w).panelsPlaced.step } = _
  rw [hb, hsaw]
  simp only [State.updateBook, State.setSaw, PerSaw.set_set]
  rfl

/-- The state in which a book is released after its last PLACE, but for its report and for what this prompts. -/
def State.releasedBook (s : State) (w : Saw) (tag : Word) (serial : Nat) : State :=
  { s with
    saws := s.saws.set w
      { s.saw w with
        books := updateAssembling tag (fun x => (x.place serial).release s.clock) (s.saw w).books
        panelsPlaced := (s.saw w).panelsPlaced.step
        released := (s.saw w).released.step
        lastBookReport := some (tag, .complete) } }

/-- The PLACE of the last panel of a book whose abort is not requested. -/
theorem State.placeOk_last {s : State} {g : Gantry} {w : Saw} {tag : Word} {p : Panel} {b : Book}
    (ht : s.bookTask g = some (w, tag)) (hb : s.bookOf w tag = some b) (ha : b.abortRequested = false)
    (hl : b.entries.length ≤ b.lift) (hp : (s.gantry g).carried = some p) :
    s.placeOk g w = ((State.push { s.releasedBook w tag p.serial with
        free := s.free.return p.record
        gantries := s.gantries.set g { s.gantry g with carried := none } } (.saw w)
      (.bookReport ⟨tag, .complete, b.placed ++ [p.serial], b.firstFault, none⟩)).opportunity).becomeIdle g := by
  have hbook : s.bookAt g = some b := (State.bookAt_eq ht).trans hb
  have hask : s.abortAsked g = false := by simp [State.abortAsked, hbook, ha]
  have hmore : s.moreEntries g = false := by simp [State.moreEntries, hbook]; omega
  have htask : (s.placed g w tag p).bookTask g = some (w, tag) := by
    have : (s.placed g w tag p).gantry g = { s.gantry g with carried := none } := PerGantry.get_set_same _ _ _
    rw [State.bookTask, this]
    exact ht
  have hplaced : (s.placed g w tag p).bookOf w tag = some (b.place p.serial) := by
    have := State.bookOf_updateBook (Book.place_keepsPlace p.serial) s w tag
    rw [hb] at this
    refine Eq.trans ?_ this
    simp only [State.bookOf, State.placed, State.updateBook, State.setSaw, State.saw, PerSaw.get_set_same]
  have hsaw : (s.placed g w tag p).saw w =
      { s.saw w with
        books := updateAssembling tag (Book.place p.serial) (s.saw w).books
        panelsPlaced := (s.saw w).panelsPlaced.step } := PerSaw.get_set_same _ _ _
  have hrel : (s.placed g w tag p).releaseBook w tag = (State.push { s.releasedBook w tag p.serial with
        free := s.free.return p.record
        gantries := s.gantries.set g { s.gantry g with carried := none } } (.saw w)
      (.bookReport ⟨tag, .complete, b.placed ++ [p.serial], b.firstFault, none⟩)).opportunity := by
    simp only [State.releaseBook, hplaced, hsaw]
    rw [updateAssembling_updateAssembling (Book.place_keepsPlace p.serial)]
    simp only [State.setSaw, State.placed, PerSaw.set_set]
    rfl
  simp only [State.placeOk, hp, hask, hmore, State.placePanel_eq ht, State.finishBook, htask]
  rw [← hrel]
  simp

/-- Settles O46: the PLACE releases the book and idles the gantry, and nothing that this prompts is due. -/
theorem bookReleased : Obligations.BookReleased := by
  intro s g k x c i a p w tag b hn h hstate hc hi hk hlo hhi hkind hsaw hp ha hka hb habort hlast hgrant hwaits released t hng
  let report : Pushed := .bookReport ⟨tag, .complete, b.placed ++ [p.serial], b.firstFault, none⟩
  let v := fun d => (s.taken (.gantry g)).done g c i.span x.toNat d
  have hvg (d : Duties) : (v d).gantry g = s.doneRecord g c i.span x.toNat := PerGantry.get_set_same _ _ _
  have htask (d : Duties) : (v d).bookTask g = some (w, tag) :=
    State.bookTask_eq ((congrArg GantryRecord.task (hvg d)).trans ha) hka
  have hcomplete (d : Duties) : (v d).stepCompleted g c true = (v d).placeOk g w := by
    simp only [State.stepCompleted, hkind, hsaw]
  have hplace (d : Duties) := State.placeOk_last (s := v d) (htask d) hb habort hlast
    ((congrArg GantryRecord.carried (hvg d)).trans hp)
  have htg : (t.gantry g).state = .idle := congrArg GantryRecord.state (PerGantry.get_set_same _ _ _)
  have hto : t.gantry (otherGantry g) = s.gantry (otherGantry g) := PerGantry.get_set_other _ _ _
  have hidled (d : Duties) :
      (v d).gantries.set g ({ (v d).gantry g with carried := none } : GantryRecord).idled = t.gantries := by
    have hdir := travelDirection_orElse (s.pos g) c.target (s.gantry g).lastDirection
    rw [hvg]
    simp only [v, State.done, PerGantry.set_set, GantryRecord.idled, State.doneRecord, State.completedRecord, hdir, t]
    rfl
  refine State.exec_stepDone_ok (E := t.push (.saw w) report) hn h hstate hc hi hk hlo hhi rfl fun d => ?_
  let u : State := { (v d).releasedBook w tag p.serial with
    free := s.free.return p.record
    gantries := (v d).gantries.set g { (v d).gantry g with carried := none } }
  obtain ⟨d', hd'⟩ := ((u.push (.saw w) report).opportunity).becomeIdle_eq g
  have hug : u.gantry g = { (v d).gantry g with carried := none } := PerGantry.get_set_same _ _ _
  have hpushed : ((u.push (.saw w) report).opportunity).becomeIdle g =
      { u.push (.saw w) report with gantries := t.gantries, duties := d' } := by
    refine hd'.trans ?_
    rw [← hidled d, ← hug]
    show State.mk .. = State.mk ..
    simp only [u, State.push, State.opportunity, State.setPort_gantries, PerGantry.set_set]
    rfl
  have hports (q : Port) : (((s.taken (.gantry g)).push (.saw w) report).ports.get q).carrierUp = (t.port q).carrierUp :=
    (State.push_carriers _ _ _ q).trans (s.taken_carriers _ q)
  calc State.settle ((v d).stepCompleted g c true)
      = State.settle { u.push (.saw w) report with gantries := t.gantries, duties := d' } := by
        rw [hcomplete, hplace]
        exact congrArg State.settle hpushed
    _ = { t with ports := ((s.taken (.gantry g)).push (.saw w) report).ports, duties := .none } :=
        State.settle_idle_eq (d := d') rfl hports htg (by rw [hto]; exact hgrant) (by rw [hto]; exact hwaits) hng
    _ = (t.push (.saw w) report).taken (.gantry g) :=
        State.quiet_of_quiet (s := (t.push (.saw w) report).taken (.gantry g)) h.settled

end Sys2Proof.Machine
end

section
/-! PROOFS. The searches of Selection (R50 to R57, R70, R71): what they can find and what they change. -/

namespace Sys2Proof.Machine

/-! ## Choosing -/

theorem leastBy_mem {key : Nat → Nat × Nat} {l : List Nat} {n : Nat} (h : leastBy key l = some n) : n ∈ l := by
  induction l generalizing n with
  | nil => cases h
  | cons a l ih =>
    unfold leastBy at h
    split at h
    · cases h
      exact List.mem_cons_self
    · next m hm =>
      split at h <;> cases h
      · exact List.mem_cons_of_mem _ (ih hm)
      · exact List.mem_cons_self

theorem State.mem_slotNumbers {s : State} {n : Nat} : n ∈ s.slotNumbers ↔ n < s.slots.length := by simp [State.slotNumbers]

/-! ## The source of a book entry -/

/-- A slot that a source search can choose: unclaimed, not suspect, with a panel on top. -/
structure State.Pickable (s : State) (n : Nat) : Prop where
  slot : n < s.slots.length
  unclaimed : (s.slot n).claim = none
  clear : (s.slot n).suspect = false
  panel : (s.slot n).stack ≠ []

theorem Slot.stack_ne_nil_of_top {r : Slot} {c : Panel → Bool} (h : r.top.any c = true) : r.stack ≠ [] := by
  intro hn
  simp [Slot.top, hn] at h

theorem State.pickable_of_eligible {s : State} {g : Gantry} {kind n : Nat} (hn : n < s.slots.length)
    (he : s.eligible g kind n = true) (hu : s.unclaimed n = true) : s.Pickable n := by
  simp only [State.eligible, Bool.and_eq_true, Bool.not_eq_true'] at he
  obtain ⟨⟨-, hclear⟩, htop⟩ := he
  exact ⟨hn, of_decide_eq_true hu, hclear, Slot.stack_ne_nil_of_top htop⟩

theorem State.remnantSearch_pickable {s : State} {g : Gantry} {w : Saw} {e : BookEntry} {n : Nat}
    (h : s.remnantSearch g w e = some n) : s.Pickable n := by
  obtain ⟨hcand, hu⟩ := List.mem_filter.mp (leastBy_mem h)
  unfold State.remnantCandidates at hcand
  split at hcand
  · obtain ⟨hn, hc⟩ := List.mem_filter.mp hcand
    simp only [State.remnantCandidate, Bool.and_eq_true, Bool.not_eq_true'] at hc
    obtain ⟨⟨-, hclear⟩, htop⟩ := hc
    exact ⟨State.mem_slotNumbers.mp hn, of_decide_eq_true hu, hclear, Slot.stack_ne_nil_of_top htop⟩
  · cases hcand

theorem State.scan_pickable {s : State} {g : Gantry} {w : Saw} {kind n : Nat} (h : s.scan g w kind = some n) : s.Pickable n := by
  obtain ⟨hsource, hu⟩ := List.mem_filter.mp (leastBy_mem h)
  obtain ⟨hn, he⟩ := List.mem_filter.mp hsource
  exact State.pickable_of_eligible (State.mem_slotNumbers.mp hn) he hu

theorem State.verified_pickable {s : State} {g : Gantry} {kind n : Nat} (h : s.verified g kind n = true) : s.Pickable n := by
  simp only [State.verified, Bool.and_eq_true, decide_eq_true_iff] at h
  obtain ⟨⟨hn, he⟩, hu⟩ := h
  exact State.pickable_of_eligible hn he hu

/-- Two states agree but for the Kind Locator and its counters. -/
def State.LocatorDiffers (s t : State) : Prop :=
  t = { s with locator := t.locator, verifiedHits := t.verifiedHits, failedHits := t.failedHits, misses := t.misses }

section
variable {s t : State} (h : s.LocatorDiffers t)
include h

theorem State.LocatorDiffers.slots : t.slots = s.slots := by rw [State.LocatorDiffers] at h; rw [h]
theorem State.LocatorDiffers.gantries : t.gantries = s.gantries := by rw [State.LocatorDiffers] at h; rw [h]
theorem State.LocatorDiffers.saws : t.saws = s.saws := by rw [State.LocatorDiffers] at h; rw [h]
theorem State.LocatorDiffers.duties : t.duties = s.duties := by rw [State.LocatorDiffers] at h; rw [h]
theorem State.LocatorDiffers.layout : t.layout = s.layout := by rw [State.LocatorDiffers] at h; rw [h]
theorem State.LocatorDiffers.geom : t.geom = s.geom := by rw [State.geom, h.layout, State.geom]
theorem State.LocatorDiffers.ports : t.ports = s.ports := by rw [State.LocatorDiffers] at h; rw [h]
theorem State.LocatorDiffers.cell : t.cell = s.cell := by rw [State.LocatorDiffers] at h; rw [h]
theorem State.LocatorDiffers.kinds : t.kinds = s.kinds := by rw [State.LocatorDiffers] at h; rw [h]
theorem State.LocatorDiffers.free : t.free = s.free := by rw [State.LocatorDiffers] at h; rw [h]
theorem State.LocatorDiffers.serialCounter : t.serialCounter = s.serialCounter := by rw [State.LocatorDiffers] at h; rw [h]
end

theorem State.locatorStep_differs (s : State) (g : Gantry) (w : Saw) (e : BookEntry) :
    s.LocatorDiffers (s.locatorStep g w e).2 :=
  State.locatorStep_cases (P := s.LocatorDiffers) (fun _ _ h => by rw [State.LocatorDiffers] at h ⊢; rw [h])
    (fun _ _ h => by rw [State.LocatorDiffers] at h ⊢; rw [h]) (fun _ _ h => by rw [State.LocatorDiffers] at h ⊢; rw [h])
    (fun _ _ h => by rw [State.LocatorDiffers] at h ⊢; rw [h]) s g w e rfl

theorem State.resultOf_slot {s : State} {g : Gantry} {w : Saw} {e : BookEntry} {o : Option Nat} {n : Nat}
    (h : s.resultOf g w e o = .slot n) : o = some n := by
  cases o with
  | some m => cases h; rfl
  | none =>
    have : s.waitOrNone g w e ≠ .slot n := by
      unfold State.waitOrNone
      split <;> simp
    exact absurd h this

theorem State.locatorStep_pickable {s : State} {g : Gantry} {w : Saw} {e : BookEntry} {n : Nat}
    (h : (s.locatorStep g w e).1 = .slot n) : s.Pickable n := by
  unfold State.locatorStep at h
  repeat' split at h
  · next hv => cases h; exact State.verified_pickable hv
  all_goals exact State.scan_pickable (State.resultOf_slot h)

/-- A source search that chooses a slot claims it, and changes nothing else but the Kind Locator and its counters. -/
theorem State.sourceSearch_slot {s : State} {g : Gantry} {w : Saw} {e : BookEntry} {n : Nat}
    (h : (s.sourceSearch g w e).1 = .slot n) :
    s.Pickable n ∧ ∃ t, s.LocatorDiffers t ∧ (s.sourceSearch g w e).2 = t.claim n g .pick := by
  unfold State.sourceSearch at *
  split at h
  · next m hm =>
    cases h
    exact ⟨State.remnantSearch_pickable hm, s, rfl, rfl⟩
  · split at h
    · next m hm =>
      cases h
      exact ⟨State.locatorStep_pickable hm, _, s.locatorStep_differs g w e, rfl⟩
    · next hm => exact absurd h (hm n)

/-- A source search that chooses no slot claims none. -/
theorem State.sourceSearch_no_slot {s : State} {g : Gantry} {w : Saw} {e : BookEntry}
    (h : ∀ n, (s.sourceSearch g w e).1 ≠ .slot n) : s.LocatorDiffers (s.sourceSearch g w e).2 := by
  unfold State.sourceSearch at *
  split at h
  · exact absurd rfl (h _)
  · split at h
    · exact absurd rfl (h _)
    · exact s.locatorStep_differs g w e

/-- A claim on an unclaimed slot that is not suspect is taken (R25). -/
theorem State.claim_eq {s : State} {n : Nat} (hc : (s.slot n).claim = none) (hs : (s.slot n).suspect = false) (g : Gantry)
    (p : Purpose) : s.claim n g p = s.setSlot n { s.slot n with claim := some ⟨g, p⟩ } := by
  rw [State.claim, if_pos ⟨hc, hs⟩]

/-- A source search reads nothing of the ports and leaves them as they are. -/
theorem State.locatorStep_taken (s : State) (p : Port) (g : Gantry) (w : Saw) (e : BookEntry) :
    (s.taken p).locatorStep g w e = ((s.locatorStep g w e).1, (s.locatorStep g w e).2.taken p) := by
  have hways : (s.taken p).locatorWays e.kind = s.locatorWays e.kind := rfl
  have hlook : (s.taken p).lookup e.kind = s.lookup e.kind := rfl
  have hver : (s.taken p).verified g e.kind = s.verified g e.kind := rfl
  have hscan : (s.taken p).scan g w e.kind = s.scan g w e.kind := rfl
  have hresult : (s.taken p).resultOf g w e = s.resultOf g w e := rfl
  unfold State.locatorStep
  rw [hlook, hways, hscan, hresult]
  simp only [hver]
  cases s.lookup e.kind with
  | none =>
    cases s.scan g w e.kind <;> rfl
  | some i =>
    dsimp only
    cases (wayAt (s.locatorWays e.kind) i).slot? with
    | none => rfl
    | some n =>
      dsimp only
      cases s.verified g e.kind n <;> rfl

theorem State.claim_taken (s : State) (p : Port) (n : Nat) (g : Gantry) (k : Purpose) :
    (s.taken p).claim n g k = (s.claim n g k).taken p := by
  have hslot : (s.taken p).slot n = s.slot n := rfl
  unfold State.claim
  rw [hslot]
  split <;> rfl

theorem State.sourceSearch_taken (s : State) (p : Port) (g : Gantry) (w : Saw) (e : BookEntry) :
    (s.taken p).sourceSearch g w e = ((s.sourceSearch g w e).1, (s.sourceSearch g w e).2.taken p) := by
  have hremnant : (s.taken p).remnantSearch g w e = s.remnantSearch g w e := rfl
  unfold State.sourceSearch
  rw [hremnant, State.locatorStep_taken]
  cases s.remnantSearch g w e with
  | some n => exact Prod.ext rfl (s.claim_taken p n g .pick)
  | none =>
    dsimp only
    cases (s.locatorStep g w e).1 with
    | slot n => exact Prod.ext rfl (State.claim_taken _ p n g .pick)
    | wait => rfl
    | none => rfl

/-! ## Destinations -/

/-- A slot that a destination search for a kind can choose: unclaimed, not suspect, with room. -/
structure State.Takes (s : State) (n kind : Nat) : Prop where
  slot : n < s.slots.length
  unclaimed : (s.slot n).claim = none
  clear : (s.slot n).suspect = false
  room : s.hasRoomFor n kind = true

theorem State.takes_of_putSound {s : State} {g : Gantry} {kind n : Nat} (h : s.putSound g kind n = true) : s.Takes n kind := by
  simp only [State.putSound, Bool.and_eq_true, Bool.not_eq_true', decide_eq_true_iff] at h
  obtain ⟨⟨⟨⟨hn, -⟩, hclear⟩, hu⟩, hroom⟩ := h
  exact ⟨hn, of_decide_eq_true hu, hclear, hroom⟩

theorem State.returnSearch_takes {s : State} {g : Gantry} {p : Panel} {source : Option Nat} {n : Nat}
    (h : s.returnSearch g p source = some n) : s.Takes n p.kind := by
  unfold State.returnSearch at h
  split at h
  · next m hm =>
    cases h
    rw [Option.filter_eq_some_iff] at hm
    exact State.takes_of_putSound ((Bool.and_eq_true _ _).mp hm.2).2
  · have hc := (List.mem_filter.mp (leastBy_mem h)).2
    exact State.takes_of_putSound ((Bool.and_eq_true _ _).mp hc).1

theorem State.putSearch_takes {s : State} {g : Gantry} {n : Nat} (h : s.putSearch g = some n) :
    ∃ p, (s.gantry g).carried = some p ∧ s.Takes n p.kind := by
  unfold State.putSearch at h
  split at h
  · next p hp => exact ⟨p, hp, State.returnSearch_takes h⟩
  · cases h

theorem State.remnantReturnSearch_takes {s : State} {g : Gantry} {w : Saw} {kind n : Nat}
    (h : s.remnantReturnSearch g w kind = some n) : s.Takes n kind := by
  obtain ⟨hn, hc⟩ := List.mem_filter.mp (leastBy_mem h)
  simp only [State.remnantReturnCandidate, Bool.and_eq_true, Bool.not_eq_true'] at hc
  obtain ⟨⟨⟨-, hclear⟩, hu⟩, hroom⟩ := hc
  exact ⟨State.mem_slotNumbers.mp hn, of_decide_eq_true hu, hclear, hroom⟩

end Sys2Proof.Machine
end

section
/-! PROOFS. A step leaves no consequence prompted (log entry 3), and a search that waits runs again when SLOT_RELEASE clears a
suspect flag (R26, R28, R154, R165). -/

namespace Sys2Proof.Machine

/-! ## Nothing is prompted after a step -/

theorem State.settleFor_duties (n : Nat) (s : State) : (State.settleFor n s).duties = .none := by
  induction n generalizing s with
  | zero => rfl
  | succ n ih =>
    unfold State.settleFor
    split
    · rfl
    · exact ih _

@[simp] theorem State.settle_duties (s : State) : s.settle.duties = .none := State.settleFor_duties 1000 s

theorem State.process_duties {s : State} (h : s.duties = .none) (p : Port) (f : Frame) (handle : State → State × Reply) :
    (s.process p f handle).duties = .none := by
  have ha : (s.arrive p f).duties = .none := by
    unfold State.arrive
    split <;> exact h
  unfold State.process
  dsimp only
  split
  · split
    · exact State.settle_duties _
    · exact ha
  · exact h

/-- A command leaves no consequence prompted where none was. -/
theorem exec_duties {s t : State} (h : s.duties = .none) (c : Instr) (ht : exec c s = .next t) : t.duties = .none := by
  cases c <;> obtain ⟨rfl⟩ := ht
  case powerOn => rfl
  case layoutReadEnd =>
    unfold State.readEnd
    split
    · exact State.settle_duties _
    · exact h
  case layoutWriteEnd =>
    unfold State.writeEnd
    split <;> exact h
  case frameReceived | receiveBufferFull | flowStop | flowGo | frameSent | nextEndMarkedWord | cellClockTick => exact h
  case carrierLoss =>
    unfold State.carrierLoss
    split
    · exact State.settle_duties _
    · exact h
  case carrierReturn =>
    unfold State.carrierReturn
    split
    · exact h
    · exact State.settle_duties _
  case unknownMessage | cellCommand =>
    split
    · exact h
    · exact State.process_duties h _ _ _
  case overrun | hoverTimeout =>
    split
    · exact State.settle_duties _
    · exact h
  case dwellEnd g =>
    split
    · unfold State.endDwell
      dsimp only
      split
      · exact State.settle_duties _
      · rw [State.setGantry_of_same (r := { s.gantry g with dwellEnd := none }) rfl rfl]
        exact h
    · exact h
  case pacingEnd =>
    unfold State.pacingReached
    split
    · exact State.settle_duties _
    · exact h
  case pacingRuleUnsatisfied =>
    unfold State.repace
    split <;> exact h
  case sawTimerStep w k => cases k <;> exact h
  all_goals exact State.process_duties h _ _ _

theorem step_duties {s t : State} (h : s.duties = .none) (ht : step s = .next t) : t.duties = .none := by
  unfold step at ht
  split at ht
  · next c rest _ => exact exec_duties (s := { s with pending := rest }) h c ht
  · cases ht
    exact h

/-! ## The consequences of a store change at which one search waits -/

theorem State.settleFor_of_none_due (n : Nat) {s : State} (h : ∀ d, s.due d = false) : State.settleFor n s = s.quiet := by
  cases n with
  | zero => rfl
  | succ n =>
    have hf : Duty.all.filter s.due = [] := by simp [h]
    unfold State.settleFor
    rw [hf]
    rfl

/-- As `State.settle_eq_quiet`, for any fuel that lets a pass be made. -/
theorem State.settleFor_of_nothing_to_give (n : Nat) {s : State} (hw : ∀ g, s.due (.retry g) = false)
    (hg : ∀ g, s.due (.retest g) = false) (hn : s.NothingToGive) : State.settleFor (n + 1) s = s.quiet := by
  cases hd : s.due .dispatch with
  | false => exact State.settleFor_of_none_due _ fun d => by cases d <;> simp [hw, hg, hd]
  | true =>
    have hp : s.passDue = true := ((Bool.and_eq_true _ _).mp hd).2
    have hone : Duty.all.filter s.due = [.dispatch] := by simp [Duty.all, hw, hg, hd]
    let t : State := { s with duties := s.duties.clear .dispatch }
    have hpass : s.take .dispatch = t := by
      show t.dispatchPass = t
      have hround : t.round (t.stillIdle [.west, .east]) = none := hn hp
      simp only [State.dispatchPass, State.dispatchRound, hround, Option.map_none]
    have hnone (d : Duty) : t.due d = false := by
      cases d with
      | retry g => exact hw g
      | retest g => exact hg g
      | dispatch => rfl
    rw [State.settleFor, hone]
    show State.settleFor n (s.take .dispatch) = _
    rw [hpass, State.settleFor_of_none_due n hnone]
    rfl

/-- The one consequence that is due is taken. -/
theorem State.settleFor_of_one_due (n : Nat) {s : State} {d : Duty} (h : Duty.all.filter s.due = [d]) :
    State.settleFor (n + 1) s = State.settleFor n (s.take d) := by
  rw [State.settleFor, h]
  rfl

/-- A store change at which one gantry's search waits: the search runs again. -/
theorem State.settle_storeChange {s : State} {g : Gantry} (hq : s.duties = .none) (hw : (s.gantry g).waits = true)
    (ho : (s.gantry (otherGantry g)).waits = false) : s.storeChange.settle = State.settleFor 999 (s.searchAgain g) := by
  let t : State := { s with duties := { Duties.none with retry := Duties.none.retry.set g true } }
  have hchange : s.storeChange = t := by
    cases g with
    | west =>
      have h2 : ¬((s.retry .west).gantry .east).waits = true := by
        have : (s.retry .west).gantry .east = s.gantry .east := by unfold State.retry; split <;> rfl
        rw [this]; exact Bool.eq_false_iff.mp ho
      rw [State.storeChange, State.retry, if_neg h2, State.retry, if_pos hw, hq]
    | east =>
      have h1 : ¬(s.gantry .west).waits = true := Bool.eq_false_iff.mp ho
      rw [State.storeChange, State.retry.eq_def s .west, if_neg h1, State.retry, if_pos hw, hq]
  have hwt : (t.gantry g).waits = true := hw
  have hretry (k : Gantry) : t.due (.retry k) = decide (k = g) := by
    refine both_gantries (P := fun k => t.due (.retry k) = decide (k = g)) g ?_ ?_ k
    · simp [State.due, t, hwt]
    · have : (t.gantry (otherGantry g)).waits = false := ho
      simp [State.due, this]
  have hretest (k : Gantry) : t.due (.retest k) = false := by simp [State.due, t, Duties.none]
  have hdue : Duty.all.filter t.due = [.retry g] := by
    have hpass : t.due .dispatch = false := rfl
    cases g <;> simp [Duty.all, hretry, hretest, hpass]
  have htake : t.take (.retry g) = s.searchAgain g := by
    have : ({ t with duties := t.duties.clear (.retry g) } : State) = s := by
      rw [← State.quiet_of_quiet hq]
      cases g <;> rfl
    show State.searchAgain { t with duties := t.duties.clear (.retry g) } g = _
    rw [this]
  rw [hchange]
  show State.settleFor 1000 t = _
  rw [State.settleFor_of_one_due 999 hdue, htake]

/-! ## SLOT_RELEASE at which a search waits -/

/-- The state in which a slot's suspect flag is cleared. -/
def State.cleared (s : State) (m : Nat) : State :=
  { s with slots := s.slots.set m { s.slot m with suspect := false } }

/-- SLOT_RELEASE of a suspect slot, while one gantry's search waits. -/
theorem State.slotRelease_settle {s : State} {g : Gantry} {a : Word} {m : Nat} (h : s.Ready .planner ⟨0x09, [a]⟩ 1)
    (ha : s.addressed a.toNat = some m) (hs : (s.slot m).suspect = true) (hw : (s.gantry g).waits = true)
    (ho : (s.gantry (otherGantry g)).waits = false) :
    ((s.taken .planner).slotRelease [a]).1.settle =
      State.settleFor 999 (((s.cleared m).taken .planner).searchAgain g) := by
  rw [State.slotRelease_addressed (s := s.taken .planner) ha, State.releaseSlot]
  rw [if_pos (show ((s.taken .planner).slot m).suspect = true from hs)]
  exact State.settle_storeChange (s := (s.cleared m).taken .planner) h.settled hw ho

theorem State.slotRelease_reply {s : State} {a : Word} {m : Nat} (ha : s.addressed a.toNat = some m) :
    ((s.taken .planner).slotRelease [a]).2 = acceptedReply .slotRelease := by
  rw [State.slotRelease_addressed (s := s.taken .planner) ha]

/-- What SLOT_RELEASE leaves of the slots and the gantries is what the search leaves. -/
theorem State.exec_slotRelease_search {s : State} {g : Gantry} {a : Word} {m : Nat} (h : s.Ready .planner ⟨0x09, [a]⟩ 1)
    (hn : s.cell ≠ .noLayout) (ha : s.addressed a.toNat = some m) (hs : (s.slot m).suspect = true)
    (hw : (s.gantry g).waits = true) (ho : (s.gantry (otherGantry g)).waits = false) :
    ∃ t, exec (.slotRelease .planner [a]) s = .next t ∧
      t.slots = (State.settleFor 999 (((s.cleared m).taken .planner).searchAgain g)).slots ∧
      t.gantries = (State.settleFor 999 (((s.cleared m).taken .planner).searchAgain g)).gantries := by
  have hacc : Message.slotRelease.accepts s.cell = true := by simpa [Message.accepts] using hn
  have hb : (s.taken .planner).handleMessage .slotRelease .planner [a] (fun t => t.slotRelease [a]) =
      (s.taken .planner).slotRelease [a] := by
    have hacc' : Message.slotRelease.accepts (s.taken .planner).cell = true := hacc
    simp only [State.handleMessage, slotRelease_check, hacc', if_true]
  refine ⟨_, rfl, ?_⟩
  show (State.process ..).slots = _ ∧ (State.process ..).gantries = _
  rw [State.process_ready (by rw [hb, State.slotRelease_reply ha]; exact h), hb, State.slotRelease_settle h ha hs hw ho]
  exact ⟨rfl, rfl⟩

/-- The same as an equation, where the search settles to a state that is known. -/
theorem State.exec_slotRelease_effect {s E : State} {g : Gantry} {a : Word} {m : Nat} (h : s.Ready .planner ⟨0x09, [a]⟩ 1)
    (hn : s.cell ≠ .noLayout) (ha : s.addressed a.toNat = some m) (hs : (s.slot m).suspect = true)
    (hw : (s.gantry g).waits = true) (ho : (s.gantry (otherGantry g)).waits = false)
    (he : State.settleFor 999 (((s.cleared m).taken .planner).searchAgain g) = E.taken .planner)
    (hout : (E.port .planner).outbound = (s.port .planner).outbound) :
    exec (.slotRelease .planner [a]) s = .next (E.answered .planner (.accepted 0x09 0 none)) :=
  congrArg Host.Outcome.next (State.message_effect h (slotRelease_check a) (by simpa [Message.accepts] using hn) rfl
    (State.slotRelease_reply ha) ((State.slotRelease_settle h ha hs hw ho).trans he) hout)

/-! ## A step whose way is clear -/

/-- A gantry has been handed a step and dwells before it or makes it; no slot, no task and nothing of the other gantry has
changed, and no search and no pass is prompted by it. -/
structure State.GoesOn (s t : State) (g : Gantry) (step : Step) : Prop where
  state : (t.gantry g).state = .dwell ∨ (t.gantry g).state = .stepping
  current : (t.gantry g).current.map (fun c => (c.kind, c.slot, c.target)) = some (step.kind, step.slot, step.target)
  task : (t.gantry g).task = (s.gantry g).task
  other : t.gantry (otherGantry g) = s.gantry (otherGantry g)
  slots : t.slots = s.slots
  retry : t.duties.retry = s.duties.retry
  dispatch : t.duties.dispatch = s.duties.dispatch

theorem State.setGantry_duties (s : State) (g : Gantry) (r : GantryRecord) :
    (s.setGantry g r).duties.retry = s.duties.retry ∧ (s.setGantry g r).duties.dispatch = s.duties.dispatch := by
  unfold State.setGantry
  dsimp only
  split <;> exact ⟨rfl, rfl⟩

/-- A travel whose span is clear is prepared: it dwells or it is issued (R77, R101). -/
theorem State.prepare_clear {s : State} {g : Gantry} {step : Step} (hp : step.kind ≠ .place) (ho : step.kind ≠ .travelOnly)
    (hc : s.isClear g (s.geom.travel g (s.pos g) step.target) = true) :
    ∃ t, s.prepare g step = (t, false) ∧ s.GoesOn t g step := by
  have hspan : s.requestedSpan g step = s.geom.travel g (s.pos g) step.target := by
    unfold State.requestedSpan
    split
    · exact absurd ‹_› hp
    · exact absurd ‹_› ho
    · rfl
  unfold State.prepare
  split
  · next m _ =>
    obtain ⟨h1, h2⟩ := s.setGantry_duties g
      { s.gantry g with state := .dwell, current := some { step with request := none, issued := none }, dwellEnd := some m }
    exact ⟨_, rfl, by simp [State.dwellFor], by simp [State.dwellFor], by simp [State.dwellFor], by simp [State.dwellFor], rfl,
      h1, h2⟩
  · have hissue : s.request g step (s.requestedSpan g step) =
        (s.issue g step (s.geom.travel g (s.pos g) step.target), false) := by
      rw [hspan]
      unfold State.request
      split
      · exact absurd ‹_› hp
      · exact absurd ‹_› ho
      · rw [State.judge, if_pos hc]
    refine ⟨_, hissue, by simp [State.issue, State.push], by simp [State.issue, State.push], by simp [State.issue, State.push],
      by simp [State.issue, State.push], rfl, ?_, ?_⟩
    · exact (s.setGantry_duties g _).1
    · exact (s.setGantry_duties g _).2

/-- A gantry that has been handed a step while nothing else waits: settling only clears what was prompted. -/
theorem State.GoesOn.settleFor {s t : State} {g : Gantry} {step : Step} (h : s.GoesOn t g step) (n : Nat)
    (hq : s.duties = .none) (hg : (s.gantry (otherGantry g)).state ≠ .waitGrant) : State.settleFor n t = t.quiet := by
  refine State.settleFor_of_none_due n fun d => ?_
  cases d with
  | retry k => simp [State.due, h.retry, hq, Duties.none]
  | retest k =>
    have hstate : (t.gantry k).state ≠ .waitGrant :=
      both_gantries (P := fun k => (t.gantry k).state ≠ .waitGrant) g
        (by rcases h.state with hs | hs <;> rw [hs] <;> decide) (by rw [h.other]; exact hg) k
    simp [State.due, hstate]
  | dispatch => simp [State.due, h.dispatch, hq, Duties.none]

end Sys2Proof.Machine
end

section
/-! PROOFS. The outcomes of a search that runs again (R153, R159, R163, R165). -/

namespace Sys2Proof.Machine

theorem State.slot_of_slots {s t : State} (h : t.slots = s.slots) (n : Nat) : t.slot n = s.slot n := by
  rw [State.slot, h, State.slot]

theorem State.gantry_of_gantries {s t : State} (h : t.gantries = s.gantries) (g : Gantry) : t.gantry g = s.gantry g := by
  rw [State.gantry, h, State.gantry]

theorem State.updateTask_eq (s : State) (g : Gantry) (f : Task → Task) :
    s.updateTask g f = { s with gantries := s.gantries.set g { s.gantry g with task := (s.gantry g).task.map f } } :=
  State.setGantry_of_same rfl rfl

/-- A span lies clear of the other gantry's reservation (R77). -/
theorem State.isClear_iff (s : State) (g : Gantry) (v : Span) : s.isClear g v = true ↔
    match g with
    | .west => v.hi < (s.span .east).lo
    | .east => (s.span .west).hi < v.lo := by
  cases g <;> exact decide_eq_true_iff

/-- A slot has been claimed for a gantry and its step handed over while its way is clear: what settles from there. -/
theorem State.claimed_goes {s : State} {g : Gantry} {n : Nat} {p : Purpose} {f : Task → Task} {step : Step} {k : Task}
    (hn : n < s.slots.length) (hc : (s.slot n).claim = none) (hs : (s.slot n).suspect = false) (hq : s.duties = .none)
    (hk : (s.gantry g).task = some k) (hg : (s.gantry (otherGantry g)).state ≠ .waitGrant) (hp : step.kind ≠ .place)
    (ho : step.kind ≠ .travelOnly) (hclear : s.isClear g (s.geom.travel g (s.pos g) step.target) = true) :
    let u := (s.claim n g p).updateTask g f
    (u.prepare g step).2 = false ∧ let t := State.settleFor 999 (u.prepare g step).1
    (t.slot n).claim = some ⟨g, p⟩ ∧ ((t.gantry g).state = .dwell ∨ (t.gantry g).state = .stepping) ∧
      (t.gantry g).current.map (fun c => (c.kind, c.slot, c.target)) = some (step.kind, step.slot, step.target) ∧
      (t.gantry g).task = some (f k) := by
  intro u
  have hu : u = { s.setSlot n { s.slot n with claim := some ⟨g, p⟩ } with
      gantries := s.gantries.set g { s.gantry g with task := (s.gantry g).task.map f } } := by
    show (s.claim n g p).updateTask g f = _
    rw [State.claim_eq hc hs, State.updateTask_eq]
    rfl
  have hug : u.gantry g = { s.gantry g with task := (s.gantry g).task.map f } := by
    rw [hu]; exact PerGantry.get_set_same _ _ _
  have huo : u.gantry (otherGantry g) = s.gantry (otherGantry g) := by rw [hu]; exact PerGantry.get_set_other _ _ _
  have huclear : u.isClear g (u.geom.travel g (u.pos g) step.target) = true := by
    have h1 : u.geom = s.geom := by rw [hu]; rfl
    have h2 : u.pos g = s.pos g := by rw [State.pos, hug]; rfl
    have h3 : u.span (otherGantry g) = s.span (otherGantry g) := by rw [State.span, huo]; rfl
    rw [State.isClear, h1, h2, h3]
    exact hclear
  obtain ⟨v, hv, hgo⟩ := State.prepare_clear hp ho huclear
  refine ⟨by rw [hv], ?_⟩
  intro t
  have ht : t = v.quiet := by
    show State.settleFor 999 (u.prepare g step).1 = _
    rw [hv]
    exact hgo.settleFor 999 (by rw [hu]; exact hq) (by rw [huo]; exact hg)
  have hslot : t.slot n = { s.slot n with claim := some ⟨g, p⟩ } := by
    have : t.slots = u.slots := (congrArg State.slots ht).trans hgo.slots
    rw [State.slot_of_slots this, hu]
    show (s.setSlot n _).slot n = _
    rw [State.slot_setSlot, if_pos hn]
  have htg : t.gantry g = v.gantry g := by rw [ht]; rfl
  refine ⟨by rw [hslot], ?_, ?_, ?_⟩
  · rw [htg]; exact hgo.state
  · rw [htg]; exact hgo.current
  · rw [htg, hgo.task, hug, hk]; rfl

theorem State.handOver_of_not_blocked {s : State} {g : Gantry} {step : Step} (h : (s.prepare g step).2 = false) :
    s.handOver g step = (s.prepare g step).1 := by
  rw [State.handOver, State.settleRequest, h, if_neg Bool.false_ne_true]

theorem State.putTo_of_not_blocked {s : State} {g : Gantry} {n : Nat}
    (h : ((s.beginPut g n).prepare g (s.putStep n)).2 = false) : s.putTo g n = ((s.beginPut g n).prepare g (s.putStep n)).1 := by
  unfold State.putTo
  split
  · next heq => rw [heq]
  · next heq => rw [heq] at h; cases h

/-! ## A lift's source search -/

theorem State.currentEntry_eq {s : State} {g : Gantry} {w : Saw} {tag : Word} {b : Book} {e : BookEntry}
    (ht : s.bookTask g = some (w, tag)) (hb : s.bookOf w tag = some b) (he : b.entries[b.lift - 1]? = some e) :
    s.currentEntry g = some (w, e) := by
  have hat : s.bookAt g = some b := (State.bookAt_eq ht).trans hb
  simp only [State.currentEntry, ht, hat, he, Option.map_some]

theorem State.startLift_slot {s : State} {g : Gantry} {w : Saw} {e : BookEntry} {n : Nat} (h : s.currentEntry g = some (w, e))
    (hr : (s.sourceSearch g w e).1 = .slot n) : s.startLift g = (s.sourceSearch g w e).2.pickFrom g n := by
  have : s.sourceSearch g w e = (.slot n, (s.sourceSearch g w e).2) := Prod.ext hr rfl
  rw [State.startLift, h]
  dsimp only
  rw [this]

theorem State.startLift_wait {s : State} {g : Gantry} {w : Saw} {e : BookEntry} (h : s.currentEntry g = some (w, e))
    (hr : (s.sourceSearch g w e).1 = .wait) : s.startLift g = (s.sourceSearch g w e).2.openWait g := by
  have : s.sourceSearch g w e = (.wait, (s.sourceSearch g w e).2) := Prod.ext hr rfl
  rw [State.startLift, h]
  dsimp only
  rw [this]

theorem State.startLift_none {s : State} {g : Gantry} {w : Saw} {e : BookEntry} (h : s.currentEntry g = some (w, e))
    (hr : (s.sourceSearch g w e).1 = .none) : s.startLift g = (s.sourceSearch g w e).2.endBook g .noSource := by
  have : s.sourceSearch g w e = (.none, (s.sourceSearch g w e).2) := Prod.ext hr rfl
  rw [State.startLift, h]
  dsimp only
  rw [this]

/-- A source search that waits on leaves the lift waiting and prompts nothing. -/
theorem State.wait_settles {s : State} {g : Gantry} {w : Saw} {e : BookEntry} {k : Task} (h : s.currentEntry g = some (w, e))
    (hr : (s.sourceSearch g w e).1 = .wait) (hq : s.duties = .none) (hstate : (s.gantry g).state = .dwell)
    (hcur : (s.gantry g).current = none) (hk : (s.gantry g).task = some k) (hphase : k.phase = .sourceWait) :
    (State.settleFor 999 (s.startLift g)).slots = s.slots ∧
      (State.settleFor 999 (s.startLift g)).gantry g = { s.gantry g with dwellEnd := none } := by
  have hd := State.sourceSearch_no_slot (s := s) (g := g) (w := w) (e := e) fun n => by rw [hr]; simp
  let u := (s.sourceSearch g w e).2
  have hug : u.gantry g = s.gantry g := State.gantry_of_gantries hd.gantries g
  have hopen : u.openWait g = { u with gantries := u.gantries.set g { s.gantry g with dwellEnd := none } } := by
    have hrecord : ({ u.gantry g with
        state := .dwell
        current := none
        dwellEnd := none
        task := (u.gantry g).task.map fun t => { t with phase := .sourceWait } } : GantryRecord) =
        { s.gantry g with dwellEnd := none } := by
      rw [hug, hk, Option.map_some, ← hphase, ← hk, ← hstate, ← hcur]
    unfold State.openWait
    rw [hrecord]
    exact State.setGantry_of_same (by rw [hug]) (by rw [hug])
  have hquiet : (u.openWait g).duties = .none := by rw [hopen]; exact hd.duties.trans hq
  rw [State.startLift_wait h hr, State.settleFor_of_none_due 999 (State.due_of_quiet _ hquiet), State.quiet_of_quiet hquiet, hopen]
  exact ⟨hd.slots, PerGantry.get_set_same _ _ _⟩

/-- The report of an ASSEMBLING book that ends aborted (R137, R138). -/
theorem Book.abortReport_endWith {b : Book} (h : b.state = .assembling) (c : BookFault) :
    (b.endWith c).abortReport = ⟨b.tag, .aborted, b.placed, b.firstFault.or (some (c, b.lift)), some c⟩ := by
  have hl : b.faultLift = b.lift := by simp [Book.faultLift, h]
  unfold Book.abortReport Book.endWith Book.noteFault
  rw [hl]
  cases b.firstFault <;> rfl

theorem State.bookOf_spec {s : State} {w : Saw} {tag : Word} {b : Book} (h : s.bookOf w tag = some b) :
    b ∈ (s.saw w).books ∧ b.tag = tag ∧ b.state = .assembling :=
  ⟨List.mem_of_find?_eq_some h, by simpa using List.find?_some h⟩

/-- The state in which a book of a gantry with an empty head has ended aborted, but for its report and for what this prompts. -/
def State.bookEnded (s : State) (g : Gantry) (w : Saw) (tag : Word) : State :=
  { s with
    saws := s.saws.set w
      { s.saw w with
        books := (s.saw w).books.filter fun x => decide (x.tag ≠ tag)
        aborted := (s.saw w).aborted.step
        lastBookReport := some (tag, .aborted) }
    gantries := s.gantries.set g (s.gantry g).idled }

/-- A book of a gantry with an empty head ends aborted: the gantry becomes IDLE (R137, R159). -/
theorem State.endBook_empty {s : State} {g : Gantry} {w : Saw} {tag : Word} {b : Book} (ht : s.bookTask g = some (w, tag))
    (hb : s.bookOf w tag = some b) (hc : (s.gantry g).carried = none) (c : BookFault) :
    ∃ d, d.retry = s.duties.retry ∧ s.endBook g c = { (s.bookEnded g w tag).push (.saw w)
      (.bookReport ⟨tag, .aborted, b.placed, b.firstFault.or (some (c, b.lift)), some c⟩) with duties := d } := by
  obtain ⟨-, htag, hstate⟩ := State.bookOf_spec hb
  have hend : s.abortAssembling w tag c = State.opportunity (State.push (s.setSaw w
      { s.saw w with
        books := (s.saw w).books.filter fun x => decide (x.tag ≠ tag)
        aborted := (s.saw w).aborted.step
        lastBookReport := some (tag, .aborted) }) (.saw w)
      (.bookReport ⟨tag, .aborted, b.placed, b.firstFault.or (some (c, b.lift)), some c⟩)) := by
    simp only [State.abortAssembling, hb, State.abortBook, Book.abortReport_endWith hstate, htag]
  let u := s.abortAssembling w tag c
  have hug : u.gantry g = s.gantry g := by show (s.abortAssembling w tag c).gantry g = _; rw [hend]; rfl
  have hafter : s.endBook g c = u.becomeIdle g := by
    have hcu : (u.gantry g).carried = none := by rw [hug]; exact hc
    simp only [State.endBook, ht]
    simp only [u, State.afterBook] at hcu ⊢
    simp only [hcu]
  refine ⟨(u.becomeIdle g).duties, ?_, ?_⟩
  · refine Eq.trans (u.setGantry_duties g _).1 ?_
    show (s.abortAssembling w tag c).duties.retry = _
    rw [hend]; rfl
  · rw [hafter]
    obtain ⟨d, hd⟩ := u.becomeIdle_eq g
    have hdd : (u.becomeIdle g).duties = d := congrArg State.duties hd
    rw [hdd, hd, hug]
    show State.mk .. = State.mk ..
    simp only [u, hend]
    rfl

/-- Settles O11: no step leaves a consequence prompted, and each result of the search that runs again. -/
theorem waitingSearchRunsAgain : Obligations.WaitingSearchRunsAgain := by
  refine ⟨fun s t => step_duties, ?_⟩
  intro s g a m k h hn ha hm hsus hk hgrant hwaits r run clear goes
  let R := r.taken .planner
  have hclear (n : Nat) (hc : clear (s.geom.travel g (s.pos g) (s.geom.slotX n))) (t : State) (hgeom : t.geom = s.geom)
      (hgs : t.gantries = s.gantries) : t.isClear g (t.geom.travel g (t.pos g) (t.geom.slotX n)) = true := by
    have h1 (q : Gantry) : t.span q = s.span q := by rw [State.span, State.gantry_of_gantries hgs]; rfl
    have h2 : t.pos g = s.pos g := by rw [State.pos, State.gantry_of_gantries hgs]; rfl
    rw [State.isClear_iff, hgeom, h2, h1, h1]
    exact hc
  refine ⟨?_, ?_⟩
  · intro w tag b e hstate hcur hphase hkind hb he
    have hw : (s.gantry g).waits = true := by simp [GantryRecord.waits, hstate, hcur, hk, hphase]
    have hagain : R.searchAgain g = R.startLift g := if_neg (by show (s.gantry g).state ≠ _; rw [hstate]; decide)
    have hentry : R.currentEntry g = some (w, e) := State.currentEntry_eq (State.bookTask_eq (s := R) hk hkind) hb he
    obtain ⟨t, ht, hslots, hgantries⟩ := State.exec_slotRelease_search h hn ha hsus hw hwaits
    rw [show ((s.cleared m).taken .planner) = R from rfl, hagain] at hslots hgantries
    have hsearch : (R.sourceSearch g w e).1 = (r.sourceSearch g w e).1 := by rw [State.sourceSearch_taken]
    rw [← hsearch]
    refine ⟨fun n _ hr hc => ⟨t, ht, ?_⟩, fun hr => ⟨t, ht, ?_⟩, ?_⟩
    · obtain ⟨hpick, L, hL, hclaim⟩ := State.sourceSearch_slot (s := R) hr
      have hLs (n : Nat) : L.slot n = R.slot n := State.slot_of_slots hL.slots n
      have hLg (q : Gantry) : L.gantry q = s.gantry q := State.gantry_of_gantries hL.gantries q
      have hgeom : L.geom = s.geom := hL.geom
      have hgo := State.claimed_goes (s := L) (g := g) (n := n) (p := .pick)
        (f := fun t => { t with phase := .picking, source := some n }) (step := L.pickStep n) (k := k)
        (by rw [hL.slots]; exact hpick.slot) (by rw [hLs]; exact hpick.unclaimed) (by rw [hLs]; exact hpick.clear)
        (hL.duties.trans h.settled) (by rw [hLg]; exact hk) (by rw [hLg]; exact hgrant) (by simp [State.pickStep])
        (by simp [State.pickStep]) (hclear n hc L hgeom hL.gantries)
      have hlift : R.startLift g = ((L.claim n g .pick).updateTask g fun t =>
          { t with phase := .picking, source := some n }).handOver g (L.pickStep n) := by
        have hx : (L.claim n g .pick).geom = L.geom := by
          rw [State.claim_eq (by rw [hLs]; exact hpick.unclaimed) (by rw [hLs]; exact hpick.clear)]
          rfl
        rw [State.startLift_slot hentry hr, hclaim, State.pickFrom, State.pickStep, hx]
        rfl
      obtain ⟨hway, h1, h2, h3, h4⟩ := hgo
      rw [hlift, State.handOver_of_not_blocked hway] at hslots hgantries
      refine ⟨by rw [State.slot_of_slots hslots]; exact h1, ?_, ?_⟩
      · show ((t.gantry g).state = _ ∨ (t.gantry g).state = _) ∧ Option.map _ (t.gantry g).current = _
        rw [State.gantry_of_gantries hgantries, ← hgeom]
        exact ⟨h2, h3⟩
      · rw [State.gantry_of_gantries hgantries]; exact h4
    · obtain ⟨h1, h2⟩ := State.wait_settles (s := R) hentry hr h.settled hstate hcur hk hphase
      exact ⟨hslots.trans h1, (State.gantry_of_gantries hgantries g).trans h2⟩
    · intro hr hcar u hng
      let report : Pushed := .bookReport ⟨tag, .aborted, b.placed, b.firstFault.or (some (.noSource, b.lift)), some .noSource⟩
      have hd := State.sourceSearch_no_slot (s := r) (g := g) (w := w) (e := e) fun n => by
        rw [← hsearch, hr]; simp
      let X := (R.sourceSearch g w e).2
      have hX : X = (r.sourceSearch g w e).2.taken .planner := congrArg Prod.snd (State.sourceSearch_taken r .planner g w e)
      have hXg (q : Gantry) : X.gantry q = s.gantry q := by rw [hX]; exact State.gantry_of_gantries hd.gantries q
      have hXw : X.saw w = s.saw w := by rw [hX]; exact congrArg (PerSaw.get · w) hd.saws
      have hXq : X.duties = .none := by rw [hX]; exact hd.duties.trans h.settled
      obtain ⟨d, hretry, hend⟩ := State.endBook_empty (s := X) (g := g) (w := w) (tag := tag) (b := b)
        (State.bookTask_eq (by rw [hXg]; exact hk) hkind) (by rw [State.bookOf, hXw]; exact hb) (by rw [hXg]; exact hcar) .noSource
      have hended : X.bookEnded g w tag = u.taken .planner := by
        have hrec : (s.gantry g).idled = { s.gantry g with
            state := .idle
            task := none
            setAside := none
            former := none
            dwellEnd := none
            hold := none } := by
          simp [GantryRecord.idled, hcur]
        unfold State.bookEnded
        rw [hXg, hXw, hX, hrec]
        have hsaws : ((r.sourceSearch g w e).2.taken .planner).saws = s.saws := hd.saws
        have hgantries : ((r.sourceSearch g w e).2.taken .planner).gantries = s.gantries := hd.gantries
        rw [hsaws, hgantries]
        rfl
      have hports : u.ports = s.ports := hd.ports
      have hout : ((u.push (.saw w) report).port .planner).outbound = (s.port .planner).outbound := by
        have hother : (u.push (.saw w) report).port .planner = u.port .planner := rfl
        rw [hother, State.port, hports, State.port]
      have hug : u.gantry g = _ := PerGantry.get_set_same _ _ _
      have huo : u.gantry (otherGantry g) = s.gantry (otherGantry g) := PerGantry.get_set_other _ _ _
      refine State.exec_slotRelease_effect (E := u.push (.saw w) report) h hn ha hsus hw hwaits ?_ hout
      show State.settleFor 999 (R.searchAgain g) = _
      rw [hagain, State.startLift_none hentry hr, hend, hended]
      let v : State := { (u.taken .planner).push (.saw w) report with duties := d }
      have hvports (p : Port) : (v.ports.get p).carrierUp = (u.port p).carrierUp :=
        (State.push_carriers (u.taken .planner) _ report p).trans (u.taken_carriers .planner p)
      have hnothing : v.NothingToGive := State.NothingToGive.of_ports hng v.ports d hvports
      have hretries (q : Gantry) : v.due (.retry q) = false := by
        have : d.retry = Duties.none.retry := hretry.trans (congrArg Duties.retry hXq)
        simp [State.due, v, this, Duties.none]
      have hgrants (q : Gantry) : (v.gantry q).state ≠ .waitGrant :=
        both_gantries (P := fun q => (u.gantry q).state ≠ .waitGrant) g (by rw [hug]; exact GantryState.noConfusion)
          (by rw [huo]; exact hgrant) q
      have hretests (q : Gantry) : v.due (.retest q) = false := by simp [State.due, hgrants]
      calc State.settleFor 999 v = v.quiet := State.settleFor_of_nothing_to_give 998 hretries hretests hnothing
        _ = (u.push (.saw w) report).taken .planner :=
          State.quiet_of_quiet (s := (u.push (.saw w) report).taken .planner) (hd.duties.trans h.settled)
  · intro hstate hphase
    have hw : (s.gantry g).waits = true := by simp [GantryRecord.waits, hstate, hk, hphase]
    have hagain : R.searchAgain g = R.seekAgain g := if_pos hstate
    obtain ⟨t, ht, hslots, hgantries⟩ := State.exec_slotRelease_search h hn ha hsus hw hwaits
    rw [show ((s.cleared m).taken .planner) = R from rfl, hagain] at hslots hgantries
    refine ⟨fun n _ hr hc => ⟨t, ht, ?_⟩, fun hr => ?_⟩
    · obtain ⟨p, hp, htakes⟩ := State.putSearch_takes (s := R) hr
      have hgo := State.claimed_goes (s := R) (g := g) (n := n) (p := .put)
        (f := fun t => { t with phase := .putting, destination := some n }) (step := R.putStep n) (k := k)
        htakes.slot htakes.unclaimed htakes.clear h.settled hk hgrant (by simp [State.putStep])
        (by simp [State.putStep]) (hclear n hc R rfl rfl)
      obtain ⟨hway, h1, h2, h3, h4⟩ := hgo
      have hput : R.seekAgain g = R.putTo g n := by
        have hr' : R.putSearch g = some n := hr
        simp only [State.seekAgain, hr']
      rw [hput, State.putTo_of_not_blocked hway] at hslots hgantries
      refine ⟨by rw [State.slot_of_slots hslots]; exact h1, ?_, ?_⟩
      · show ((t.gantry g).state = _ ∨ (t.gantry g).state = _) ∧ Option.map _ (t.gantry g).current = _
        rw [State.gantry_of_gantries hgantries]
        exact ⟨h2, h3⟩
      · rw [State.gantry_of_gantries hgantries]; exact h4
    · refine State.exec_slotRelease_effect h hn ha hsus hw hwaits ?_ rfl
      have hnone : R.seekAgain g = R := by
        have hr' : R.putSearch g = none := hr
        simp only [State.seekAgain, hr']
      show State.settleFor 999 (R.searchAgain g) = R
      rw [hagain, hnone, State.settleFor_of_none_due 999 (State.due_of_quiet R h.settled)]
      exact State.quiet_of_quiet (s := R) h.settled

end Sys2Proof.Machine
end

section
/-! PROOFS. The work and the store taken gantry by gantry: what one gantry owns of the slots and of the saws' lists, and a state in
which everything is in order but for one gantry's own record. -/

namespace Sys2Proof.Machine

/-! ## What a gantry owns -/

/-- The cell is OPEN or HALTED: gantries may hold tasks (R174, R175). -/
def State.Working (s : State) : Prop := s.cell = .opened ∨ s.cell = .halted

/-- The claim that a task holds on a slot (R23, R25): on the source while it picks, on the destination otherwise. -/
def Task.claim (t : Task) : Option (Nat × Purpose) :=
  if t.phase = .picking then t.source.map fun n => (n, .pick) else t.destination.map fun n => (n, .put)

def GantryRecord.claim (r : GantryRecord) : Option (Nat × Purpose) := r.task.bind Task.claim

def GantryRecord.job (r : GantryRecord) : Option TaskKind := r.task.map Task.kind

def GantryRecord.blank (r : GantryRecord) : Option Nat := r.task.bind Task.blank

/-- A gantry assembles the book of a tag on a list. -/
def Assembles (bs : List Book) (g : Gantry) (tag : Word) : Prop :=
  ∃ b ∈ bs, b.tag = tag ∧ b.state = .assembling ∧ b.gantry = some g

/-- A gantry holds an offer of a list. -/
def HoldsOffer (os : List Offer) (g : Gantry) : Prop := ∃ o ∈ os, o.state = .inProgress g

/-- The offers of a list that a gantry holds. -/
def heldOffers (os : List Offer) (g : Gantry) : List Offer := os.filter fun o => decide (o.state = .inProgress g)

theorem holdsOffer_iff (os : List Offer) (g : Gantry) : HoldsOffer os g ↔ heldOffers os g ≠ [] := by
  simp [HoldsOffer, heldOffers, List.filter_eq_nil_iff]

/-- The claims, books and offers that name a gantry are those of one claim and one kind of task. -/
structure State.Owns (s : State) (g : Gantry) (c : Option (Nat × Purpose)) (j : Option TaskKind) : Prop where
  claims : ∀ n p, (s.slot n).claim = some ⟨g, p⟩ ↔ c = some (n, p)
  picked : ∀ n, c = some (n, .pick) → (s.slot n).stack ≠ []
  books : ∀ w tag, j = some (.book w tag) ↔ Assembles (s.saw w).books g tag
  offers : ∀ w, j = some (.remnantReturn w) ↔ HoldsOffer (s.saw w).offers g
  working : j ≠ none → s.Working

/-- The destination of a gantry's task has room for the panel that is to be put there. -/
def State.Room (s : State) (g : Gantry) : Prop :=
  ∀ n, (s.gantry g).task.bind Task.destination = some n →
    (∀ p, (s.gantry g).carried = some p → s.hasRoomFor n p.kind = true) ∧
    ∀ w o, (s.gantry g).carried = none → (s.gantry g).job = some (.remnantReturn w) →
      s.offerOf g w = some o → s.hasRoomFor n o.kind = true

/-- A gantry's record is sound and owns what its task calls for. -/
structure State.InOrder (s : State) (g : Gantry) : Prop where
  record : (s.gantry g).Sound
  owns : s.Owns g (s.gantry g).claim (s.gantry g).job
  room : s.Room g

/-! ## The store and the lists -/

/-- The store is sound but for the room at the destinations. -/
structure State.Stocked (s : State) : Prop where
  pool : (s.free.order ++ s.blanks ++ s.livePanels.map Panel.record).Perm (List.range poolSize)
  serials : (s.livePanels.map Panel.serial).Nodup
  range : ∀ p ∈ s.livePanels, 1 ≤ p.serial ∧ p.serial ≤ maxSerial
  counter : 1 ≤ s.serialCounter ∧ s.serialCounter ≤ maxSerial
  limits : ∀ n, (s.slot n).stack.length ≤ 40 ∧ s.height n ≤ s.geom.maxStackHeight

/-- A book list that a book's operations can rely on: distinct tags, and the lift in progress is one of the entries. -/
structure ShelfSound (bs : List Book) : Prop where
  tags : (bs.map Book.tag).Nodup
  lifts : ∀ b ∈ bs, 1 ≤ b.lift ∧ b.lift ≤ b.entries.length

/-- What belongs to no gantry is in order. -/
structure State.Tidy (s : State) : Prop where
  apart : s.Working → (s.span .west).hi < (s.span .east).lo
  shelves : ∀ w, ShelfSound (s.saw w).books
  stocked : s.Stocked

/-- Everything is in order but for gantry `g`'s own record; what names `g` is of the claim `c` and the kind of task `j`. -/
structure State.But (s : State) (g : Gantry) (c : Option (Nat × Purpose)) (j : Option TaskKind) : Prop where
  tidy : s.Tidy
  other : s.InOrder (otherGantry g)
  owns : s.Owns g c j

/-- Everything is in order. -/
structure State.Steady (s : State) : Prop where
  tidy : s.Tidy
  gantry : ∀ g, s.InOrder g

theorem State.Steady.but {s : State} (h : s.Steady) (g : Gantry) : s.But g (s.gantry g).claim (s.gantry g).job :=
  ⟨h.tidy, h.gantry _, (h.gantry g).owns⟩

/-- A gantry's record is put in order again. -/
theorem State.But.steady {s : State} {g : Gantry} {c : Option (Nat × Purpose)} {j : Option TaskKind} (h : s.But g c j)
    (hr : (s.gantry g).Sound) (hc : (s.gantry g).claim = c) (hj : (s.gantry g).job = j) (hroom : s.Room g) : s.Steady :=
  ⟨h.tidy, both_gantries g ⟨hr, by rw [hc, hj]; exact h.owns, hroom⟩ h.other⟩

/-! ## The obligations' predicates -/

theorem State.not_working_iff (s : State) : ¬ s.Working ↔ s.cell = .closed ∨ s.cell = .noLayout := by
  unfold State.Working
  cases s.cell <;> simp

/-- A sound task claims a slot for PUT exactly where it has a destination. -/
theorem Task.Sound.claim_put {t : Task} {p : Option Panel} (h : t.Sound p) (n : Nat) :
    t.claim = some (n, .put) ↔ t.destination = some n := by
  unfold Task.claim
  split
  · next hp =>
    have hd : t.destination = none := by
      by_contra hne
      rcases h.destination (Option.isSome_iff_ne_none.mpr hne) with h1 | h1 <;> rw [hp] at h1 <;> cases h1
    simp [hd]
  · simp

theorem Task.claim_pick (t : Task) (n : Nat) : t.claim = some (n, .pick) ↔ t.phase = .picking ∧ t.source = some n := by
  unfold Task.claim
  split
  · next hp => simp [hp]
  · next hp => simp [hp]

theorem GantryRecord.Sound.claim_put {r : GantryRecord} (h : r.Sound) (n : Nat) :
    r.claim = some (n, .put) ↔ r.task.bind Task.destination = some n := by
  unfold GantryRecord.claim
  cases ht : r.task with
  | none => simp
  | some t => exact (h.task t ht).claim_put n

theorem GantryRecord.claim_pick (r : GantryRecord) (n : Nat) :
    r.claim = some (n, .pick) ↔ ∃ t, r.task = some t ∧ t.phase = .picking ∧ t.source = some n := by
  unfold GantryRecord.claim
  cases ht : r.task with
  | none => simp
  | some t => simpa using t.claim_pick n

theorem State.Steady.workSound {s : State} (h : s.Steady) : s.WorkSound where
  gantry g := (h.gantry g).record
  puts g n := ((h.gantry g).owns.claims n .put).trans ((h.gantry g).record.claim_put n)
  picks g n := ((h.gantry g).owns.claims n .pick).trans ((s.gantry g).claim_pick n)
  picked g n hc := (h.gantry g).owns.picked n (((h.gantry g).owns.claims n .pick).mp hc)
  books g := (h.gantry g).owns.books
  offers g := (h.gantry g).owns.offers
  closed hc g := by
    by_contra hne
    exact (s.not_working_iff.mpr hc) ((h.gantry g).owns.working (by simpa [GantryRecord.job] using hne))

theorem State.Steady.storeSound {s : State} (h : s.Steady) : s.StoreSound where
  pool := h.tidy.stocked.pool
  serials := h.tidy.stocked.serials
  range := h.tidy.stocked.range
  counter := h.tidy.stocked.counter
  limits := h.tidy.stocked.limits
  room g := (h.gantry g).room

theorem State.StoreSound.stocked {s : State} (h : s.StoreSound) : s.Stocked :=
  ⟨h.pool, h.serials, h.range, h.counter, h.limits⟩

theorem State.Sound.inOrder {s : State} (h : s.Sound) (g : Gantry) : s.InOrder g where
  record := h.work.gantry g
  owns :=
    { claims := fun n p => by
        cases p with
        | pick => exact (h.work.picks g n).trans ((s.gantry g).claim_pick n).symm
        | put => exact (h.work.puts g n).trans ((h.work.gantry g).claim_put n).symm
      picked := fun n hc => h.work.picked g n ((h.work.picks g n).mpr (((s.gantry g).claim_pick n).mp hc))
      books := h.work.books g
      offers := h.work.offers g
      working := fun hj => by
        by_contra hw
        exact hj (by rw [GantryRecord.job, h.work.closed (s.not_working_iff.mp hw) g]; rfl) }
  room := h.store.room g

theorem State.Sound.apart_of_working {s : State} (h : s.Sound) (hc : s.cell ≠ .noLayout) :
    (s.span .west).hi < (s.span .east).lo := by
  have hl : s.layout.isSome := Option.isSome_iff_ne_none.mpr fun hn => hc (h.runway.noLayout.mpr hn)
  obtain ⟨w, e, hw, he, hlt⟩ := h.runway.apart hl
  rw [State.span, State.span, hw, he]
  exact hlt

theorem State.Sound.shelves {s : State} (h : s.Sound) (w : Saw) : ShelfSound (s.saw w).books :=
  ⟨(h.saws w).tags, fun b hb => ((h.saws w).books b hb).lift⟩

theorem State.Sound.steady {s : State} (h : s.Sound) : s.Steady where
  tidy :=
    { apart := fun hw => h.apart_of_working fun hn => by rcases hw with hw | hw <;> rw [hn] at hw <;> cases hw
      shelves := h.shelves
      stocked := h.store.stocked }
  gantry := h.inOrder

/-! ## Frames -/

/-- Nothing of the work or the store differs. -/
structure State.SameWork (s t : State) : Prop where
  cell : t.cell = s.cell
  kinds : t.kinds = s.kinds
  layout : t.layout = s.layout
  free : t.free = s.free
  serial : t.serialCounter = s.serialCounter
  slots : t.slots = s.slots
  gantries : t.gantries = s.gantries
  saws : ∀ w, (t.saw w).books = (s.saw w).books ∧ (t.saw w).offers = (s.saw w).offers

/-- What is gantry `g`'s is left as it was. -/
structure State.Leaves (s t : State) (g : Gantry) : Prop where
  gantry : t.gantry g = s.gantry g
  cell : t.cell = s.cell
  kinds : t.kinds = s.kinds
  layout : t.layout = s.layout
  slots : ∀ n p, (t.slot n).claim = some ⟨g, p⟩ ∨ (s.slot n).claim = some ⟨g, p⟩ → t.slot n = s.slot n
  books : ∀ w tag, Assembles (t.saw w).books g tag ↔ Assembles (s.saw w).books g tag
  offers : ∀ w, heldOffers (t.saw w).offers g = heldOffers (s.saw w).offers g

theorem State.offerOf_eq (s : State) (g : Gantry) (w : Saw) :
    s.offerOf g w = (heldOffers (s.saw w).offers g).head? :=
  List.head?_filter.symm

theorem State.hasRoomFor_congr {s t : State} (hkinds : t.kinds = s.kinds) (hlayout : t.layout = s.layout) {n : Nat}
    (hslot : (t.slot n).stack = (s.slot n).stack) (kind : Nat) : t.hasRoomFor n kind = s.hasRoomFor n kind := by
  have hthick (k : Nat) : t.thickness k = s.thickness k := by rw [State.thickness, State.kind, hkinds]; rfl
  have hheight : t.height n = s.height n := by simp only [State.height, State.heightOf, hthick, hslot]
  have hgeom : t.geom = s.geom := by rw [State.geom, hlayout]; rfl
  exact decide_eq_decide.mpr (by rw [hslot, hheight, hthick, hgeom])

section
variable {s t : State} {g : Gantry} (h : s.Leaves t g)
include h

theorem State.Leaves.claim_iff (n : Nat) (p : Purpose) : (t.slot n).claim = some ⟨g, p⟩ ↔ (s.slot n).claim = some ⟨g, p⟩ :=
  ⟨fun hc => by rw [← h.slots n p (.inl hc)]; exact hc, fun hc => by rw [h.slots n p (.inr hc)]; exact hc⟩

theorem State.Leaves.offer_iff (w : Saw) : HoldsOffer (t.saw w).offers g ↔ HoldsOffer (s.saw w).offers g := by
  rw [holdsOffer_iff, holdsOffer_iff, h.offers]

theorem State.Leaves.owns {c : Option (Nat × Purpose)} {j : Option TaskKind} (hs : s.Owns g c j) : t.Owns g c j where
  claims n p := (h.claim_iff n p).trans (hs.claims n p)
  picked n hc := by
    rw [h.slots n .pick (.inr ((hs.claims n _).mpr hc))]
    exact hs.picked n hc
  books w tag := (hs.books w tag).trans (h.books w tag).symm
  offers w := (hs.offers w).trans (h.offer_iff w).symm
  working hj := by
    have := hs.working hj
    rwa [State.Working, h.cell]

theorem State.Leaves.inOrder (hs : s.InOrder g) : t.InOrder g where
  record := by rw [h.gantry]; exact hs.record
  owns := by rw [h.gantry]; exact h.owns hs.owns
  room n hn := by
    rw [h.gantry] at hn
    have hslot : t.slot n = s.slot n := h.slots n .put (.inr ((hs.owns.claims n _).mpr ((hs.record.claim_put n).mpr hn)))
    have hfor := State.hasRoomFor_congr h.kinds h.layout (congrArg Slot.stack hslot)
    have hoffer (w : Saw) : t.offerOf g w = s.offerOf g w := by rw [State.offerOf_eq, h.offers, ← State.offerOf_eq]
    simp only [h.gantry, hfor, hoffer]
    exact hs.room n hn
end

theorem State.SameWork.leaves {s t : State} (h : s.SameWork t) (g : Gantry) : s.Leaves t g where
  gantry := State.gantry_of_gantries h.gantries g
  cell := h.cell
  kinds := h.kinds
  layout := h.layout
  slots n _ _ := State.slot_of_slots h.slots n
  books w tag := by rw [(h.saws w).1]
  offers w := by rw [(h.saws w).2]

theorem State.slot_stack_of_stacks {s t : State} (h : t.slots.map Slot.stack = s.slots.map Slot.stack) (n : Nat) :
    (t.slot n).stack = (s.slot n).stack := by
  have key (u : State) : (u.slot n).stack = ((u.slots.map Slot.stack)[n]?).getD [] := by
    rw [State.slot, List.getD_eq_getElem?_getD, List.getElem?_map]
    cases u.slots[n]? <;> rfl
  rw [key, key, h]

/-- The store is the same where the stacks, the heads, the fault records, the BLANK records and the free list are. -/
theorem State.Stocked.congr {s t : State} (hs : s.Stocked) (hkinds : t.kinds = s.kinds) (hlayout : t.layout = s.layout)
    (hfree : t.free = s.free) (hserial : t.serialCounter = s.serialCounter)
    (hstacks : t.slots.map Slot.stack = s.slots.map Slot.stack) (hpanels : ∀ g, (t.gantry g).panels = (s.gantry g).panels)
    (hblank : ∀ g, (t.gantry g).blank = (s.gantry g).blank) : t.Stocked := by
  have hlive : t.livePanels = s.livePanels := by
    have hw := hpanels .west
    have he := hpanels .east
    simp only [State.gantry, PerGantry.get] at hw he
    simp only [State.livePanels, List.flatMap_def, hstacks, hw, he]
  have hblanks : t.blanks = s.blanks := by
    have hw := hblank .west
    have he := hblank .east
    simp only [State.gantry, PerGantry.get, GantryRecord.blank] at hw he
    simp only [State.blanks, hw, he]
  refine ⟨by rw [hfree, hblanks, hlive]; exact hs.pool, by rw [hlive]; exact hs.serials, by rw [hlive]; exact hs.range,
    by rw [hserial]; exact hs.counter, fun n => ?_⟩
  have hstack := State.slot_stack_of_stacks hstacks n
  have hheight : t.height n = s.height n := by
    simp only [State.height, State.heightOf, State.thickness, State.kind, hkinds, hstack]
  rw [hstack, hheight, State.geom, hlayout, ← State.geom]
  exact hs.limits n

theorem State.SameWork.stocked {s t : State} (h : s.SameWork t) (hs : s.Stocked) : t.Stocked :=
  hs.congr h.kinds h.layout h.free h.serial (by rw [h.slots]) (fun g => by rw [State.gantry_of_gantries h.gantries])
    fun g => by rw [State.gantry_of_gantries h.gantries]

theorem State.SameWork.tidy {s t : State} (h : s.SameWork t) (hs : s.Tidy) : t.Tidy where
  apart hw := by
    have := hs.apart (by rwa [State.Working, h.cell] at hw)
    simpa only [State.span, State.gantry_of_gantries h.gantries] using this
  shelves w := by rw [(h.saws w).1]; exact hs.shelves w
  stocked := h.stocked hs.stocked

theorem State.SameWork.but {s t : State} (h : s.SameWork t) {g : Gantry} {c : Option (Nat × Purpose)} {j : Option TaskKind}
    (hs : s.But g c j) : t.But g c j :=
  ⟨h.tidy hs.tidy, (h.leaves _).inOrder hs.other, (h.leaves g).owns hs.owns⟩

theorem State.SameWork.steady {s t : State} (h : s.SameWork t) (hs : s.Steady) : t.Steady :=
  ⟨h.tidy hs.tidy, fun g => (h.leaves g).inOrder (hs.gantry g)⟩

theorem State.SameWork.trans {s t u : State} (h : s.SameWork t) (k : t.SameWork u) : s.SameWork u :=
  ⟨k.cell.trans h.cell, k.kinds.trans h.kinds, k.layout.trans h.layout, k.free.trans h.free, k.serial.trans h.serial,
    k.slots.trans h.slots, k.gantries.trans h.gantries,
    fun w => ⟨(k.saws w).1.trans (h.saws w).1, (k.saws w).2.trans (h.saws w).2⟩⟩

theorem State.sameWork_push (s : State) (p : Port) (m : Pushed) : s.SameWork (s.push p m) :=
  ⟨rfl, rfl, rfl, rfl, rfl, rfl, rfl, fun _ => ⟨rfl, rfl⟩⟩

theorem State.sameWork_latch (s : State) (p : Port) (f : ChangeFlag) : s.SameWork (s.latch p f) :=
  ⟨rfl, rfl, rfl, rfl, rfl, rfl, rfl, fun _ => ⟨rfl, rfl⟩⟩

theorem State.sameWork_duties (s : State) (d : Duties) : s.SameWork { s with duties := d } :=
  ⟨rfl, rfl, rfl, rfl, rfl, rfl, rfl, fun _ => ⟨rfl, rfl⟩⟩

theorem State.sameWork_retry (s : State) (g : Gantry) : s.SameWork (s.retry g) := by
  unfold State.retry
  split
  · exact s.sameWork_duties _
  · exact ⟨rfl, rfl, rfl, rfl, rfl, rfl, rfl, fun _ => ⟨rfl, rfl⟩⟩

theorem State.sameWork_storeChange (s : State) : s.SameWork s.storeChange :=
  (s.sameWork_retry .west).trans (State.sameWork_retry _ _)

theorem State.leaves_setGantry (s : State) (g : Gantry) (r : GantryRecord) : s.Leaves (s.setGantry g r) (otherGantry g) :=
  ⟨s.setGantry_gantry_other g r, rfl, rfl, rfl, fun _ _ _ => rfl, fun _ _ => Iff.rfl, fun _ => rfl⟩

/-- A gantry's record is replaced by one that holds the same panels and the same BLANK record. -/
theorem State.Stocked.setGantry {s : State} {g : Gantry} {r : GantryRecord} (h : s.Stocked) (hp : r.panels = (s.gantry g).panels)
    (hb : r.blank = (s.gantry g).blank) : (s.setGantry g r).Stocked := by
  have keeps {β : Type} (f : GantryRecord → β) (hf : f r = f (s.gantry g)) (k : Gantry) :
      f ((s.setGantry g r).gantry k) = f (s.gantry k) :=
    both_gantries (P := fun k => f ((s.setGantry g r).gantry k) = f (s.gantry k)) g
      (by rw [State.setGantry_gantry_same, hf]) (by rw [State.setGantry_gantry_other]) k
  exact h.congr rfl rfl rfl rfl rfl (keeps _ hp) (keeps _ hb)

theorem State.But.replace {s : State} {g : Gantry} {c : Option (Nat × Purpose)} {j : Option TaskKind} (h : s.But g c j)
    {r : GantryRecord} (hp : r.panels = (s.gantry g).panels) (hb : r.blank = (s.gantry g).blank)
    (hapart : s.Working → ((s.setGantry g r).span .west).hi < ((s.setGantry g r).span .east).lo) :
    (s.setGantry g r).But g c j :=
  ⟨⟨hapart, h.tidy.shelves, h.tidy.stocked.setGantry hp hb⟩, (s.leaves_setGantry g r).inOrder h.other, h.owns.claims,
    h.owns.picked, h.owns.books, h.owns.offers, h.owns.working⟩

theorem State.setGantry_span (s : State) (g : Gantry) (r : GantryRecord) (k : Gantry) :
    (s.setGantry g r).span k = if k = g then r.reservation.getD ⟨0, 0⟩ else s.span k := by
  rw [State.span, State.setGantry_gantry]
  split <;> rfl

/-- Its span is the same as well. -/
theorem State.But.setGantry {s : State} {g : Gantry} {c : Option (Nat × Purpose)} {j : Option TaskKind} (h : s.But g c j)
    {r : GantryRecord} (hp : r.panels = (s.gantry g).panels) (hb : r.blank = (s.gantry g).blank)
    (hr : r.reservation.getD ⟨0, 0⟩ = s.span g) : (s.setGantry g r).But g c j := by
  have hspan (k : Gantry) : (s.setGantry g r).span k = s.span k := by
    rw [State.setGantry_span]
    split
    · next hk => rw [hr, hk]
    · rfl
  exact h.replace hp hb fun hw => by rw [hspan, hspan]; exact h.tidy.apart hw

/-- Its reservation lies clear of the other gantry's (R77). -/
theorem State.But.setGantry_clear {s : State} {g : Gantry} {c : Option (Nat × Purpose)} {j : Option TaskKind} (h : s.But g c j)
    {r : GantryRecord} (hp : r.panels = (s.gantry g).panels) (hb : r.blank = (s.gantry g).blank) {v : Span}
    (hr : r.reservation = some v) (hv : s.isClear g v = true) : (s.setGantry g r).But g c j := by
  refine h.replace hp hb fun _ => ?_
  rw [State.isClear_iff] at hv
  rw [State.setGantry_span, State.setGantry_span, hr]
  cases g <;> exact hv

end Sys2Proof.Machine
end

section
/-! PROOFS. Claims, suspect marks and the saws' lists, with one gantry set aside (R23 to R27, R127, R137, R139, R141). -/

namespace Sys2Proof.Machine

/-! ## Claims -/

theorem State.slot_setSlot_of_ne (s : State) {n m : Nat} (r : Slot) (h : m ≠ n) : (s.setSlot n r).slot m = s.slot m := by
  simp only [State.slot, State.setSlot, List.getD_eq_getElem?_getD, List.getElem?_set_ne (Ne.symm h)]

/-- A slot that is claimed is one of the layout's. -/
theorem State.lt_of_claimed {s : State} {n : Nat} {k : Claim} (h : (s.slot n).claim = some k) : n < s.slots.length := by
  by_contra hn
  rw [State.slot, List.getD_eq_getElem?_getD, List.getElem?_eq_none (by omega)] at h
  cases h

theorem State.stacks_setSlot (s : State) {n : Nat} {r : Slot} (h : r.stack = (s.slot n).stack) :
    (s.setSlot n r).slots.map Slot.stack = s.slots.map Slot.stack := by
  have hr : (s.slots.set n (s.slot n)).map Slot.stack = s.slots.map Slot.stack := by rw [State.slot_set_self]
  rw [← hr]
  show (s.slots.set n r).map Slot.stack = _
  rw [List.map_set, List.map_set, h]

section
variable {s : State} {g : Gantry} {c c' : Option (Nat × Purpose)} {j : Option TaskKind} (h : s.But g c j)
include h

/-- What gantry `g` owns is not the other gantry's. -/
theorem State.But.claim_ne_other {n : Nat} {p : Purpose} (hc : c = some (n, p)) (q : Purpose) :
    (s.slot n).claim ≠ some ⟨otherGantry g, q⟩ := by
  rw [(h.owns.claims n p).mpr hc]
  intro he
  injection he with he
  injection he with he
  exact otherGantry_ne g he.symm

/-- The claim and the suspect flag of a slot that the other gantry does not claim are changed. -/
theorem State.But.setSlot {n : Nat} {r : Slot} (hn : n < s.slots.length) (hstack : r.stack = (s.slot n).stack)
    (hwas : ∀ p, (s.slot n).claim ≠ some ⟨otherGantry g, p⟩) (hnow : ∀ p, r.claim ≠ some ⟨otherGantry g, p⟩)
    (hhere : ∀ p, r.claim = some ⟨g, p⟩ ↔ c' = some (n, p)) (helse : ∀ m p, m ≠ n → (c' = some (m, p) ↔ c = some (m, p)))
    (hpick : c' = some (n, .pick) → (s.slot n).stack ≠ []) : (s.setSlot n r).But g c' j := by
  have hslot : (s.setSlot n r).slot n = r := by rw [State.slot_setSlot, if_pos hn]
  have hstacks := s.stacks_setSlot hstack
  refine ⟨⟨h.tidy.apart, h.tidy.shelves, h.tidy.stocked.congr rfl rfl rfl rfl hstacks (fun _ => rfl) fun _ => rfl⟩, ?_, ?_⟩
  · refine (show s.Leaves (s.setSlot n r) (otherGantry g) from
      ⟨rfl, rfl, rfl, rfl, fun m p hm => ?_, fun _ _ => Iff.rfl, fun _ => rfl⟩).inOrder h.other
    by_cases hmn : m = n
    · subst hmn
      rw [hslot] at hm
      exact absurd hm (not_or.mpr ⟨hnow p, hwas p⟩)
    · exact s.slot_setSlot_of_ne r hmn
  · refine ⟨fun m p => ?_, fun m hm => ?_, h.owns.books, h.owns.offers, h.owns.working⟩
    · by_cases hmn : m = n
      · subst hmn
        rw [hslot]
        exact hhere p
      · rw [s.slot_setSlot_of_ne r hmn, helse m p hmn]
        exact h.owns.claims m p
    · rw [State.slot_stack_of_stacks hstacks]
      by_cases hmn : m = n
      · subst hmn
        exact hpick hm
      · exact h.owns.picked m ((helse m .pick hmn).mp hm)

/-- A claim is released (R26). -/
theorem State.But.releaseClaim {n : Nat} {p : Purpose} (hc : c = some (n, p)) : (s.releaseClaim n).But g none j := by
  have hclaim := (h.owns.claims n p).mpr hc
  have hrel : s.releaseClaim n = (s.setSlot n { s.slot n with claim := none }).storeChange := by
    rw [State.releaseClaim, if_neg (by rw [hclaim]; exact Option.some_ne_none _)]
  rw [hrel]
  refine (State.sameWork_storeChange _).but (h.setSlot (State.lt_of_claimed hclaim) rfl (h.claim_ne_other hc)
    (fun _ => by simp) (fun _ => by simp) (fun m q hm => ?_) (by simp))
  simp only [hc, reduceCtorEq, Option.some.injEq, Prod.mk.injEq, false_iff, not_and]
  exact fun he => absurd he.symm hm

/-- A slot that gantry `g` claims is marked suspect (R27). -/
theorem State.But.markSuspect {n : Nat} {p : Purpose} (hc : c = some (n, p)) : (s.markSuspect n).But g none j := by
  have hu := h.releaseClaim hc
  have hclaim := State.releaseClaim_claim s n
  have hn : n < (s.releaseClaim n).slots.length := by
    have hlt := State.lt_of_claimed ((h.owns.claims n p).mpr hc)
    unfold State.releaseClaim
    split
    · exact hlt
    · rw [State.storeChange_slots]
      simpa [State.setSlot] using hlt
  have hset := hu.setSlot (c' := none) (r := { (s.releaseClaim n).slot n with suspect := true }) hn rfl
    (fun _ => by rw [hclaim]; simp) (fun _ => by rw [hclaim]; simp) (fun _ => by rw [hclaim]; simp) (fun _ _ _ => Iff.rfl)
    (by simp)
  refine (State.sameWork_latch _ _ _).but (State.SameWork.but (s := (s.releaseClaim n).setSlot n _) ?_ hset)
  exact ⟨rfl, rfl, rfl, rfl, rfl, rfl, rfl, fun _ => ⟨rfl, rfl⟩⟩
end

/-- A slot that is there to claim is claimed (R25). -/
theorem State.But.claim {s : State} {g : Gantry} {j : Option TaskKind} (h : s.But g none j) {n : Nat} {p : Purpose}
    (hn : n < s.slots.length) (hfree : (s.slot n).claim = none) (hclear : (s.slot n).suspect = false)
    (hpick : p = .pick → (s.slot n).stack ≠ []) : (s.claim n g p).But g (some (n, p)) j := by
  rw [State.claim_eq hfree hclear]
  refine h.setSlot hn rfl (fun _ => by rw [hfree]; simp) (fun _ => ?_) (fun q => ?_) (fun m q hm => ?_) fun hc => ?_
  · simpa using fun he => absurd he (otherGantry_ne g).symm
  · simp
  · simpa using fun he => absurd he.symm hm
  · exact hpick (by simpa using hc)

/-! ## The saws' lists -/

theorem ShelfSound.eq_of_tag {bs : List Book} (h : ShelfSound bs) {a b : Book} (ha : a ∈ bs) (hb : b ∈ bs) (ht : a.tag = b.tag) :
    a = b := List.inj_on_of_nodup_map h.tags ha hb ht

theorem ShelfSound.filter {bs : List Book} (h : ShelfSound bs) (f : Book → Bool) : ShelfSound (bs.filter f) :=
  ⟨h.tags.sublist (List.filter_sublist.map _), fun b hb => h.lifts b (List.mem_of_mem_filter hb)⟩

theorem ShelfSound.map {bs : List Book} (h : ShelfSound bs) {f : Book → Book} (htag : ∀ b, (f b).tag = b.tag)
    (hlift : ∀ b ∈ bs, 1 ≤ (f b).lift ∧ (f b).lift ≤ (f b).entries.length) : ShelfSound (bs.map f) := by
  refine ⟨?_, fun b hb => ?_⟩
  · rw [List.map_map, show Book.tag ∘ f = Book.tag from funext htag]
    exact h.tags
  · obtain ⟨a, ha, rfl⟩ := List.mem_map.mp hb
    exact hlift a ha

/-- A record is taken off a list by its tag. -/
theorem assembles_filter_tag {bs : List Book} {g : Gantry} {t tag : Word} :
    Assembles (bs.filter fun x => decide (x.tag ≠ t)) g tag ↔ Assembles bs g tag ∧ tag ≠ t := by
  constructor
  · rintro ⟨b, hb, rfl, hs⟩
    obtain ⟨hm, hne⟩ := List.mem_filter.mp hb
    exact ⟨⟨b, hm, rfl, hs⟩, of_decide_eq_true hne⟩
  · rintro ⟨⟨b, hb, rfl, hs⟩, hne⟩
    exact ⟨b, List.mem_filter.mpr ⟨hb, decide_eq_true hne⟩, rfl, hs⟩

/-- The book of a tag is no gantry's but the one it names. -/
theorem ShelfSound.assembles_iff {bs : List Book} (h : ShelfSound bs) {b : Book} (hb : b ∈ bs) (g : Gantry) :
    Assembles bs g b.tag ↔ b.state = .assembling ∧ b.gantry = some g :=
  ⟨fun ⟨_, ha, ht, hs⟩ => h.eq_of_tag ha hb ht ▸ hs, fun hs => ⟨b, hb, rfl, hs⟩⟩

section
variable {s : State} {g : Gantry} {c : Option (Nat × Purpose)} {j j' : Option TaskKind} (h : s.But g c j)
include h

/-- A saw's lists are changed, and none of what is the other gantry's. -/
theorem State.But.setSaw {w : Saw} {r : SawRecord} (hshelf : ShelfSound r.books)
    (hbooks : ∀ tag, Assembles r.books (otherGantry g) tag ↔ Assembles (s.saw w).books (otherGantry g) tag)
    (hoffers : heldOffers r.offers (otherGantry g) = heldOffers (s.saw w).offers (otherGantry g))
    (hbook : ∀ tag, j' = some (.book w tag) ↔ Assembles r.books g tag)
    (hoffer : j' = some (.remnantReturn w) ↔ HoldsOffer r.offers g)
    (helse : ∀ v, v ≠ w → (∀ tag, j' = some (.book v tag) ↔ j = some (.book v tag)) ∧
      (j' = some (.remnantReturn v) ↔ j = some (.remnantReturn v)))
    (hworking : j' ≠ none → s.Working) : (s.setSaw w r).But g c j' := by
  refine ⟨⟨h.tidy.apart, fun v => ?_, h.tidy.stocked.congr rfl rfl rfl rfl rfl (fun _ => rfl) fun _ => rfl⟩, ?_, ?_⟩
  · rw [State.setSaw_saw]
    split
    · exact hshelf
    · exact h.tidy.shelves v
  · refine (show s.Leaves (s.setSaw w r) (otherGantry g) from
      ⟨rfl, rfl, rfl, rfl, fun _ _ _ => rfl, fun v tag => ?_, fun v => ?_⟩).inOrder h.other
    · rw [State.setSaw_saw]
      split
      · next hv => rw [hv]; exact hbooks tag
      · rfl
    · rw [State.setSaw_saw]
      split
      · next hv => rw [hv]; exact hoffers
      · rfl
  · refine ⟨h.owns.claims, h.owns.picked, fun v tag => ?_, fun v => ?_, hworking⟩
    · rw [State.setSaw_saw]
      split
      · next hv => rw [hv]; exact hbook tag
      · next hv => exact ((helse v hv).1 tag).trans (h.owns.books v tag)
    · rw [State.setSaw_saw]
      split
      · next hv => rw [hv]; exact hoffer
      · next hv => exact (helse v hv).2.trans (h.owns.offers v)

/-- A saw's book list is changed, and no gantry's work with it. -/
theorem State.But.setBooks {w : Saw} {r : SawRecord} (hshelf : ShelfSound r.books)
    (hbooks : ∀ k tag, Assembles r.books k tag ↔ Assembles (s.saw w).books k tag) (hoffers : r.offers = (s.saw w).offers) :
    (s.setSaw w r).But g c j :=
  h.setSaw hshelf (hbooks _) (by rw [hoffers]) (fun tag => (h.owns.books w tag).trans (hbooks g tag).symm)
    (by rw [hoffers]; exact h.owns.offers w) (fun _ _ => ⟨fun _ => Iff.rfl, Iff.rfl⟩) h.owns.working

/-! ### Books -/

/-- The record of gantry `g`'s book. -/
theorem State.But.book {w : Saw} {tag : Word} (hj : j = some (.book w tag)) :
    ∃ b, s.bookOf w tag = some b ∧ b ∈ (s.saw w).books ∧ b.tag = tag ∧ b.state = .assembling ∧ b.gantry = some g := by
  obtain ⟨b, hb, rfl, hs, hg⟩ := (h.owns.books w tag).mp hj
  refine ⟨b, ?_, hb, rfl, hs, hg⟩
  obtain ⟨a, ha⟩ := Option.isSome_iff_exists.mp
    (List.find?_isSome (p := fun x : Book => decide (x.tag = b.tag ∧ x.state = .assembling)).mpr
      ⟨b, hb, decide_eq_true ⟨rfl, hs⟩⟩)
  obtain ⟨hmem, htag, -⟩ := State.bookOf_spec (s := s) (w := w) (tag := b.tag) ha
  rw [State.bookOf, ha, (h.tidy.shelves w).eq_of_tag hmem hb htag]

/-- The other gantry does not assemble the book that `g` assembles. -/
theorem State.But.not_assembles_other {w : Saw} {tag : Word} (hj : j = some (.book w tag)) :
    ¬ Assembles (s.saw w).books (otherGantry g) tag := by
  obtain ⟨b, -, hb, rfl, -, hg⟩ := h.book hj
  rw [(h.tidy.shelves w).assembles_iff hb, hg]
  rintro ⟨-, he⟩
  exact otherGantry_ne g (Option.some.inj he).symm

/-- Gantry `g`'s book leaves the assembling ones; the gantry may go on to a return. -/
theorem State.But.endBookWith {w : Saw} {tag : Word} {r : SawRecord} (hj : j = some (.book w tag)) (hshelf : ShelfSound r.books)
    (hbooks : ∀ k t, Assembles r.books k t ↔ Assembles (s.saw w).books k t ∧ t ≠ tag)
    (hoffers : r.offers = (s.saw w).offers) : (s.setSaw w r).But g c (some .panelReturn) := by
  refine h.setSaw hshelf (fun t => ?_) (by rw [hoffers]) (fun t => ?_) ?_ (fun v hv => ?_) fun _ => h.owns.working (by simp [hj])
  · rw [hbooks]
    exact and_iff_left_of_imp fun ha he => h.not_assembles_other hj (he ▸ ha)
  · rw [hbooks, ← h.owns.books, hj]
    simpa using fun he : tag = t => he.symm
  · rw [hoffers, ← h.owns.offers, hj]
    simp
  · rw [hj]
    simpa using fun he : w = v => absurd he.symm hv

theorem State.But.abortAssembling {w : Saw} {tag : Word} (hj : j = some (.book w tag)) (cause : BookFault) :
    (s.abortAssembling w tag cause).But g c (some .panelReturn) := by
  obtain ⟨b, hb, -, rfl, -⟩ := h.book hj
  have hset := h.endBookWith (r := { s.saw w with
    books := (s.saw w).books.filter fun x => decide (x.tag ≠ b.tag)
    aborted := (s.saw w).aborted.step
    lastBookReport := some (b.tag, .aborted) }) hj ((h.tidy.shelves w).filter _) (fun _ _ => assembles_filter_tag) rfl
  simp only [State.abortAssembling, hb]
  exact (State.sameWork_duties _ _).but ((State.sameWork_push _ _ _).but hset)

omit h in
/-- The records of a list once those of a tag that are ASSEMBLING have been changed. -/
theorem assembles_updateAssembling {bs : List Book} {f : Book → Book} {t : Word} (htag : ∀ b, (f b).tag = b.tag)
    (hstate : ∀ b, (f b).state = b.state) (hgantry : ∀ b, (f b).gantry = b.gantry) (k : Gantry) (tag : Word) :
    Assembles (updateAssembling t f bs) k tag ↔ Assembles bs k tag := by
  unfold Assembles updateAssembling
  simp only [List.mem_map, exists_exists_and_eq_and]
  refine exists_congr fun b => and_congr_right fun _ => ?_
  split
  · rw [htag, hstate, hgantry]
  · rfl

omit h in
theorem ShelfSound.updateAssembling {bs : List Book} (h : ShelfSound bs) {f : Book → Book} {t : Word}
    (htag : ∀ b, (f b).tag = b.tag)
    (hlift : ∀ b ∈ bs, b.tag = t → b.state = .assembling → 1 ≤ (f b).lift ∧ (f b).lift ≤ (f b).entries.length) :
    ShelfSound (updateAssembling t f bs) := by
  refine h.map (fun b => ?_) fun b hb => ?_
  · split
    · exact htag b
    · rfl
  · split
    · next hc => exact hlift b hb hc.1 hc.2
    · exact h.lifts b hb

end

end Sys2Proof.Machine
end

section
/-! PROOFS. The starts and the ends of books and offers, with one gantry set aside (R137, R141, R152, R166, R168). -/

namespace Sys2Proof.Machine

/-! ## Lists -/

/-- A release takes the record of a tag from the ASSEMBLING ones. -/
theorem assembles_release {bs : List Book} {t tag : Word} (now : Time) (k : Gantry) :
    Assembles (updateAssembling t (fun x => x.release now) bs) k tag ↔ Assembles bs k tag ∧ tag ≠ t := by
  unfold Assembles updateAssembling
  simp only [List.mem_map, exists_exists_and_eq_and]
  constructor
  · rintro ⟨b, hb, htag, hstate, hg⟩
    split at htag
    · next hc =>
      rw [if_pos hc] at hstate
      cases hstate
    · next hc =>
      rw [if_neg hc] at hstate hg
      exact ⟨⟨b, hb, htag, hstate, hg⟩, fun he => hc ⟨htag.trans he, hstate⟩⟩
  · rintro ⟨⟨b, hb, htag, hstate, hg⟩, hne⟩
    have hc : ¬(b.tag = t ∧ b.state = .assembling) := fun hc => hne (htag.symm.trans hc.1)
    exact ⟨b, hb, by rw [if_neg hc]; exact ⟨htag, hstate, hg⟩⟩

/-- The head book of a list starts on a gantry: it is the one more that is ASSEMBLING. -/
theorem assembles_start {bs : List Book} {b : Book} (hb : b ∈ bs) (hq : b.state = .queued)
    (g : Gantry) (now : Time) (k : Gantry) (tag : Word) :
    Assembles (bs.map fun x => if x.tag = b.tag ∧ x.state = .queued then x.start g now else x) k tag ↔
      Assembles bs k tag ∨ (k = g ∧ tag = b.tag) := by
  unfold Assembles
  simp only [List.mem_map, exists_exists_and_eq_and]
  constructor
  · rintro ⟨a, ha, htag, hstate, hg⟩
    split at htag
    · next hc =>
      rw [if_pos hc] at hg
      exact .inr ⟨(Option.some.inj hg).symm, htag.symm.trans hc.1⟩
    · next hc =>
      rw [if_neg hc] at hstate hg
      exact .inl ⟨a, ha, htag, hstate, hg⟩
  · rintro (⟨a, ha, htag, hstate, hg⟩ | ⟨rfl, rfl⟩)
    · have hc : ¬(a.tag = b.tag ∧ a.state = .queued) := fun hc => by rw [hstate] at hc; cases hc.2
      exact ⟨a, ha, by rw [if_neg hc]; exact ⟨htag, hstate, hg⟩⟩
    · exact ⟨b, hb, by rw [if_pos ⟨rfl, hq⟩]; exact ⟨rfl, rfl, rfl⟩⟩

theorem heldOffers_dropOffer_self (os : List Offer) (g : Gantry) : heldOffers (dropOffer g os) g = [] := by
  simp [heldOffers, dropOffer, List.filter_filter]

theorem heldOffers_dropOffer_other (os : List Offer) (g : Gantry) :
    heldOffers (dropOffer g os) (otherGantry g) = heldOffers os (otherGantry g) := by
  unfold heldOffers dropOffer
  rw [List.filter_filter]
  refine List.filter_congr fun o _ => ?_
  by_cases ho : o.state = .inProgress (otherGantry g)
  · simp [ho]
  · simp [ho]

theorem heldOffers_holdOffer {o : Offer} (ho : o.state = .waiting) (os : List Offer) (g : Gantry) :
    heldOffers (holdOffer g (o :: os)) g = { o with state := .inProgress g } :: heldOffers (o :: os) g := by
  simp [heldOffers, holdOffer, ho]

theorem heldOffers_holdOffer_other {o : Offer} (ho : o.state = .waiting) (os : List Offer) (g : Gantry) :
    heldOffers (holdOffer g (o :: os)) (otherGantry g) = heldOffers (o :: os) (otherGantry g) := by
  simp [heldOffers, holdOffer, ho, (otherGantry_ne g).symm]

section
variable {s : State} {g : Gantry} {c : Option (Nat × Purpose)} {j : Option TaskKind} (h : s.But g c j)
include h

/-! ## Books -/

theorem State.But.updateBook {w : Saw} {tag : Word} {f : Book → Book} (htag : ∀ b, (f b).tag = b.tag)
    (hstate : ∀ b, (f b).state = b.state) (hgantry : ∀ b, (f b).gantry = b.gantry)
    (hlift : ∀ b ∈ (s.saw w).books, b.tag = tag → b.state = .assembling → 1 ≤ (f b).lift ∧ (f b).lift ≤ (f b).entries.length) :
    (s.updateBook w tag f).But g c j :=
  h.setBooks ((h.tidy.shelves w).updateAssembling htag hlift) (assembles_updateAssembling htag hstate hgantry) rfl

/-- A change of gantry `g`'s book that leaves the lift and the entries as they are. -/
theorem State.But.updateBook_of_keeps {w : Saw} {tag : Word} {f : Book → Book}
    (hf : ∀ b, (f b).tag = b.tag ∧ (f b).state = b.state ∧ (f b).gantry = b.gantry ∧ (f b).lift = b.lift ∧
      (f b).entries = b.entries) : (s.updateBook w tag f).But g c j :=
  h.updateBook (fun b => (hf b).1) (fun b => (hf b).2.1) (fun b => (hf b).2.2.1) fun b hb _ _ => by
    obtain ⟨-, -, -, hl, he⟩ := hf b
    rw [hl, he]
    exact (h.tidy.shelves w).lifts b hb

theorem State.But.releaseBook {w : Saw} {tag : Word} (hj : j = some (.book w tag)) :
    (s.releaseBook w tag).But g c (some .panelReturn) := by
  obtain ⟨b, hb, -⟩ := h.book hj
  have hset := h.endBookWith (r := { s.saw w with
    books := updateAssembling tag (fun x => x.release s.clock) (s.saw w).books
    released := (s.saw w).released.step
    lastBookReport := some (tag, .complete) }) hj
    ((h.tidy.shelves w).updateAssembling (fun _ => rfl) fun b hb _ _ => (h.tidy.shelves w).lifts b hb)
    (fun k _ => assembles_release s.clock k) rfl
  simp only [State.releaseBook, hb]
  exact (State.sameWork_duties _ _).but ((State.sameWork_push _ _ _).but hset)

/-- A gantry that only returns a panel owns no more than one that has no task. -/
theorem State.But.drop (hj : j = some .panelReturn) : s.But g c none := by
  subst hj
  refine ⟨h.tidy, h.other, h.owns.claims, h.owns.picked, fun w tag => ?_, fun w => ?_, fun hn => absurd rfl hn⟩
  · simpa using h.owns.books w tag
  · simpa using h.owns.offers w

/-! ## Offers -/

/-- The offer that gantry `g` holds leaves its saw's list. -/
theorem State.But.dropOfferOf {w : Saw} {r : SawRecord} (hj : j = some (.remnantReturn w)) (hbooks : r.books = (s.saw w).books)
    (hoffers : r.offers = dropOffer g (s.saw w).offers) : (s.setSaw w r).But g c (some .panelReturn) := by
  refine h.setSaw (by rw [hbooks]; exact h.tidy.shelves w) (fun _ => by rw [hbooks])
    (by rw [hoffers, heldOffers_dropOffer_other]) (fun tag => ?_) ?_ (fun v hv => ?_) fun _ => h.owns.working (by simp [hj])
  · rw [hbooks, ← h.owns.books, hj]
    simp
  · rw [holdsOffer_iff, hoffers, heldOffers_dropOffer_self]
    simp
  · rw [hj]
    simpa using fun he : w = v => absurd he.symm hv

theorem State.But.offer {w : Saw} (hj : j = some (.remnantReturn w)) : ∃ o, s.offerOf g w = some o := by
  have hheld := (holdsOffer_iff _ _).mp ((h.owns.offers w).mp hj)
  rw [State.offerOf_eq]
  exact ⟨_, List.head?_eq_some_head hheld⟩

theorem State.But.endOffer {w : Saw} (hj : j = some (.remnantReturn w)) (o : OfferOutcome) (cause : Option BookFault) (n : Nat)
    (name : Option SlotName) : (s.endOffer g w o cause n name).But g c (some .panelReturn) := by
  obtain ⟨x, hx⟩ := h.offer hj
  simp only [State.endOffer, hx]
  exact (State.sameWork_push _ _ _).but (h.dropOfferOf hj rfl rfl)
end

/-! ## Starts -/

/-- A saw's head book starts on a gantry that has no task. -/
theorem State.But.withStart {s : State} {g : Gantry} {c : Option (Nat × Purpose)} (h : s.But g c none) (hw : s.Working) {w : Saw}
    {b : Book} (hb : b ∈ (s.saw w).books) (hq : b.state = .queued) (now : Time) :
    (s.setSaw w ((s.saw w).withStart b.tag g now)).But g c (some (.book w b.tag)) := by
  have hshelf := h.tidy.shelves w
  have hstart := assembles_start hb hq g now
  refine h.setSaw (r := (s.saw w).withStart b.tag g now) ?_ (fun tag => (hstart _ tag).trans ?_) rfl
    (fun tag => Iff.trans ?_ (hstart g tag).symm) ?_ (fun v hv => ?_) fun _ => hw
  · refine hshelf.map (fun x => ?_) fun x hx => ?_
    · split <;> rfl
    · split
      · exact ⟨Nat.le_refl 1, (hshelf.lifts x hx).1.trans (hshelf.lifts x hx).2⟩
      · exact hshelf.lifts x hx
  · simp
  · rw [← h.owns.books]
    simpa using eq_comm
  · show _ ↔ HoldsOffer (s.saw w).offers g
    rw [← h.owns.offers]
    simp
  · simpa using fun he : w = v => absurd he.symm hv

/-- A saw's head offer is given to a gantry that has no task. -/
theorem State.But.holdOffer {s : State} {g : Gantry} {c : Option (Nat × Purpose)} (h : s.But g c none) (hw : s.Working) {w : Saw}
    {o : Offer} {os : List Offer} (hos : (s.saw w).offers = o :: os) (ho : o.state = .waiting) :
    (s.setSaw w { s.saw w with offers := Sys2Proof.Machine.holdOffer g (s.saw w).offers }).But g c
      (some (.remnantReturn w)) := by
  refine h.setSaw (h.tidy.shelves w) (fun _ => Iff.rfl) ?_ (fun tag => ?_) ?_ (fun v hv => ?_) fun _ => hw
  · simp only [hos]
    exact heldOffers_holdOffer_other ho os g
  · rw [← h.owns.books]
    simp
  · rw [holdsOffer_iff, hos, heldOffers_holdOffer ho]
    simp
  · simpa using fun he : w = v => absurd he.symm hv

end Sys2Proof.Machine
end

section
/-! PROOFS. A step that is prepared, requested, issued or set aside keeps everything in order (R77 to R87, R101). -/

namespace Sys2Proof.Machine

/-! ## Records -/

/-- A gantry holds a task and nothing of a yield, a hover hold or a fault. -/
structure GantryRecord.Has (r : GantryRecord) (t : Task) : Prop where
  task : r.task = some t
  aside : r.setAside = none
  former : r.former = none
  hold : r.hold = none
  fault : r.fault = none

/-- It does, and the task agrees with what the head carries. -/
structure GantryRecord.Bears (r : GantryRecord) (t : Task) : Prop where
  task : r.task = some t
  sound : t.Sound r.carried
  aside : r.setAside = none
  former : r.former = none
  hold : r.hold = none
  fault : r.fault = none

/-- Why a gantry yields (R82, R85, R162, log entry 11). -/
def GantryRecord.YieldCause (r : GantryRecord) : Prop :=
  match r.former, r.setAside with
  | some .idle, none => r.task = none
  | some .stranded, none => r.task.map Task.phase = some .stranded
  | none, some a => a.request = none ∧ a.issued = none ∧ a.kind ≠ .place ∧ ∃ t, r.task = some t ∧ t.Calls a
  | none, none => ∀ t, r.task = some t → t.kind = .panelReturn ∧ t.phase = .putting ∧ t.destination = none
  | some _, some _ => False

/-- A gantry may yield: it has a cause, and neither a hover hold nor a fault. -/
structure GantryRecord.MayYield (r : GantryRecord) : Prop where
  task : ∀ t, r.task = some t → t.Sound r.carried
  empty : r.task = none → r.carried = none
  hold : r.hold = none
  fault : r.fault = none
  cause : r.YieldCause

/-- The record with another state, step, dwell end, reservation and next token. -/
def GantryRecord.moved (r : GantryRecord) (st : GantryState) (c : Step) (d : Option Moment) (v : Option Span) (n : BitVec 8) :
    GantryRecord := { r with state := st, current := some c, dwellEnd := d, reservation := v, nextToken := n }

section
variable {r : GantryRecord} {st : GantryState} {c : Step} {d : Option Moment} {v : Option Span} {n : BitVec 8}

/-- A step is prepared in DWELL, WAIT_GRANT and STEPPING alone. -/
theorem GantryRecord.Prepares.state (h : (r.moved st c d v n).Prepares c) : st = .dwell ∨ st = .waitGrant ∨ st = .stepping := by
  unfold GantryRecord.Prepares at h
  dsimp only [GantryRecord.moved] at h
  split at h <;> simp_all

theorem GantryRecord.sound_of_moved (htask : ∀ t, r.task = some t → t.Sound r.carried) (hempty : r.task = none → r.carried = none)
    (hfault : r.fault = none) (hhold : r.hold = none) (hp : (r.moved st c d v n).Prepares c)
    (hwork : (r.moved st c d v n).OwnStep ∨ (r.moved st c d v n).Yields) : (r.moved st c d v n).Sound := by
  have hst := hp.state
  refine ⟨htask, hempty, ?_, ?_⟩
  · show r.fault.isSome ↔ st = .faulted
    rw [hfault]
    rcases hst with rfl | rfl | rfl <;> simp
  · have hdo : (r.moved st c d v n).hold = none ∧ ((r.moved st c d v n).OpenWait ∨ (r.moved st c d v n).OwnStep ∨
        (r.moved st c d v n).Yields) := ⟨hhold, .inr hwork⟩
    rcases hst with rfl | rfl | rfl <;> exact hdo

theorem GantryRecord.Bears.has {t : Task} (h : r.Bears t) : r.Has t := ⟨h.task, h.aside, h.former, h.hold, h.fault⟩

theorem GantryRecord.Bears.sound_of_task {t : Task} (h : r.Bears t) (u : Task) (hu : r.task = some u) : u.Sound r.carried := by
  rw [h.task] at hu
  cases hu
  exact h.sound

theorem GantryRecord.Bears.carried_of_none {t : Task} (h : r.Bears t) (hn : r.task = none) : r.carried = none := by
  rw [h.task] at hn
  cases hn

/-- A gantry that bears a task prepares its step. -/
theorem GantryRecord.Bears.moved_sound {t : Task} (h : r.Bears t) (hcalls : t.Calls c) (hp : (r.moved st c d v n).Prepares c)
    (hplace : c.kind = .place → st = .stepping) : (r.moved st c d v n).Sound :=
  GantryRecord.sound_of_moved h.sound_of_task h.carried_of_none h.fault h.hold hp
    (.inl ⟨c, t, rfl, h.task, hcalls, hp, h.aside, h.former, hplace⟩)

/-- A gantry that may yield prepares a yield. -/
theorem GantryRecord.MayYield.moved_sound (h : r.MayYield) (hkind : c.kind = .travelOnly) (hp : (r.moved st c d v n).Prepares c)
    (hgrant : st ≠ .waitGrant) : (r.moved st c d v n).Sound :=
  GantryRecord.sound_of_moved h.task h.empty h.fault h.hold hp (.inr ⟨c, rfl, hkind, hp, hgrant, h.cause⟩)
end

/-- An IDLE gantry may yield. -/
theorem GantryRecord.Sound.mayYield_idle {r : GantryRecord} (h : r.Sound) (hs : r.state = .idle) :
    ({ r with former := some .idle } : GantryRecord).MayYield := by
  have hw := h.work
  rw [hs] at hw
  obtain ⟨⟨-, haside, -, -⟩, hhold, htask⟩ := hw
  have hfault : r.fault = none := by simpa [hs] using h.fault
  refine ⟨h.task, h.empty, hhold, hfault, ?_⟩
  simp [GantryRecord.YieldCause, haside, htask]

/-- A STRANDED gantry may yield. -/
theorem GantryRecord.Sound.mayYield_stranded {r : GantryRecord} (h : r.Sound) (hs : r.state = .stranded) :
    ({ r with former := some .stranded } : GantryRecord).MayYield := by
  have hw := h.work
  rw [hs] at hw
  obtain ⟨⟨-, haside, -, -⟩, hhold, htask⟩ := hw
  have hfault : r.fault = none := by simpa [hs] using h.fault
  refine ⟨h.task, h.empty, hhold, hfault, ?_⟩
  simpa [GantryRecord.YieldCause, haside] using htask

/-- A gantry in WAIT_GRANT waits with the step of its task. -/
theorem GantryRecord.Sound.waits_with {r : GantryRecord} (h : r.Sound) (hs : r.state = .waitGrant) :
    ∃ c t, r.current = some c ∧ r.Bears t ∧ t.Calls c ∧ c.kind ≠ .place ∧ c.request.isSome := by
  have hw := h.work
  rw [hs] at hw
  obtain ⟨hhold, hw | ⟨c, t, hc, ht, hcalls, hp, ha, hf, hplace⟩ | ⟨_, _, _, _, hy, _⟩⟩ := hw
  · have hd := hw.1
    rw [hs] at hd
    cases hd
  · have hreq : c.request.isSome := by
      unfold GantryRecord.Prepares at hp
      rw [hs] at hp
      exact hp.2.1
    exact ⟨c, t, hc, ⟨ht, h.task t ht, ha, hf, hhold, by simpa [hs] using h.fault⟩, hcalls,
      fun hk => absurd (hplace hk) (by rw [hs]; decide), hreq⟩
  · exact absurd hs hy

/-- A gantry that bears a task may yield with a step of it set aside. -/
theorem GantryRecord.Bears.mayYield_aside {r : GantryRecord} {t : Task} (h : r.Bears t) {c : Step} (hc : t.Calls c)
    (hplace : c.kind ≠ .place) {d : Option Moment} :
    ({ r with setAside := some c.bare, current := none, dwellEnd := d, former := none } : GantryRecord).MayYield :=
  ⟨h.sound_of_task, h.carried_of_none, h.hold, h.fault, rfl, rfl, hplace, t, h.task, hc⟩

/-! ## States -/

/-- A gantry bears a task, and what it owns is that task's. -/
structure State.Bearing (s : State) (g : Gantry) (t : Task) : Prop where
  but : s.But g t.claim (some t.kind)
  record : (s.gantry g).Bears t
  room : s.Room g

theorem GantryRecord.Bears.claim {r : GantryRecord} {t : Task} (h : r.Bears t) : r.claim = t.claim := by
  rw [GantryRecord.claim, h.task]; rfl

theorem GantryRecord.Bears.job {r : GantryRecord} {t : Task} (h : r.Bears t) : r.job = some t.kind := by
  rw [GantryRecord.job, h.task]; rfl

theorem State.Bearing.own {s : State} {g : Gantry} {t : Task} (h : s.Bearing g t) :
    s.But g (s.gantry g).claim (s.gantry g).job := by
  rw [h.record.claim, h.record.job]
  exact h.but

theorem State.Bearing.working {s : State} {g : Gantry} {t : Task} (h : s.Bearing g t) : s.Working :=
  h.but.owns.working (by simp)

theorem State.Room.of_same {s t : State} {g : Gantry} (h : s.Room g) (htask : (t.gantry g).task = (s.gantry g).task)
    (hcarried : (t.gantry g).carried = (s.gantry g).carried) (hkinds : t.kinds = s.kinds) (hlayout : t.layout = s.layout)
    (hslots : ∀ n, (t.slot n).stack = (s.slot n).stack)
    (hoffers : ∀ w, (s.gantry g).job = some (.remnantReturn w) → t.offerOf g w = s.offerOf g w) : t.Room g := by
  intro n hn
  rw [htask] at hn
  have hfor := State.hasRoomFor_congr hkinds hlayout (hslots n)
  obtain ⟨h1, h2⟩ := h n hn
  refine ⟨fun p hp => by rw [hfor]; exact h1 p (hcarried ▸ hp), fun w o hc hj ho => ?_⟩
  rw [GantryRecord.job, htask] at hj
  rw [hoffers w hj] at ho
  rw [hfor]
  exact h2 w o (hcarried ▸ hc) hj ho

theorem State.Room.setGantry {s : State} {g : Gantry} (h : s.Room g) {r : GantryRecord} (htask : r.task = (s.gantry g).task)
    (hcarried : r.carried = (s.gantry g).carried) : (s.setGantry g r).Room g :=
  h.of_same (by simpa using htask) (by simpa using hcarried) rfl rfl (fun _ => rfl) fun _ _ => rfl

/-- A gantry goes on with a step of its own or a yield; its reservation stays as it is or lies clear of the other's. -/
theorem State.But.steady_moved {s : State} {g : Gantry} (h : s.But g (s.gantry g).claim (s.gantry g).job) (hroom : s.Room g)
    {st : GantryState} {c : Step} {d : Option Moment} {v : Option Span} {n : BitVec 8}
    (hs : ((s.gantry g).moved st c d v n).Sound)
    (hv : v.getD ⟨0, 0⟩ = s.span g ∨ ∃ u, v = some u ∧ s.isClear g u = true) :
    (s.setGantry g ((s.gantry g).moved st c d v n)).Steady := by
  have hbut : (s.setGantry g ((s.gantry g).moved st c d v n)).But g (s.gantry g).claim (s.gantry g).job := by
    rcases hv with hv | ⟨u, hv, hu⟩
    · exact h.setGantry rfl rfl hv
    · exact h.setGantry_clear rfl rfl hv hu
  exact hbut.steady (by rw [State.setGantry_gantry_same]; exact hs) (by rw [State.setGantry_gantry_same]; rfl)
    (by rw [State.setGantry_gantry_same]; rfl) (hroom.setGantry rfl rfl)

section
variable {s : State} {g : Gantry} {t : Task} (h : s.Bearing g t) {step : Step} (hc : t.Calls step)
include h hc

theorem State.Bearing.issue {v : Span} (hv : v = s.span g ∨ s.isClear g v = true) :
    (s.issue g step v).Steady :=
  (State.sameWork_push _ _ _).steady (h.own.steady_moved h.room (d := none)
    (h.record.moved_sound hc ⟨rfl, rfl, rfl⟩ fun _ => rfl) (hv.imp id fun hv => ⟨v, rfl, hv⟩))

theorem State.Bearing.await (hplace : step.kind ≠ .place) (v : Span) (k : Verdict) : (s.await g step v k).Steady :=
  h.own.steady_moved h.room (d := none) (v := (s.gantry g).reservation) (n := (s.gantry g).nextToken)
    (h.record.moved_sound hc ⟨rfl, rfl, rfl⟩ fun hk => absurd hk hplace) (.inl rfl)

theorem State.Bearing.dwellFor (hplace : step.kind ≠ .place) (m : Moment) : (s.dwellFor g step m).Steady :=
  h.own.steady_moved h.room (d := some m) (v := (s.gantry g).reservation) (n := (s.gantry g).nextToken)
    (h.record.moved_sound hc ⟨rfl, rfl, rfl⟩ fun hk => absurd hk hplace) (.inl rfl)
end

/-! ## Yields -/

/-- A yield's requested span lies clear of the other gantry's reservation: on that side it ends where the yielder's own
reservation does (R82, R83). -/
theorem State.isClear_yield {s : State} (h : (s.span .west).hi < (s.span .east).lo) (g : Gantry) (x : Nat) :
    s.isClear g (s.requestedSpan g (yieldStep x)) = true := by
  rw [State.isClear_iff]
  cases g <;> exact h

/-- A gantry that may yield is ordered to, or takes up its yield: it dwells or makes it. -/
theorem State.But.prepareYield {s : State} {g : Gantry} (h : s.But g (s.gantry g).claim (s.gantry g).job) (hw : s.Working)
    (hm : (s.gantry g).MayYield) (hroom : s.Room g) (x : Nat) : (s.prepareYield g (yieldStep x)).Steady := by
  unfold State.prepareYield
  split
  · next m _ =>
    exact h.steady_moved hroom (d := some m) (v := (s.gantry g).reservation) (n := (s.gantry g).nextToken)
      (hm.moved_sound rfl ⟨rfl, rfl, rfl⟩ (by decide)) (.inl rfl)
  · have hclear := State.isClear_yield (h.tidy.apart hw) g x
    rw [State.requestYield, if_pos hclear]
    exact (State.sameWork_push _ _ _).steady (h.steady_moved hroom (d := none)
      (hm.moved_sound rfl ⟨rfl, rfl, rfl⟩ (by decide)) (.inr ⟨_, rfl, hclear⟩))

/-- A gantry's record is set to one that may yield and that keeps task, head and reservation, and it yields. -/
theorem State.But.yield {s : State} {g : Gantry} (h : s.But g (s.gantry g).claim (s.gantry g).job) (hw : s.Working)
    (hroom : s.Room g) {r : GantryRecord} (hm : r.MayYield) (htask : r.task = (s.gantry g).task)
    (hcarried : r.carried = (s.gantry g).carried) (hfault : r.fault = (s.gantry g).fault)
    (hr : r.reservation.getD ⟨0, 0⟩ = s.span g) (x : Nat) : ((s.setGantry g r).prepareYield g (yieldStep x)).Steady := by
  have hset := h.setGantry (r := r) (by rw [GantryRecord.panels, hcarried, hfault]; rfl)
    (by rw [GantryRecord.blank, htask]; rfl) hr
  refine State.But.prepareYield (s := s.setGantry g r) ?_ hw (by rw [State.setGantry_gantry_same]; exact hm) (hroom.setGantry htask hcarried) x
  rw [State.setGantry_gantry_same, GantryRecord.claim, GantryRecord.job, htask]
  exact hset

/-- A gantry whose record may yield with the former state given is ordered to yield (R82). -/
theorem State.But.orderYield {s : State} {g : Gantry} (h : s.But g (s.gantry g).claim (s.gantry g).job) (hw : s.Working)
    (hroom : s.Room g) (v : Span) {f : Option FormerState} (hm : ({ s.gantry g with former := f } : GantryRecord).MayYield) :
    (s.orderYield g v f).Steady :=
  h.yield hw hroom (r := { s.gantry g with former := f, yieldsMade := (s.gantry g).yieldsMade.step })
    ⟨hm.task, hm.empty, hm.hold, hm.fault, hm.cause⟩ rfl rfl rfl rfl _

end Sys2Proof.Machine
end

section
/-! PROOFS. The judgement of a request keeps everything in order, whatever the verdict (R79, R82, R85, R87). -/

namespace Sys2Proof.Machine

/-- What a step that is handed over leaves: the gantry still bears its task where the step is withdrawn (R87), and everything is in
order otherwise. -/
def State.Judged (g : Gantry) (t : Task) (r : State × Bool) : Prop := if r.2 then r.1.Bearing g t else r.1.Steady

theorem State.Steady.bearing {s : State} (h : s.Steady) {g : Gantry} {t : Task} (hr : (s.gantry g).Bears t) : s.Bearing g t :=
  ⟨by rw [← hr.claim, ← hr.job]; exact h.but g, hr, (h.gantry g).room⟩

/-- The task's gantry keeps what it holds while its step is changed. -/
theorem State.Bearing.setStep {s : State} {g : Gantry} {t : Task} (h : s.Bearing g t) {r : GantryRecord}
    (hb : r.Bears t) (hcarried : r.carried = (s.gantry g).carried) (hr : r.reservation.getD ⟨0, 0⟩ = s.span g) :
    (s.setGantry g r).Bearing g t := by
  have htask : r.task = (s.gantry g).task := hb.task.trans h.record.task.symm
  refine ⟨h.but.setGantry ?_ ?_ hr, by rw [State.setGantry_gantry_same]; exact hb, h.room.setGantry htask hcarried⟩
  · rw [GantryRecord.panels, GantryRecord.panels, hcarried, hb.fault, h.record.fault]
  · rw [GantryRecord.blank, GantryRecord.blank, htask]

/-- An IDLE or a STRANDED gantry is ordered to yield. -/
theorem State.Steady.orderYield {s : State} (h : s.Steady) (hw : s.Working) {g : Gantry}
    (hs : (s.gantry g).state = .idle ∨ (s.gantry g).state = .stranded) (v : Span) :
    (s.orderYield g v (s.gantry g).state.former).Steady := by
  refine (h.but g).orderYield hw (h.gantry g).room v ?_
  rcases hs with hs | hs
  · rw [hs]
    exact (h.gantry g).record.mayYield_idle hs
  · rw [hs]
    exact (h.gantry g).record.mayYield_stranded hs

/-- A gantry sets a step of its task aside and yields (R85). -/
theorem State.Bearing.setAside {s : State} {g : Gantry} {t : Task} (h : s.Bearing g t) {c : Step} (hc : t.Calls c)
    (hplace : c.kind ≠ .place) {d : Option Moment} (v : Span) :
    ((s.setGantry g { s.gantry g with setAside := some c.bare, current := none, dwellEnd := d }).orderYield g v none).Steady := by
  let r : GantryRecord := { s.gantry g with setAside := some c.bare, current := none, dwellEnd := d }
  have hset : (s.setGantry g r).But g ((s.setGantry g r).gantry g).claim ((s.setGantry g r).gantry g).job := by
    rw [State.setGantry_gantry_same]
    exact h.own.setGantry rfl rfl rfl
  refine hset.orderYield h.working (h.room.setGantry rfl rfl) v ?_
  rw [State.setGantry_gantry_same]
  exact h.record.mayYield_aside hc hplace

/-- A crossing conflict is settled: one of the two yields, and the other waits (R85). -/
theorem State.Bearing.cross {s : State} {g : Gantry} {t : Task} (h : s.Bearing g t) {step : Step} (hc : t.Calls step)
    (hplace : step.kind ≠ .place) (v : Span) (hs : (s.gantry (otherGantry g)).state = .waitGrant) : (s.cross g step v).Steady := by
  unfold State.cross
  split
  · exact h.setAside hc hplace _
  · have hawait := h.await hc hplace v .crossing
    have hother : (s.await g step v .crossing).gantry (otherGantry g) = s.gantry (otherGantry g) :=
      State.setGantry_gantry_other _ _ _
    obtain ⟨c, u, hcur, hbears, hcalls, hcp, -⟩ := h.but.other.record.waits_with hs
    dsimp only
    rw [hother, hcur]
    have hb : (s.await g step v .crossing).Bearing (otherGantry g) u := hawait.bearing (by rw [hother]; exact hbears)
    have hyields := hb.setAside hcalls hcp (d := (s.gantry (otherGantry g)).dwellEnd) v
    rw [hother] at hyields
    exact hyields

/-- Of a task's steps only a PLACE keeps its gantry where it stands, and none is a yield. -/
theorem Task.Calls.not_travelOnly {t : Task} {c : Step} (h : t.Calls c) : c.kind ≠ .travelOnly := by
  unfold Task.Calls at h
  split at h <;> first | exact h.elim | (rw [h.1]; decide)

/-- A request is judged (R79). -/
theorem State.Bearing.judge {s : State} {g : Gantry} {t : Task} (h : s.Bearing g t) {step : Step} (hc : t.Calls step)
    (hplace : step.kind ≠ .place) (v : Span) : State.Judged g t (s.judge g step v) := by
  have hother (k : Verdict) : (s.await g step v k).gantry (otherGantry g) = s.gantry (otherGantry g) :=
    State.setGantry_gantry_other _ _ _
  have hyields (hs : (s.gantry (otherGantry g)).state = .idle ∨ (s.gantry (otherGantry g)).state = .stranded) :
      ((s.await g step v .yielding).orderYield (otherGantry g) v (s.gantry (otherGantry g)).state.former).Steady := by
    rw [← hother .yielding]
    exact (h.await hc hplace v .yielding).orderYield h.working (by rw [hother]; exact hs) v
  unfold State.judge
  split
  · next hv => exact h.issue hc (.inr hv)
  · split
    · next hs => exact hyields (.inl hs)
    · next hs => exact hyields (.inr hs)
    · next hs =>
      split
      · exact h.await hc hplace v .waiting
      · exact h.cross hc hplace v hs
    · exact h.await hc hplace v .waiting
    · exact h.await hc hplace v .waiting
    · exact h.await hc hplace v .waiting
    all_goals
      exact h.setStep ⟨h.record.task, h.record.sound, h.record.aside, h.record.former, h.record.hold, h.record.fault⟩ rfl rfl

/-- A grant is requested for a step of a gantry's task; a PLACE is made where the gantry stands (R77). -/
theorem State.Bearing.request {s : State} {g : Gantry} {t : Task} (h : s.Bearing g t) {step : Step} (hc : t.Calls step)
    (v : Span) : State.Judged g t (s.request g step v) := by
  unfold State.request
  split
  · exact h.issue hc (.inl rfl)
  · next hk => exact absurd hk hc.not_travelOnly
  · next hk _ => exact h.judge hc hk v

/-- A PLACE, which goes nowhere, owes no dwell (R93). -/
theorem State.dwellOwed_of_still {s : State} {g : Gantry} {step : Step} (hk : step.kind = .place) (hx : step.target = s.pos g) :
    s.dwellOwed g step = none := by
  have hdue : s.dwellDue g step = 0 := by
    simp [State.dwellDue, State.reverseDwell, State.headDwell, hk, hx, travelDirection]
  unfold State.dwellOwed
  split
  · rw [hdue]
    rfl
  · rfl

/-- A step of a gantry's task is prepared (R101): it dwells first or requests its grant. -/
theorem State.Bearing.prepare {s : State} {g : Gantry} {t : Task} (h : s.Bearing g t) {step : Step} (hc : t.Calls step)
    (hplace : step.kind = .place → step.target = s.pos g) : State.Judged g t (s.prepare g step) := by
  unfold State.prepare
  split
  · next m hm =>
    refine h.dwellFor hc (fun hk => ?_) m
    rw [State.dwellOwed_of_still hk (hplace hk)] at hm
    cases hm
  · exact h.request hc _

end Sys2Proof.Machine
end

section
/-! PROOFS. A panel or a pool record moves between a slot, a gantry and the free list, and the store stays sound (R20 to R24, R33
to R35). -/

namespace Sys2Proof.Machine

/-- A slot's record, a gantry's record, the free list and the serial counter are replaced together. -/
def State.exchanged (s : State) (n : Nat) (r : Slot) (g : Gantry) (q : GantryRecord) (f : FreeList) (k : Nat) : State :=
  { s with slots := s.slots.set n r, gantries := s.gantries.set g q, free := f, serialCounter := k }

/-! ## What is near a slot and a gantry, and what is elsewhere -/

/-- The LIVE panels of every other slot and of the other gantry. -/
def State.elsewhere (s : State) (n : Nat) (g : Gantry) : List Panel := s.otherPiles n ++ (s.gantry (otherGantry g)).panels

theorem State.headPanels_perm (s : State) (g : Gantry) :
    s.headPanels.Perm ((s.gantry g).panels ++ (s.gantry (otherGantry g)).panels) := by
  cases g
  · exact .refl _
  · exact List.perm_append_comm

theorem State.blanks_perm (s : State) (g : Gantry) :
    s.blanks.Perm ((s.gantry g).blank.toList ++ (s.gantry (otherGantry g)).blank.toList) := by
  cases g
  · exact .refl _
  · exact List.perm_append_comm

/-- Three parts with a fourth: the middle ones change places. -/
theorem List.Perm.exchange_middle {α : Type} (a b c d : List α) : (a ++ b ++ (c ++ d)).Perm (a ++ c ++ (b ++ d)) := by
  rw [List.append_assoc, List.append_assoc, ← List.append_assoc b, ← List.append_assoc c]
  exact (List.perm_append_comm.append_right d).append_left a

theorem State.livePanels_perm (s : State) (n : Nat) (g : Gantry) :
    s.livePanels.Perm ((s.slot n).stack ++ (s.gantry g).panels ++ s.elsewhere n g) := by
  rw [State.livePanels_eq]
  exact ((s.piles_perm n).append (s.headPanels_perm g)).trans (List.Perm.exchange_middle _ _ _ _)

section
variable (s : State) {n : Nat} {r : Slot} (g : Gantry) (q : GantryRecord) (f : FreeList) (k : Nat)

@[simp] theorem State.exchanged_gantry : (s.exchanged n r g q f k).gantry g = q := PerGantry.get_set_same _ _ _

@[simp] theorem State.exchanged_gantry_other : (s.exchanged n r g q f k).gantry (otherGantry g) = s.gantry (otherGantry g) :=
  PerGantry.get_set_other _ _ _

theorem State.exchanged_slot_of_ne {m : Nat} (h : m ≠ n) : (s.exchanged n r g q f k).slot m = s.slot m :=
  s.slot_setSlot_of_ne r h

theorem State.exchanged_slot (h : (s.setSlot n r).slot n = r) : (s.exchanged n r g q f k).slot n = r := h

theorem State.exchanged_livePanels_perm (h : (s.setSlot n r).slot n = r) :
    (s.exchanged n r g q f k).livePanels.Perm (r.stack ++ q.panels ++ s.elsewhere n g) := by
  have hperm := (s.exchanged n r g q f k).livePanels_perm n g
  have hother : (s.exchanged n r g q f k).otherPiles n = s.otherPiles n :=
    congrArg (List.flatMap Slot.stack) List.eraseIdx_set_eq
  rwa [State.exchanged_slot _ _ _ _ _ h, State.exchanged_gantry, State.elsewhere, hother, State.exchanged_gantry_other,
    ← State.elsewhere] at hperm

theorem State.exchanged_blanks_perm :
    (s.exchanged n r g q f k).blanks.Perm (q.blank.toList ++ (s.gantry (otherGantry g)).blank.toList) := by
  have hperm := (s.exchanged n r g q f k).blanks_perm g
  rwa [State.exchanged_gantry, State.exchanged_gantry_other] at hperm
end

/-! ## The store -/

/-- An exchange loses no pool record and doubles none; the panels it leaves near the slot and the gantry were there before, but for
one that may be new, and the slot's stack stays within its limits. -/
structure State.Exchanges (s : State) (n : Nat) (r : Slot) (g : Gantry) (q : GantryRecord) (f : FreeList) (k : Nat)
    (new : Option Panel) : Prop where
  slot : (s.setSlot n r).slot n = r
  pool : (f.order ++ q.blank.toList ++ (r.stack ++ q.panels).map Panel.record).Perm
    (s.free.order ++ (s.gantry g).blank.toList ++ ((s.slot n).stack ++ (s.gantry g).panels).map Panel.record)
  live : (r.stack ++ q.panels).Subperm (new.toList ++ ((s.slot n).stack ++ (s.gantry g).panels))
  fresh : ∀ p, new = some p → s.serialLive p.serial = false ∧ 1 ≤ p.serial ∧ p.serial ≤ maxSerial
  counter : 1 ≤ k ∧ k ≤ maxSerial
  limit : r.stack.length ≤ 40 ∧ s.heightOf r.stack ≤ s.geom.maxStackHeight

theorem State.Stocked.exchanged {s : State} (hs : s.Stocked) {n : Nat} {r : Slot} {g : Gantry} {q : GantryRecord} {f : FreeList}
    {k : Nat} {new : Option Panel} (h : s.Exchanges n r g q f k new) : (s.exchanged n r g q f k).Stocked := by
  let t := s.exchanged n r g q f k
  have htlive : t.livePanels.Perm _ := s.exchanged_livePanels_perm g q f k h.slot
  have hslive := s.livePanels_perm n g
  have hsub : t.livePanels.Subperm (new.toList ++ s.livePanels) := by
    refine htlive.subperm.trans ?_
    refine ((List.subperm_append_right _).mpr h.live).trans ?_
    rw [List.append_assoc]
    exact (hslive.symm.append_left _).subperm
  have hnodup : ((new.toList ++ s.livePanels).map Panel.serial).Nodup := by
    cases new with
    | none => exact hs.serials
    | some p =>
      refine List.nodup_cons.mpr ⟨fun hm => ?_, hs.serials⟩
      have := (s.serialLive_iff p.serial).mpr hm
      rw [(h.fresh p rfl).1] at this
      cases this
  obtain ⟨l, hl, hsubl⟩ := hsub
  refine ⟨?_, (hl.map Panel.serial).nodup_iff.mp (hnodup.sublist (hsubl.map _)), fun p hp => ?_, h.counter, fun m => ?_⟩
  · refine List.Perm.trans (List.perm_iff_count.mpr fun a => ?_) hs.pool
    have h1 := (htlive.map Panel.record).count_eq a
    have h2 := (hslive.map Panel.record).count_eq a
    have h3 := h.pool.count_eq a
    have h4 : t.blanks.count a = _ := (s.exchanged_blanks_perm (n := n) (r := r) g q f k).count_eq a
    have h5 := (s.blanks_perm g).count_eq a
    have hf : t.free.order = f.order := rfl
    show (t.free.order ++ t.blanks ++ t.livePanels.map Panel.record).count a = _
    simp only [List.map_append, List.count_append, hf] at h1 h2 h3 h4 h5 ⊢
    omega
  · rcases List.mem_append.mp (hsubl.subset (hl.symm.subset hp)) with hm | hm
    · exact (h.fresh p (by simpa using hm)).2
    · exact hs.range p hm
  · have hheight (ps : List Panel) : t.heightOf ps = s.heightOf ps := rfl
    by_cases hm : m = n
    · subst hm
      have hslot : t.slot m = r := h.slot
      rw [hslot, State.height, hslot]
      exact h.limit
    · have hslot : t.slot m = s.slot m := s.exchanged_slot_of_ne g q f k hm
      rw [hslot, State.height, hslot]
      exact hs.limits m

end Sys2Proof.Machine
end

section
/-! PROOFS. The moves of one panel with one gantry set aside: from a slot onto the head, from the head onto a slot, from the head onto a
table, and from an outfeed onto the head (R33, R34, R35). -/

namespace Sys2Proof.Machine

theorem State.But.exchanged {s : State} {g : Gantry} {c c' : Option (Nat × Purpose)} {j : Option TaskKind} (h : s.But g c j)
    {n : Nat} {r : Slot} {q : GantryRecord} {f : FreeList} {k : Nat} {new : Option Panel} (hx : s.Exchanges n r g q f k new)
    (hspan : q.reservation.getD ⟨0, 0⟩ = s.span g)
    (hother : r = s.slot n ∨ (∀ p, (s.slot n).claim ≠ some ⟨otherGantry g, p⟩) ∧ ∀ p, r.claim ≠ some ⟨otherGantry g, p⟩)
    (hhere : ∀ p, r.claim = some ⟨g, p⟩ ↔ c' = some (n, p)) (helse : ∀ m p, m ≠ n → (c' = some (m, p) ↔ c = some (m, p)))
    (hpick : c' = some (n, .pick) → r.stack ≠ []) : (s.exchanged n r g q f k).But g c' j := by
  let t := s.exchanged n r g q f k
  have hslot : t.slot n = r := hx.slot
  have hne (m : Nat) (hm : m ≠ n) : t.slot m = s.slot m := s.exchanged_slot_of_ne g q f k hm
  have hspans (k : Gantry) : t.span k = s.span k :=
    both_gantries (P := fun k => t.span k = s.span k) g (by rw [State.span, State.exchanged_gantry]; exact hspan)
      (by rw [State.span, State.exchanged_gantry_other]; rfl) k
  refine ⟨⟨fun hw => ?_, h.tidy.shelves, h.tidy.stocked.exchanged hx⟩, ?_, ?_⟩
  · have := h.tidy.apart hw
    rwa [← hspans, ← hspans] at this
  · refine (show s.Leaves t (otherGantry g) from
      ⟨s.exchanged_gantry_other g q f k, rfl, rfl, rfl, fun m p hm => ?_, fun _ _ => Iff.rfl, fun _ => rfl⟩).inOrder h.other
    by_cases hmn : m = n
    · subst hmn
      rcases hother with he | ⟨hwas, hnow⟩
      · rw [hslot, he]
      · rw [hslot] at hm
        exact absurd hm (not_or.mpr ⟨hnow p, hwas p⟩)
    · exact hne m hmn
  · refine ⟨fun m p => ?_, fun m hm => ?_, h.owns.books, h.owns.offers, h.owns.working⟩
    · by_cases hmn : m = n
      · subst hmn
        rw [hslot]
        exact hhere p
      · rw [hne m hmn, helse m p hmn]
        exact h.owns.claims m p
    · by_cases hmn : m = n
      · subst hmn
        rw [hslot]
        exact hpick hm
      · rw [hne m hmn]
        exact h.owns.picked m ((helse m .pick hmn).mp hm)

theorem State.releaseClaim_of_claimed {s : State} {n : Nat} {k : Claim} (h : (s.slot n).claim = some k) :
    s.releaseClaim n = (s.setSlot n { s.slot n with claim := none }).storeChange := by
  rw [State.releaseClaim, if_neg (by rw [h]; exact Option.some_ne_none _)]

theorem Slot.stack_of_top {r : Slot} {p : Panel} (h : r.top = some p) : r.stack = r.stack.take (r.stack.length - 1) ++ [p] := by
  have hne : r.stack ≠ [] := fun hn => by simp [Slot.top, hn] at h
  have hlast : r.stack.getLast hne = p := by simpa [Slot.top, List.getLast?_eq_some_getLast hne] using h
  rw [← List.dropLast_eq_take, ← hlast, List.dropLast_append_getLast hne]

/-- Room for a panel is what a stack needs to take it. -/
theorem State.limit_of_room {s : State} {n : Nat} {p : Panel} (h : s.hasRoomFor n p.kind = true) :
    ((s.slot n).stack ++ [p]).length ≤ 40 ∧ s.heightOf ((s.slot n).stack ++ [p]) ≤ s.geom.maxStackHeight := by
  obtain ⟨h1, h2⟩ := of_decide_eq_true h
  refine ⟨by simpa using h1, ?_⟩
  have : s.heightOf ((s.slot n).stack ++ [p]) = s.height n + s.thickness p.kind := by simp [State.height, State.heightOf]
  omega

/-! ## A slot pick -/

section
variable {s : State} {g : Gantry} {n : Nat} {j : Option TaskKind} (h : s.But g (some (n, .pick)) j)
include h

/-- The panel that a pick takes, and what the gantry's record is then. -/
theorem State.But.pickPanel (hc : (s.gantry g).carried = none) :
    (s.pickPanel g n).But g none j ∧ (s.pickPanel g n).geom = s.geom ∧
      ∃ p, (s.pickPanel g n).gantry g =
        { s.gantry g with carried := some p, lastMaterial := some (s.material p.kind) } := by
  have hclaim := (h.owns.claims n .pick).mpr rfl
  have hn := State.lt_of_claimed hclaim
  obtain ⟨p, hp⟩ : ∃ p, (s.slot n).top = some p := by
    cases htop : (s.slot n).top with
    | some p => exact ⟨p, rfl⟩
    | none => exact absurd (List.getLast?_eq_none_iff.mp htop) (h.owns.picked n rfl)
  let q : GantryRecord := { s.gantry g with carried := some p, lastMaterial := some (s.material p.kind) }
  let r : Slot := { s.slot n with stack := (s.slot n).stack.take ((s.slot n).stack.length - 1), claim := none }
  have hstack : (s.slot n).stack = r.stack ++ [p] := Slot.stack_of_top hp
  have hx : s.Exchanges n r g q s.free s.serialCounter none := by
    have hmove : (r.stack ++ q.panels).Perm ((s.slot n).stack ++ (s.gantry g).panels) := by
      rw [hstack, GantryRecord.panels, GantryRecord.panels, hc, List.append_assoc]
      rfl
    refine ⟨by rw [State.slot_setSlot, if_pos hn], (hmove.map _).append_left _, hmove.subperm, by simp,
      h.tidy.stocked.counter, ?_⟩
    obtain ⟨h1, h2⟩ := h.tidy.stocked.limits n
    rw [hstack, List.length_append] at h1
    rw [State.height, hstack, State.heightOf_append] at h2
    exact ⟨by omega, by omega⟩
  have hbut := h.exchanged (c' := none) hx rfl (.inr ⟨h.claim_ne_other rfl, fun _ => by simp [r]⟩) (fun _ => by simp [r])
    (fun m q hm => by simpa using fun he : n = m => absurd he.symm hm) (by simp)
  let u : State := (s.takeOnHead g p).unlay n 1
  have hu : s.pickPanel g n = (u.setSlot n { u.slot n with claim := none }).storeChange := by
    have huclaim : (u.slot n).claim = some ⟨g, .pick⟩ := by
      show (((s.takeOnHead g p).setSlot n _).slot n).claim = _
      rw [State.slot_setSlot, if_pos (by exact hn)]
      exact hclaim
    rw [← State.releaseClaim_of_claimed huclaim]
    simp only [State.pickPanel, hp]
    rfl
  have hslots : (u.setSlot n { u.slot n with claim := none }).slots = s.slots.set n r := by
    have huslot : u.slot n = { s.slot n with stack := (s.slot n).stack.take ((s.slot n).stack.length - 1) } := by
      show ((s.takeOnHead g p).setSlot n _).slot n = _
      rw [State.slot_setSlot, if_pos (by exact hn)]
      rfl
    rw [huslot]
    show ((s.slots.set n _).set n _) = _
    rw [List.set_set]
  have hsame : (s.exchanged n r g q s.free s.serialCounter).SameWork (u.setSlot n { u.slot n with claim := none }) :=
    ⟨rfl, rfl, rfl, rfl, rfl, hslots, rfl, fun _ => ⟨rfl, rfl⟩⟩
  have hall := hsame.trans (State.sameWork_storeChange _)
  rw [hu]
  exact ⟨hall.but hbut, by rw [State.geom, hall.layout]; rfl,
    p, by rw [State.gantry_of_gantries hall.gantries, State.exchanged_gantry]⟩
end

/-! ## A put -/

/-- A panel is put on the slot that is claimed for it. -/
theorem State.But.putPanel {s : State} {g : Gantry} {n : Nat} {j : Option TaskKind} (h : s.But g (some (n, .put)) j) {p : Panel}
    (hc : (s.gantry g).carried = some p) (hroom : s.hasRoomFor n p.kind = true) :
    let t := ((s.setGantry g { s.gantry g with carried := none }).lay n p).releaseClaim n
    t.But g none j ∧ t.gantry g = { s.gantry g with carried := none } := by
  intro t
  have hclaim := (h.owns.claims n .put).mpr rfl
  have hn := State.lt_of_claimed hclaim
  let q : GantryRecord := { s.gantry g with carried := none }
  let r : Slot := { s.slot n with stack := (s.slot n).stack ++ [p], claim := none }
  have hx : s.Exchanges n r g q s.free s.serialCounter none := by
    have hmove : (r.stack ++ q.panels).Perm ((s.slot n).stack ++ (s.gantry g).panels) := by
      rw [GantryRecord.panels, GantryRecord.panels, hc, List.append_assoc]
      rfl
    exact ⟨by rw [State.slot_setSlot, if_pos hn], (hmove.map _).append_left _, hmove.subperm, by simp,
      h.tidy.stocked.counter, State.limit_of_room hroom⟩
  have hbut := h.exchanged (c' := none) hx rfl (.inr ⟨h.claim_ne_other rfl, fun _ => by simp [r]⟩) (fun _ => by simp [r])
    (fun m q hm => by simpa using fun he : n = m => absurd he.symm hm) (by simp)
  let u : State := (s.setGantry g q).lay n p
  have huslot : u.slot n = { s.slot n with stack := (s.slot n).stack ++ [p] } := by
    show ((s.setGantry g q).setSlot n _).slot n = _
    rw [State.slot_setSlot, if_pos (by exact hn)]
    rfl
  have hslots : (u.setSlot n { u.slot n with claim := none }).slots = s.slots.set n r := by
    rw [huslot]
    show ((s.slots.set n _).set n _) = _
    rw [List.set_set]
  have hsame : (s.exchanged n r g q s.free s.serialCounter).SameWork (u.setSlot n { u.slot n with claim := none }) :=
    ⟨rfl, rfl, rfl, rfl, rfl, hslots, rfl, fun _ => ⟨rfl, rfl⟩⟩
  have hall := hsame.trans (State.sameWork_storeChange _)
  have ht : t = (u.setSlot n { u.slot n with claim := none }).storeChange :=
    State.releaseClaim_of_claimed (by rw [huslot]; exact hclaim)
  rw [ht]
  exact ⟨hall.but hbut, by rw [State.gantry_of_gantries hall.gantries, State.exchanged_gantry]⟩

/-! ## Off the head, and onto it from nowhere -/

/-- A gantry's head, its fault record and its BLANK record change with the free list and the serial counter; no slot does. -/
structure State.HeadExchanges (s : State) (g : Gantry) (q : GantryRecord) (f : FreeList) (k : Nat) (new : Option Panel) : Prop where
  pool : (f.order ++ q.blank.toList ++ q.panels.map Panel.record).Perm
    (s.free.order ++ (s.gantry g).blank.toList ++ (s.gantry g).panels.map Panel.record)
  live : q.panels.Subperm (new.toList ++ (s.gantry g).panels)
  fresh : ∀ p, new = some p → s.serialLive p.serial = false ∧ 1 ≤ p.serial ∧ p.serial ≤ maxSerial
  counter : 1 ≤ k ∧ k ≤ maxSerial

/-- The state after it. -/
def State.headExchanged (s : State) (g : Gantry) (q : GantryRecord) (f : FreeList) (k : Nat) : State :=
  { s with gantries := s.gantries.set g q, free := f, serialCounter := k }

section
variable {s : State} {g : Gantry} {q : GantryRecord} {f : FreeList} {k : Nat} {new : Option Panel}

theorem State.exchanged_slot_self : s.exchanged 0 (s.slot 0) g q f k = s.headExchanged g q f k := by
  rw [State.exchanged, State.slot_set_self, State.headExchanged]

theorem State.HeadExchanges.exchanges (h : s.HeadExchanges g q f k new) (hs : s.Stocked) :
    s.Exchanges 0 (s.slot 0) g q f k new := by
  refine ⟨by rw [State.setSlot, State.slot_set_self], List.perm_iff_count.mpr fun a => ?_, ?_, h.fresh, h.counter, hs.limits 0⟩
  · have := h.pool.count_eq a
    simp only [List.map_append, List.count_append] at this ⊢
    omega
  · refine ((List.subperm_append_left _).mpr h.live).trans (List.Perm.subperm ?_)
    rw [← List.append_assoc, ← List.append_assoc]
    exact List.perm_append_comm.append_right _

theorem State.Stocked.headExchanged (hs : s.Stocked) (h : s.HeadExchanges g q f k new) : (s.headExchanged g q f k).Stocked := by
  rw [← State.exchanged_slot_self]
  exact hs.exchanged (h.exchanges hs)

theorem State.But.setHead {c : Option (Nat × Purpose)} {j : Option TaskKind} (hb : s.But g c j)
    (hspan : q.reservation.getD ⟨0, 0⟩ = s.span g)
    (hpool : (f.order ++ q.blank.toList ++ q.panels.map Panel.record).Perm
      (s.free.order ++ (s.gantry g).blank.toList ++ (s.gantry g).panels.map Panel.record))
    (hlive : q.panels.Subperm (new.toList ++ (s.gantry g).panels))
    (hfresh : ∀ p, new = some p → s.serialLive p.serial = false ∧ 1 ≤ p.serial ∧ p.serial ≤ maxSerial)
    (hcounter : 1 ≤ k ∧ k ≤ maxSerial) : (s.headExchanged g q f k).But g c j := by
  have hx : s.HeadExchanges g q f k new := ⟨hpool, hlive, hfresh, hcounter⟩
  rw [← State.exchanged_slot_self]
  exact hb.exchanged (hx.exchanges hb.tidy.stocked) hspan (.inl rfl) (hb.owns.claims 0) (fun _ _ _ => Iff.rfl) (hb.owns.picked 0)
end

end Sys2Proof.Machine
end

section
/-! PROOFS. Returns, the ends of books and blocked steps leave everything in order (R159, R160, R163 to R168). -/

namespace Sys2Proof.Machine

/-! ## Tasks -/

theorem State.Room.of_no_destination {s : State} {g : Gantry} (h : (s.gantry g).task.bind Task.destination = none) : s.Room g :=
  fun n hn => by rw [h] at hn; cases hn

/-- A sound task has a destination in two phases alone. -/
theorem Task.Sound.no_destination {t : Task} {p : Option Panel} (h : t.Sound p) (h1 : t.phase ≠ .putting)
    (h2 : t.phase ≠ .outfeedPick) : t.destination = none := by
  by_contra hne
  rcases h.destination (Option.isSome_iff_ne_none.mpr hne) with hp | hp
  · exact h1 hp
  · exact h2 hp

theorem Task.Sound.no_blank {t : Task} {p : Option Panel} (h : t.Sound p) (h1 : t.phase ≠ .outfeedPick) : t.blank = none := by
  by_contra hne
  exact h1 (h.blank.mp (Option.isSome_iff_ne_none.mpr hne))

/-- Of the phases of a task with an empty head a remnant return has one. -/
theorem Phase.ne_outfeedPick_of_loaded {f : Phase} (h : f.loaded = true) : f ≠ .outfeedPick := by
  rintro rfl
  cases h

/-- The lift record of a gantry's task is changed, and with it what the gantry owns. -/
theorem State.But.updateTask {s : State} {g : Gantry} {c : Option (Nat × Purpose)} {t : Task} {f : Task → Task}
    (h : s.But g c (some t.kind)) (hr : (s.gantry g).Has t) (hkind : (f t).kind = t.kind) (hblank : (f t).blank = t.blank)
    (hclaim : (f t).claim = c) (hsound : (f t).Sound (s.gantry g).carried) (hroom : (s.updateTask g f).Room g) :
    (s.updateTask g f).Bearing g (f t) := by
  have htask : ((s.gantry g).task.map f) = some (f t) := by rw [hr.task]; rfl
  refine ⟨?_, ?_, hroom⟩
  · rw [hclaim, hkind]
    refine h.setGantry rfl ?_ rfl
    rw [GantryRecord.blank, GantryRecord.blank, htask, hr.task]
    exact hblank
  · rw [State.updateTask, State.setGantry_gantry_same]
    exact ⟨htask, hsound, hr.aside, hr.former, hr.hold, hr.fault⟩

@[simp] theorem State.updateTask_task (s : State) (g : Gantry) (f : Task → Task) :
    ((s.updateTask g f).gantry g).task = (s.gantry g).task.map f := by
  rw [State.updateTask, State.setGantry_gantry_same]

/-! ## Returns -/

/-- A gantry has a panel on its head to return, and no claim yet. -/
structure State.Returning (s : State) (g : Gantry) (t : Task) : Prop where
  but : s.But g none (some t.kind)
  record : (s.gantry g).Bears t
  loaded : t.phase.loaded = true
  kind : ∀ w tag, t.kind ≠ .book w tag

/-- The lift record of a STRANDED gantry (R165). -/
def Task.strand (t : Task) : Task := { t with phase := .stranded, destination := none, putFailures := 0 }

theorem State.Returning.strand {s : State} {g : Gantry} {t : Task} (h : s.Returning g t) : (s.strand g).Steady := by
  let q : GantryRecord :=
    { s.gantry g with state := .stranded, task := (s.gantry g).task.map Task.strand, current := none, dwellEnd := none }
  have htask : q.task = some t.strand := by
    show (s.gantry g).task.map Task.strand = _
    rw [h.record.task]; rfl
  have hblank : t.blank = none := h.record.sound.no_blank (Phase.ne_outfeedPick_of_loaded h.loaded)
  have hq : q.Sound := by
    refine ⟨fun u hu => ?_, fun hn => ?_, ?_, ?_⟩
    · rw [htask] at hu
      cases hu
      refine ⟨h.record.sound.head.trans h.loaded, h.kind, ?_, (fun hd => by cases hd), (fun hp => by cases hp)⟩
      simp [Task.strand, hblank]
    · rw [htask] at hn
      cases hn
    · simp [q, h.record.fault]
    · exact ⟨⟨rfl, h.record.aside, h.record.former, rfl⟩, h.record.hold, by rw [htask]; rfl⟩
  have hbut : (s.setGantry g q).But g none (some t.kind) :=
    h.but.setGantry rfl (by rw [GantryRecord.blank, htask, GantryRecord.blank, h.record.task]; rfl) rfl
  refine (State.sameWork_latch _ _ _).steady (State.But.steady (s := s.setGantry g q) hbut ?_ ?_ ?_ ?_)
  · rw [State.setGantry_gantry_same]; exact hq
  · rw [State.setGantry_gantry_same, GantryRecord.claim, htask]; rfl
  · rw [State.setGantry_gantry_same, GantryRecord.job, htask]; rfl
  · exact .of_no_destination (by rw [State.setGantry_gantry_same, htask]; rfl)

theorem State.releaseClaim_gantry (s : State) (n : Nat) (g : Gantry) : (s.releaseClaim n).gantry g = s.gantry g := by
  unfold State.releaseClaim
  split
  · rfl
  · exact State.gantry_of_gantries (State.sameWork_storeChange _).gantries g

theorem State.claim_gantry (s : State) (n : Nat) (k : Gantry) (p : Purpose) (g : Gantry) : (s.claim n k p).gantry g = s.gantry g := by
  unfold State.claim
  split <;> rfl

/-- Where the way is blocked the claim is given up and the gantry is STRANDED; otherwise the put is under way. -/
theorem State.Returning.putTo {s : State} {g : Gantry} {t : Task} (h : s.Returning g t) {n : Nat} {p : Panel}
    (hp : (s.gantry g).carried = some p) (hn : s.Takes n p.kind) : (s.putTo g n).Steady := by
  let f : Task → Task := fun t => { t with phase := .putting, destination := some n }
  have hclaim : (s.claim n g .put).But g (some (n, .put)) (some t.kind) :=
    h.but.claim hn.slot hn.unclaimed hn.clear (by simp)
  have hg : (s.claim n g .put).gantry g = s.gantry g := s.claim_gantry n g .put g
  have hblank : t.blank = none := h.record.sound.no_blank (Phase.ne_outfeedPick_of_loaded h.loaded)
  have hsound : (f t).Sound (s.gantry g).carried :=
    ⟨by rw [hp]; rfl, h.kind, by simp [f, hblank], fun _ => .inl rfl, (fun hp => by cases hp)⟩
  have hroom : (s.beginPut g n).Room g := by
    intro m hm
    have hcarried : ((s.beginPut g n).gantry g).carried = some p := by
      rw [State.beginPut, State.updateTask, State.setGantry_gantry_same]
      exact (congrArg GantryRecord.carried hg).trans hp
    have hmn : n = m := by
      rw [State.beginPut, State.updateTask_task, hg, h.record.task] at hm
      exact Option.some.inj hm
    refine ⟨fun q hq => ?_, fun w o hc => by rw [hcarried] at hc; cases hc⟩
    rw [hcarried] at hq
    cases hq
    subst hmn
    have hstack : ((s.beginPut g n).slot n).stack = (s.slot n).stack := by
      show ((s.claim n g .put).slot n).stack = _
      rw [State.claim_eq hn.unclaimed hn.clear]
      exact State.slot_stack_of_stacks (s.stacks_setSlot (r := { s.slot n with claim := some ⟨g, .put⟩ }) rfl) n
    have hkinds : (s.beginPut g n).kinds = s.kinds := by
      show (s.claim n g .put).kinds = _
      rw [State.claim_eq hn.unclaimed hn.clear]; rfl
    have hlayout : (s.beginPut g n).layout = s.layout := by
      show (s.claim n g .put).layout = _
      rw [State.claim_eq hn.unclaimed hn.clear]; rfl
    rw [State.hasRoomFor_congr hkinds hlayout hstack]
    exact hn.room
  have hbegin : (s.beginPut g n).Bearing g (f t) :=
    hclaim.updateTask (by rw [hg]; exact h.record.has) rfl rfl rfl (by rw [hg]; exact hsound) hroom
  have hprep := hbegin.prepare (step := s.putStep n) ⟨rfl, rfl, rfl⟩ (by simp [State.putStep])
  unfold State.putTo
  split
  · next u hu =>
    rw [hu] at hprep
    exact hprep
  · next u hu =>
    rw [hu] at hprep
    have hb : u.Bearing g (f t) := hprep
    refine State.Returning.strand (t := f t) ⟨hb.but.releaseClaim rfl, ?_, rfl, h.kind⟩
    rw [State.releaseClaim_gantry]
    exact hb.record

/-- A destination search, and what it leaves. -/
theorem State.Returning.seekPut {s : State} {g : Gantry} {t : Task} (h : s.Returning g t) : (s.seekPut g).Steady := by
  unfold State.seekPut
  split
  · next n hn =>
    obtain ⟨p, hp, htakes⟩ := State.putSearch_takes hn
    exact h.putTo hp htakes
  · exact h.strand

/-- A gantry has no task any more but for the panel on its head, if there is one; its book or offer has ended. -/
structure State.Freed (s : State) (g : Gantry) : Prop where
  but : s.But g none (some .panelReturn)
  fault : (s.gantry g).fault = none
  blank : (s.gantry g).blank = none

theorem State.But.becomeIdle {s : State} {g : Gantry} (h : s.But g none none) (hfault : (s.gantry g).fault = none)
    (hblank : (s.gantry g).blank = none) (hc : (s.gantry g).carried = none) : (s.becomeIdle g).Steady := by
  have hbut : (s.setGantry g (s.gantry g).idled).But g none none := h.setGantry rfl hblank.symm rfl
  have hsound : (s.gantry g).idled.Sound :=
    ⟨(fun _ ht => by cases ht), fun _ => hc, by simp [GantryRecord.idled, hfault], ⟨rfl, rfl, rfl, rfl⟩, rfl, rfl⟩
  refine (State.sameWork_duties (s.setGantry g (s.gantry g).idled) _).steady (hbut.steady ?_ ?_ ?_ ?_)
  · rw [State.setGantry_gantry_same]; exact hsound
  · rw [State.setGantry_gantry_same]; rfl
  · rw [State.setGantry_gantry_same]; rfl
  · exact .of_no_destination (by rw [State.setGantry_gantry_same]; rfl)

theorem State.Freed.becomeIdle {s : State} {g : Gantry} (h : s.Freed g) (hc : (s.gantry g).carried = none) :
    (s.becomeIdle g).Steady := (h.but.drop rfl).becomeIdle h.fault h.blank hc

theorem returnTask_sound (now : Time) (source : Option Nat) {c : Option Panel} (hc : c.isSome = true) :
    (returnTask now source).Sound c :=
  ⟨hc, by simp [returnTask], by simp [returnTask], (fun h => by cases h), (fun h => by cases h)⟩

theorem State.Freed.beginReturn {s : State} {g : Gantry} (h : s.Freed g) (hc : (s.gantry g).carried.isSome = true)
    (source : Option Nat) : (s.beginReturn g source).Steady := by
  let q : GantryRecord :=
    { s.gantry g with
      task := some (returnTask s.clock source)
      current := none
      setAside := none
      former := none
      dwellEnd := none
      hold := none }
  have hret : (s.setGantry g q).Returning g (returnTask s.clock source) := by
    refine ⟨h.but.setGantry rfl h.blank.symm rfl, ?_, rfl, by simp [returnTask]⟩
    rw [State.setGantry_gantry_same]
    exact ⟨rfl, returnTask_sound _ _ hc, rfl, rfl, rfl, h.fault⟩
  exact hret.seekPut

theorem State.Freed.afterBook {s : State} {g : Gantry} (h : s.Freed g) (source : Option Nat) : (s.afterBook g source).Steady := by
  unfold State.afterBook
  split
  · next hc => exact h.becomeIdle hc
  · next hc => exact h.beginReturn (by rw [hc]; rfl) source

/-! ## Ends of a book -/

theorem State.abortAssembling_gantry (s : State) (w : Saw) (tag : Word) (c : BookFault) (g : Gantry) :
    (s.abortAssembling w tag c).gantry g = s.gantry g := by
  unfold State.abortAssembling
  split <;> rfl

/-- A gantry ends its book aborted, its claim being released. -/
theorem State.But.endBook {s : State} {g : Gantry} {t : Task} {w : Saw} {tag : Word} (h : s.But g none (some t.kind))
    (ht : (s.gantry g).task = some t) (hfault : (s.gantry g).fault = none) (hk : t.kind = .book w tag) (hblank : t.blank = none)
    (cause : BookFault) : (s.endBook g cause).Steady := by
  have hg := s.abortAssembling_gantry w tag cause g
  have hfreed : (s.abortAssembling w tag cause).Freed g :=
    ⟨h.abortAssembling (congrArg some hk) cause, by rw [hg]; exact hfault, by
      rw [hg, GantryRecord.blank, ht]
      exact hblank⟩
  have hbook : s.bookTask g = some (w, tag) := State.bookTask_eq ht hk
  simp only [State.endBook, hbook]
  exact hfreed.afterBook _

/-- A sound book task has neither a destination nor a BLANK record. -/
theorem Task.Sound.of_book {t : Task} {p : Option Panel} (h : t.Sound p) {w : Saw} {tag : Word} (hk : t.kind = .book w tag) :
    t.destination = none ∧ t.blank = none := by
  have hkind := h.kind
  have hpick : t.phase ≠ .outfeedPick := fun hq => by
    rw [hq] at hkind
    obtain ⟨v, hv⟩ := hkind
    rw [hk] at hv
    cases hv
  refine ⟨h.no_destination (fun hq => ?_) hpick, h.no_blank hpick⟩
  rw [hq] at hkind
  exact hkind w tag hk

/-- It claims no slot but the one it picks from. -/
theorem Task.Sound.claim_of_book {t : Task} {p : Option Panel} (h : t.Sound p) {w : Saw} {tag : Word} (hk : t.kind = .book w tag)
    (hp : t.phase ≠ .picking) : t.claim = none := by
  rw [Task.claim, if_neg hp, (h.of_book hk).1]
  rfl

/-- The claim of a book's pick is released without a mark (R153, R160). -/
theorem State.But.releasePick {s : State} {g : Gantry} {t : Task} (h : s.But g t.claim (some t.kind))
    (ht : (s.gantry g).task = some t) {p : Option Panel} (hs : t.Sound p) {w : Saw} {tag : Word} (hk : t.kind = .book w tag) :
    (s.releasePick g).But g none (some t.kind) ∧ (s.releasePick g).gantry g = s.gantry g := by
  unfold State.releasePick
  rw [ht]
  dsimp only
  split
  · next n hp hs =>
    refine ⟨h.releaseClaim (n := n) (p := .pick) ?_, s.releaseClaim_gantry n g⟩
    exact (t.claim_pick n).mpr ⟨hp, hs⟩
  · next hno =>
    have hclaim : t.claim = none := by
      by_cases hp : t.phase = .picking
      · rw [Task.claim, if_pos hp]
        cases hs : t.source with
        | none => rfl
        | some n => exact absurd hs (hno n hp)
      · exact hs.claim_of_book hk hp
    exact ⟨hclaim ▸ h, rfl⟩

/-- A gantry's book ends aborted, a pick in preparation with it (R159, R160). -/
theorem State.But.endBookWithPick {s : State} {g : Gantry} {t : Task} (h : s.But g t.claim (some t.kind))
    (ht : (s.gantry g).task = some t) (hfault : (s.gantry g).fault = none) {p : Option Panel} (hs : t.Sound p) {w : Saw}
    {tag : Word} (hk : t.kind = .book w tag) (cause : BookFault) : ((s.releasePick g).endBook g cause).Steady := by
  obtain ⟨hb, hg⟩ := h.releasePick ht hs hk
  exact hb.endBook (by rw [hg]; exact ht) (by rw [hg]; exact hfault) hk (hs.of_book hk).2 cause

/-! ## Ends of a remnant return at the outfeed -/

theorem State.endOffer_gantry (s : State) (k : Gantry) (w : Saw) (o : OfferOutcome) (c : Option BookFault) (n : Nat)
    (name : Option SlotName) (g : Gantry) : (s.endOffer k w o c n name).gantry g = s.gantry g := by
  unfold State.endOffer
  split <;> rfl

/-- The BLANK record of a gantry's remnant return goes back to FREE. -/
theorem State.Bearing.freeBlank {s : State} {g : Gantry} {t : Task} (h : s.Bearing g t) (hp : t.phase = .outfeedPick) :
    (s.freeBlank g).But g t.claim (some t.kind) ∧
      (s.freeBlank g).gantry g = { s.gantry g with task := some { t with blank := none } } := by
  obtain ⟨r, hr⟩ := Option.isSome_iff_exists.mp (h.record.sound.blank.mpr hp)
  let q : GantryRecord := { s.gantry g with task := some { t with blank := none } }
  have hbut := h.but.setHead (q := q) (f := s.free.return r) (k := s.serialCounter) (new := none) rfl ?_ (List.Perm.subperm (.refl _))
    (by simp) h.but.tidy.stocked.counter
  · have he : s.freeBlank g = ({ s with gantries := s.gantries.set g q, free := s.free.return r } : State) := by
      have hbind : (s.gantry g).task.bind Task.blank = some r := by rw [h.record.task]; exact hr
      have hmap : (s.gantry g).task.map (fun t => { t with blank := none }) = some { t with blank := none } := by
        rw [h.record.task]; rfl
      simp only [State.freeBlank, hbind]
      rw [State.updateTask_eq]
      show ({ s with
        free := s.free.return r
        gantries := s.gantries.set g { s.gantry g with task := (s.gantry g).task.map fun t => { t with blank := none } } } :
          State) = _
      rw [hmap]
    rw [he]
    exact ⟨hbut, PerGantry.get_set_same _ _ _⟩
  · have hold : (s.gantry g).blank = some r := by rw [GantryRecord.blank, h.record.task]; exact hr
    rw [hold, FreeList.order_return]
    simp [q, GantryRecord.blank, GantryRecord.panels]

theorem State.Bearing.discardPickup {s : State} {g : Gantry} {t : Task} (h : s.Bearing g t) {w : Saw}
    (hk : t.kind = .remnantReturn w) (hp : t.phase = .outfeedPick) (cause : BookFault) : (s.discardPickup g w cause).Steady := by
  obtain ⟨hb, hg⟩ := h.freeBlank hp
  obtain ⟨n, hn⟩ := Option.isSome_iff_exists.mp (h.record.sound.outfeed hp)
  have hclaim : t.claim = some (n, .put) := (h.record.sound.claim_put n).mpr hn
  have hrel : (s.freeBlank g).releaseDestination g = (s.freeBlank g).releaseClaim n := by
    have : ((s.freeBlank g).gantry g).task.bind Task.destination = some n := by rw [hg]; exact hn
    simp only [State.releaseDestination, this]
  have hcarried : (s.gantry g).carried = none := by
    have := h.record.sound.head
    rw [hp] at this
    simpa [Phase.loaded] using this
  have hend := (hb.releaseClaim hclaim).endOffer (congrArg some hk) .discarded (some cause) 0 none
  unfold State.discardPickup
  rw [hrel]
  have hrecord : ((((s.freeBlank g).releaseClaim n).endOffer g w .discarded (some cause) 0 none).gantry g) =
      { s.gantry g with task := some { t with blank := none } } := by
    rw [State.endOffer_gantry, State.releaseClaim_gantry, hg]
  exact (show State.Freed _ g from ⟨hend, by rw [hrecord]; exact h.record.fault, by rw [hrecord]; rfl⟩).becomeIdle
    (by rw [hrecord]; exact hcarried)

/-! ## Blocked steps -/

theorem State.Bearing.releaseDestination {s : State} {g : Gantry} {t : Task} (h : s.Bearing g t) (hp : t.phase ≠ .picking) :
    (s.releaseDestination g).But g none (some t.kind) ∧ (s.releaseDestination g).gantry g = s.gantry g := by
  unfold State.releaseDestination
  rw [h.record.task]
  cases hd : t.destination with
  | none =>
    have hclaim : t.claim = none := by rw [Task.claim, if_neg hp, hd]; rfl
    simp only [Option.bind_some, hd]
    exact ⟨hclaim ▸ h.but, trivial⟩
  | some n =>
    simp only [Option.bind_some, hd]
    exact ⟨h.but.releaseClaim ((h.record.sound.claim_put n).mpr hd), s.releaseClaim_gantry n g⟩

/-- A sound task that is no book's and no outfeed pickup has its panel on the head. -/
theorem Task.Sound.loaded_of_not_book {t : Task} {p : Option Panel} (h : t.Sound p) (hk : ∀ w tag, t.kind ≠ .book w tag)
    (hp : t.phase ≠ .outfeedPick) : t.phase = .putting ∨ t.phase = .stranded := by
  have hkind := h.kind
  split at hkind
  all_goals first
    | (obtain ⟨w, tag, hb⟩ := hkind; exact absurd hb (hk w tag))
    | simp_all

theorem State.Bearing.blocked {s : State} {g : Gantry} {t : Task} (h : s.Bearing g t) : (s.blocked g).Steady := by
  have hreturn (hk : ∀ w tag, t.kind ≠ .book w tag) (hp : t.phase ≠ .outfeedPick) : ((s.releaseDestination g).seekPut g).Steady := by
    have hphase := h.record.sound.loaded_of_not_book hk hp
    obtain ⟨hb, hg⟩ := h.releaseDestination (by rcases hphase with hq | hq <;> rw [hq] <;> decide)
    refine State.Returning.seekPut (t := t) ⟨hb, by rw [hg]; exact h.record, ?_, hk⟩
    rcases hphase with hq | hq <;> rw [hq] <;> rfl
  unfold State.blocked
  rw [h.record.task]
  dsimp only
  split
  · next w tag hk => exact h.but.endBookWithPick h.record.task h.record.fault h.record.sound hk _
  · next w hk hp => exact h.discardPickup hk hp _
  · next hbook hoffer =>
    refine hreturn hbook fun hp => ?_
    obtain ⟨w, hw⟩ : ∃ w, t.kind = .remnantReturn w := by
      have := h.record.sound.kind
      rwa [hp] at this
    exact hoffer w hw hp

theorem State.Judged.settleRequest {g : Gantry} {t : Task} {r : State × Bool} (h : State.Judged g t r) :
    (State.settleRequest r g).Steady := by
  unfold State.Judged at h
  unfold State.settleRequest
  split at h
  · next hb => rw [if_pos hb]; exact h.blocked
  · next hb => rw [if_neg hb]; exact h

/-- A step of a gantry's task is handed to the Gantry Service Unit (R101). -/
theorem State.Bearing.handOver {s : State} {g : Gantry} {t : Task} (h : s.Bearing g t) {step : Step} (hc : t.Calls step)
    (hplace : step.kind = .place → step.target = s.pos g) : (s.handOver g step).Steady :=
  (h.prepare hc hplace).settleRequest

end Sys2Proof.Machine
end

section
/-! PROOFS. The lifts of a book keep everything in order (R153 to R158, R161). -/

namespace Sys2Proof.Machine

/-- The lift record of a book, changed in its phase and its source, agrees with a head as the new phase has it. -/
theorem Task.Sound.relift {t u : Task} {p q : Option Panel} (h : t.Sound p) {w : Saw} {tag : Word} (hk : t.kind = .book w tag)
    (hkind : u.kind = t.kind) (hblank : u.blank = t.blank) (hd : u.destination = t.destination) (hq : q.isSome = u.phase.loaded)
    (hphase : u.phase = .sourceWait ∨ u.phase = .picking ∨ u.phase = .hovering ∨ u.phase = .holding ∨ u.phase = .placing) :
    u.Sound q := by
  obtain ⟨hdn, hbn⟩ := h.of_book hk
  rw [hk] at hkind
  refine ⟨hq, ?_, ?_, fun hs => ?_, fun ho => ?_⟩
  · rcases hphase with hp | hp | hp | hp | hp <;> rw [hp] <;> exact ⟨w, tag, hkind⟩
  · rw [hblank, hbn]
    rcases hphase with hp | hp | hp | hp | hp <;> rw [hp] <;> decide
  · rw [hd, hdn] at hs
    cases hs
  · rcases hphase with hp | hp | hp | hp | hp <;> rw [hp] at ho <;> cases ho

/-- A change of a gantry's lift record that keeps the kind, the destination and the BLANK record leaves no destination to a book. -/
theorem State.Room.updateTask_of_book {s : State} {g : Gantry} {t : Task} {f : Task → Task} (ht : (s.gantry g).task = some t)
    (hd : (f t).destination = none) : (s.updateTask g f).Room g :=
  .of_no_destination (by rw [State.updateTask_task, ht]; exact hd)

/-! ## Changes of the book record -/

theorem State.But.updateBookAt {s : State} {g k : Gantry} {c : Option (Nat × Purpose)} {j : Option TaskKind} (h : s.But g c j)
    {f : Book → Book} (hf : ∀ b, (f b).tag = b.tag ∧ (f b).state = b.state ∧ (f b).gantry = b.gantry ∧ (f b).lift = b.lift ∧
      (f b).entries = b.entries) : (s.updateBookAt k f).But g c j := by
  unfold State.updateBookAt
  split
  · exact h.updateBook_of_keeps hf
  · exact h

theorem State.updateBookAt_gantry (s : State) (k : Gantry) (f : Book → Book) (g : Gantry) :
    (s.updateBookAt k f).gantry g = s.gantry g := by
  unfold State.updateBookAt
  split <;> rfl

/-! ## The search for a source -/

/-- A gantry assembles a book and holds neither a panel nor a claim: it is about to look for a source. -/
structure State.Lifting (s : State) (g : Gantry) (t : Task) (w : Saw) (tag : Word) : Prop where
  but : s.But g none (some t.kind)
  record : (s.gantry g).Bears t
  kind : t.kind = .book w tag
  empty : (s.gantry g).carried = none

theorem State.LocatorDiffers.sameWork {s t : State} (h : s.LocatorDiffers t) : s.SameWork t :=
  ⟨h.cell, h.kinds, h.layout, h.free, h.serialCounter, h.slots, h.gantries, fun w => by
    rw [State.saw, h.saws]
    exact ⟨rfl, rfl⟩⟩

section
variable {s : State} {g : Gantry} {t : Task} {w : Saw} {tag : Word} (h : s.Lifting g t w tag)
include h

/-- There is an entry whose lift is in progress. -/
theorem State.Lifting.entry : ∃ e, s.currentEntry g = some (w, e) := by
  obtain ⟨b, hb, hmem, -⟩ := h.but.book (congrArg some h.kind)
  obtain ⟨h1, h2⟩ := (h.but.tidy.shelves w).lifts b hmem
  have hlt : b.lift - 1 < b.entries.length := by omega
  exact ⟨_, State.currentEntry_eq (State.bookTask_eq h.record.task h.kind) hb (List.getElem?_eq_getElem hlt)⟩

theorem State.Lifting.same {u : State} (hu : s.SameWork u) : u.Lifting g t w tag := by
  have hg : u.gantry g = s.gantry g := State.gantry_of_gantries hu.gantries g
  exact ⟨hu.but h.but, by rw [hg]; exact h.record, h.kind, by rw [hg]; exact h.empty⟩

theorem State.Lifting.endBook (cause : BookFault) : (s.endBook g cause).Steady :=
  h.but.endBook h.record.task h.record.fault h.kind (h.record.sound.of_book h.kind).2 cause

theorem State.Lifting.openWait : (s.openWait g).Steady := by
  let q : GantryRecord :=
    { s.gantry g with
      state := .dwell
      current := none
      dwellEnd := none
      task := (s.gantry g).task.map fun t => { t with phase := .sourceWait } }
  have htask : q.task = some { t with phase := .sourceWait } := by
    show (s.gantry g).task.map _ = _
    rw [h.record.task]; rfl
  have hsound : ({ t with phase := .sourceWait } : Task).Sound q.carried :=
    h.record.sound.relift h.kind rfl rfl rfl (by rw [show q.carried = none from h.empty]; rfl) (.inl rfl)
  have hq : q.Sound := by
    refine ⟨fun u hu => ?_, fun hn => ?_, ?_, h.record.hold, .inl ⟨rfl, rfl, h.record.aside, h.record.former, rfl, ?_⟩⟩
    · rw [htask] at hu
      cases hu
      exact hsound
    · rw [htask] at hn
      cases hn
    · simp [q, h.record.fault]
    · rw [htask]; rfl
  have hbut : (s.setGantry g q).But g none (some t.kind) :=
    h.but.setGantry rfl (by rw [GantryRecord.blank, htask, GantryRecord.blank, h.record.task]; rfl) rfl
  refine State.But.steady (s := s.setGantry g q) hbut ?_ ?_ ?_ ?_
  · rw [State.setGantry_gantry_same]; exact hq
  · rw [State.setGantry_gantry_same, GantryRecord.claim, htask]
    exact hsound.claim_of_book h.kind (by simp)
  · rw [State.setGantry_gantry_same, GantryRecord.job, htask]; rfl
  · refine .of_no_destination ?_
    rw [State.setGantry_gantry_same, htask]
    exact (h.record.sound.of_book h.kind).1

/-- A source that has been found is claimed, and the pick is handed over. -/
theorem State.Lifting.pickFrom {n : Nat} (hn : s.Pickable n) : ((s.claim n g .pick).pickFrom g n).Steady := by
  let f : Task → Task := fun t => { t with phase := .picking, source := some n }
  have hg : (s.claim n g .pick).gantry g = s.gantry g := s.claim_gantry n g .pick g
  have hclaim : (s.claim n g .pick).But g (some (n, .pick)) (some t.kind) :=
    h.but.claim hn.slot hn.unclaimed hn.clear fun _ => hn.panel
  have hb : ((s.claim n g .pick).updateTask g f).Bearing g (f t) :=
    hclaim.updateTask (by rw [hg]; exact h.record.has) rfl rfl rfl
      (by
        rw [hg, h.empty]
        exact h.record.sound.relift h.kind rfl rfl rfl rfl (.inr (.inl rfl)))
      (.updateTask_of_book (by rw [hg]; exact h.record.task) (h.record.sound.of_book h.kind).1)
  exact hb.handOver ⟨rfl, rfl, rfl⟩ (by simp [State.pickStep])

/-- The source search of the entry in progress, and what each of its results leaves. -/
theorem State.Lifting.startLift : (s.startLift g).Steady := by
  obtain ⟨e, he⟩ := h.entry
  cases hr : (s.sourceSearch g w e).1 with
  | slot n =>
    obtain ⟨hpick, u, hu, hclaim⟩ := State.sourceSearch_slot hr
    rw [State.startLift_slot he hr, hclaim]
    have hpick' : u.Pickable n := by
      have hslot : u.slot n = s.slot n := State.slot_of_slots hu.slots n
      exact ⟨by rw [hu.slots]; exact hpick.slot, by rw [hslot]; exact hpick.unclaimed, by rw [hslot]; exact hpick.clear,
        by rw [hslot]; exact hpick.panel⟩
    exact (h.same hu.sameWork).pickFrom hpick'
  | wait =>
    rw [State.startLift_wait he hr]
    exact (h.same (State.sourceSearch_no_slot fun n => by rw [hr]; simp).sameWork).openWait
  | none =>
    rw [State.startLift_none he hr]
    exact (h.same (State.sourceSearch_no_slot fun n => by rw [hr]; simp).sameWork).endBook _
end

/-! ## The slot pick -/

section
variable {s : State} {g : Gantry} {t : Task} {w : Saw} {tag : Word} (h : s.Bearing g t) (hk : t.kind = .book w tag)
include h hk

omit hk in
theorem State.Bearing.empty_of_picking (hp : t.phase = .picking) : (s.gantry g).carried = none := by
  have := h.record.sound.head
  rw [hp] at this
  simpa [Phase.loaded] using this

theorem State.Bearing.pickOk {n : Nat} (hp : t.phase = .picking) (hn : t.source = some n) : (s.pickOk g w n).Steady := by
  have hclaim : t.claim = some (n, .pick) := (t.claim_pick n).mpr ⟨hp, hn⟩
  obtain ⟨hb, -, p, hg⟩ := (hclaim ▸ h.but).pickPanel (h.empty_of_picking hp)
  have hhas : ((s.pickPanel g n).gantry g).Has t := by
    rw [hg]
    exact ⟨h.record.task, h.record.aside, h.record.former, h.record.hold, h.record.fault⟩
  obtain ⟨hd, hblank⟩ := h.record.sound.of_book hk
  unfold State.pickOk
  split
  · exact hb.endBook hhas.task hhas.fault hk hblank _
  · let f : Task → Task := fun t => { t with phase := .hovering }
    have hsound : (f t).Sound ((s.pickPanel g n).gantry g).carried := by
      rw [hg]
      exact h.record.sound.relift hk rfl rfl rfl rfl (.inr (.inr (.inl rfl)))
    have hbear : ((s.pickPanel g n).updateTask g f).Bearing g (f t) :=
      hb.updateTask hhas rfl rfl (hsound.claim_of_book hk (by simp [f])) hsound (.updateTask_of_book hhas.task hd)
    exact hbear.handOver ⟨rfl, w, tag, hk, rfl⟩ (by simp [State.hoverStep])

theorem State.Bearing.pickMiss {n : Nat} (hp : t.phase = .picking) (hn : t.source = some n) : (s.pickMiss g n).Steady := by
  have hclaim : t.claim = some (n, .pick) := (t.claim_pick n).mpr ⟨hp, hn⟩
  have hmarkg : (s.markSuspect n).gantry g = s.gantry g := s.releaseClaim_gantry n g
  let u := (s.markSuspect n).updateBookAt g fun b => b.noteFault .pickMiss b.lift
  have hug : u.gantry g = s.gantry g := (State.updateBookAt_gantry _ _ _ g).trans hmarkg
  have hu : u.Lifting g t w tag :=
    ⟨(h.but.markSuspect hclaim).updateBookAt fun b => ⟨rfl, rfl, rfl, rfl, rfl⟩, by rw [hug]; exact h.record, hk, by
      rw [hug]; exact h.empty_of_picking hp⟩
  unfold State.pickMiss
  dsimp only
  split
  · exact hu.endBook _
  · split
    · exact hu.endBook _
    · have hvg := State.updateBookAt_gantry u g (fun b => { b with replan := true }) g
      exact State.Lifting.startLift (t := t) (w := w) (tag := tag) ⟨hu.but.updateBookAt fun b => ⟨rfl, rfl, rfl, rfl, rfl⟩, by
        rw [hvg]; exact hu.record, hk, by rw [hvg]; exact hu.empty⟩

/-! ## The table -/

theorem State.Bearing.beginPlace (hc : (s.gantry g).carried.isSome = true) (hp : t.phase ≠ .picking) :
    (s.beginPlace g w).Steady := by
  let f : Task → Task := fun t => { t with phase := .placing }
  have hsound : (f t).Sound (s.gantry g).carried :=
    h.record.sound.relift hk rfl rfl rfl hc (.inr (.inr (.inr (.inr rfl))))
  have hbear : (s.updateTask g f).Bearing g (f t) :=
    h.but.updateTask h.record.has rfl rfl
      ((hsound.claim_of_book hk (by simp [f])).trans (h.record.sound.claim_of_book hk hp).symm) hsound
      (.updateTask_of_book h.record.task (h.record.sound.of_book hk).1)
  have hpos : (s.updateTask g f).pos g = s.pos g := by
    rw [State.pos, State.updateTask, State.setGantry_gantry_same]; rfl
  exact hbear.handOver ⟨rfl, w, tag, hk, rfl⟩ fun _ => hpos.symm

/-- A gantry whose step has completed waits over the table. -/
theorem State.Bearing.holdOver (hc : (s.gantry g).carried.isSome = true) (hp : t.phase ≠ .picking)
    (hcur : (s.gantry g).current = none) (hdwell : (s.gantry g).dwellEnd = none) : (s.holdOver g w).Steady := by
  let q : GantryRecord :=
    { s.gantry g with
      state := .hoverHold
      hold := some ⟨w, ⟨s.clock, s.geom.hoverLimit⟩⟩
      task := (s.gantry g).task.map fun t => { t with phase := .holding } }
  have htask : q.task = some { t with phase := .holding } := by
    show (s.gantry g).task.map _ = _
    rw [h.record.task]; rfl
  have hsound : ({ t with phase := .holding } : Task).Sound q.carried :=
    h.record.sound.relift hk rfl rfl rfl hc (.inr (.inr (.inr (.inl rfl))))
  have hq : q.Sound := by
    refine ⟨fun u hu => ?_, fun hn => ?_, ?_, ⟨hcur, h.record.aside, h.record.former, hdwell⟩, _, _, tag, rfl, htask, rfl, hk⟩
    · rw [htask] at hu
      cases hu
      exact hsound
    · rw [htask] at hn
      cases hn
    · simp [q, h.record.fault]
  have hclaim := h.record.sound.claim_of_book hk hp
  have hbut : (s.setGantry g q).But g none (some t.kind) :=
    (hclaim ▸ h.but).setGantry rfl (by rw [GantryRecord.blank, htask, GantryRecord.blank, h.record.task]; rfl) rfl
  refine State.But.steady (s := s.setGantry g q) hbut ?_ ?_ ?_ ?_
  · rw [State.setGantry_gantry_same]; exact hq
  · rw [State.setGantry_gantry_same, GantryRecord.claim, htask]
    exact hsound.claim_of_book hk (by simp)
  · rw [State.setGantry_gantry_same, GantryRecord.job, htask]; rfl
  · refine .of_no_destination ?_
    rw [State.setGantry_gantry_same, htask]
    exact (h.record.sound.of_book hk).1

theorem State.Bearing.endHovering (hp : t.phase ≠ .picking) (cause : BookFault) : (s.endBook g cause).Steady :=
  ((h.record.sound.claim_of_book hk hp) ▸ h.but).endBook h.record.task h.record.fault hk (h.record.sound.of_book hk).2 cause

theorem State.Bearing.hoverDone (hc : (s.gantry g).carried.isSome = true) (hp : t.phase ≠ .picking)
    (hcur : (s.gantry g).current = none) (hdwell : (s.gantry g).dwellEnd = none) : (s.hoverDone g w).Steady := by
  unfold State.hoverDone
  split
  · exact h.endHovering hk hp _
  · split
    · exact h.beginPlace hk hc hp
    · exact h.holdOver hk hc hp hcur hdwell
end

end Sys2Proof.Machine
end

section
/-! PROOFS. Places, puts, pickups and yields that complete keep everything in order (R34, R35, R84, R86, R106, R158, R163 to R168). -/

namespace Sys2Proof.Machine

/-! ## The PLACE of a lift -/

section
variable {s : State} {g : Gantry} {t : Task} {w : Saw} {tag : Word} (h : s.Bearing g t) (hk : t.kind = .book w tag)
include h hk

/-- The placed panel leaves the cell (R35, R158). -/
theorem State.Bearing.placePanel (hp : t.phase ≠ .picking) {p : Panel} (hc : (s.gantry g).carried = some p) :
    (s.placePanel g w p).But g none (some t.kind) ∧
      (s.placePanel g w p).gantry g = { s.gantry g with carried := none } ∧
      (s.placePanel g w p).bookOf w tag = (s.bookOf w tag).map (Book.place p.serial) := by
  have hclaim := h.record.sound.claim_of_book hk hp
  have heq := State.placePanel_eq (State.bookTask_eq h.record.task hk) p
  let q : GantryRecord := { s.gantry g with carried := none }
  let u : State := { s with gantries := s.gantries.set g q, free := s.free.return p.record }
  have hu : u.But g none (some t.kind) := by
    refine (hclaim ▸ h.but).setHead (new := none) rfl ?_ ?_ (by simp) h.but.tidy.stocked.counter
    · rw [FreeList.order_return, GantryRecord.panels, GantryRecord.panels, hc]
      refine List.perm_iff_count.mpr fun a => ?_
      have : q.blank = (s.gantry g).blank := rfl
      simp only [this, List.map_append, List.count_append, Option.toList_some, List.map_cons, List.map_nil, q, Option.toList_none,
        List.count_nil]
      omega
    · rw [GantryRecord.panels, GantryRecord.panels]
      exact (List.sublist_append_right _ _).subperm
  have hbooks : (s.placed g w tag p).But g none (some t.kind) := by
    refine hu.setBooks (w := w) (r := { s.saw w with
        books := updateAssembling tag (Book.place p.serial) (s.saw w).books
        panelsPlaced := (s.saw w).panelsPlaced.step }) ?_ ?_ rfl
    · exact (h.but.tidy.shelves w).updateAssembling (fun _ => rfl) fun b hb _ _ => (h.but.tidy.shelves w).lifts b hb
    · exact assembles_updateAssembling (fun _ => rfl) (fun _ => rfl) fun _ => rfl
  rw [heq]
  refine ⟨hbooks, PerGantry.get_set_same _ _ _, ?_⟩
  have hsaw : ((s.placed g w tag p).saw w).books = updateAssembling tag (Book.place p.serial) (s.saw w).books :=
    congrArg SawRecord.books (PerSaw.get_set_same _ _ _)
  rw [State.bookOf, hsaw]
  exact find?_updateAssembling (Book.place_keepsPlace _) tag _
end

/-- The next lift of a book begins (R158, step 4). -/
theorem State.But.nextLift {s : State} {g : Gantry} {t : Task} {w : Saw} {tag : Word} {p : Option Panel} {b : Book}
    (h : s.But g none (some t.kind)) (hr : (s.gantry g).Has t) (hs : t.Sound p) (hk : t.kind = .book w tag)
    (hc : (s.gantry g).carried = none) (hb : s.bookOf w tag = some b) (hmore : b.lift < b.entries.length) :
    (s.nextLift g).Steady := by
  let f : Book → Book := fun b => { b with lift := b.lift + 1, replan := false }
  let m : Task → Task := fun t => { t with source := none, phase := .sourceWait }
  obtain ⟨hmem, htag, -⟩ := State.bookOf_spec hb
  have hup : s.updateBookAt g f = s.updateBook w tag f := State.updateBookAt_eq (State.bookTask_eq hr.task hk) f
  have hbut : (s.updateBook w tag f).But g none (some t.kind) := by
    refine h.updateBook (fun _ => rfl) (fun _ => rfl) (fun _ => rfl) fun x hx hxt _ => ?_
    rw [(h.tidy.shelves w).eq_of_tag hx hmem (hxt.trans htag.symm)]
    exact ⟨Nat.le_add_left 1 b.lift, hmore⟩
  have hsound : (m t).Sound (s.gantry g).carried := hs.relift hk rfl rfl rfl (by rw [hc]; rfl) (.inl rfl)
  have hbear : ((s.updateBook w tag f).updateTask g m).Bearing g (m t) :=
    hbut.updateTask hr rfl rfl (hsound.claim_of_book hk (by simp [m])) hsound
      (.updateTask_of_book hr.task (hs.of_book hk).1)
  have hlift : ((s.updateBook w tag f).updateTask g m).Lifting g (m t) w tag :=
    ⟨(hsound.claim_of_book hk (by simp [m])) ▸ hbear.but, hbear.record, hk, by
      rw [State.updateTask, State.setGantry_gantry_same]; exact hc⟩
  show (((s.updateBookAt g f).updateTask g m).startLift g).Steady
  rw [hup]
  exact hlift.startLift

/-- A book is released, and its gantry becomes IDLE (R158, step 5). -/
theorem State.But.finishBook {s : State} {g : Gantry} {t : Task} {w : Saw} {tag : Word} (h : s.But g none (some t.kind))
    (hr : (s.gantry g).Has t) (hk : t.kind = .book w tag) (hblank : t.blank = none) (hc : (s.gantry g).carried = none) :
    (s.finishBook g).Steady := by
  have hg : (s.releaseBook w tag).gantry g = s.gantry g := by
    unfold State.releaseBook
    split <;> rfl
  have htask : s.bookTask g = some (w, tag) := State.bookTask_eq hr.task hk
  simp only [State.finishBook, htask]
  exact State.Freed.becomeIdle ⟨h.releaseBook (congrArg some hk), by rw [hg]; exact hr.fault, by
    rw [hg, GantryRecord.blank, hr.task]
    exact hblank⟩ (by rw [hg]; exact hc)

section
variable {s : State} {g : Gantry} {t : Task} {w : Saw} {tag : Word} (h : s.Bearing g t) (hk : t.kind = .book w tag)
include h hk

theorem State.Bearing.placeOk (hp : t.phase ≠ .picking) (hc : (s.gantry g).carried.isSome = true) : (s.placeOk g w).Steady := by
  obtain ⟨p, hp'⟩ := Option.isSome_iff_exists.mp hc
  obtain ⟨hb, hg, hbook⟩ := h.placePanel hk hp hp'
  have hblank := (h.record.sound.of_book hk).2
  have hhas : ((s.placePanel g w p).gantry g).Has t := by
    rw [hg]
    exact ⟨h.record.task, h.record.aside, h.record.former, h.record.hold, h.record.fault⟩
  have hempty : ((s.placePanel g w p).gantry g).carried = none := by rw [hg]
  simp only [State.placeOk, hp']
  split
  · exact hb.endBook hhas.task hhas.fault hk hblank _
  · split
    · next hmore =>
      obtain ⟨b, hob, -⟩ := h.but.book (congrArg some hk)
      have hat : s.bookAt g = some b := (State.bookAt_eq (State.bookTask_eq h.record.task hk)).trans hob
      have hlt : b.lift < b.entries.length := by simpa [State.moreEntries, hat] using hmore
      rw [hob] at hbook
      exact hb.nextLift hhas h.record.sound hk hempty hbook hlt
    · exact hb.finishBook hhas hk hblank hempty

theorem State.Bearing.placeFail (hp : t.phase ≠ .picking) : (s.placeFail g).Steady := h.endHovering hk hp _
end

/-! ## Puts -/

/-- What a put that has laid its panel ends (R163, R168). -/
theorem State.But.putEnds {s : State} {g : Gantry} {t : Task} (h : s.But g none (some t.kind)) (ht : (s.gantry g).task = some t)
    (hk : ∀ w tag, t.kind ≠ .book w tag) (n serial : Nat) :
    (s.putEnds g n serial).But g none (some .panelReturn) ∧ (s.putEnds g n serial).gantry g = s.gantry g := by
  unfold State.putEnds
  rw [ht]
  cases hkind : t.kind with
  | book w tag => exact absurd hkind (hk w tag)
  | remnantReturn w =>
    simp only [Option.map_some, hkind]
    exact ⟨h.endOffer (congrArg some hkind) _ _ _ _, s.endOffer_gantry g w _ _ _ _ g⟩
  | panelReturn =>
    simp only [Option.map_some, hkind]
    rw [hkind] at h
    exact ⟨h, trivial⟩

section
variable {s : State} {g : Gantry} {t : Task} (h : s.Bearing g t) (hp : t.phase = .putting)
include h hp

theorem State.Bearing.not_book_of_putting : ∀ w tag, t.kind ≠ .book w tag := by
  have := h.record.sound.kind
  rwa [hp] at this

theorem State.Bearing.carried_of_putting : ∃ p, (s.gantry g).carried = some p := by
  have := h.record.sound.head
  rw [hp] at this
  exact Option.isSome_iff_exists.mp this

theorem State.Bearing.putOk {n : Nat} (hn : t.destination = some n) : (s.putOk g n).Steady := by
  have hkind := h.not_book_of_putting hp
  obtain ⟨p, hc⟩ := h.carried_of_putting hp
  have hclaim : t.claim = some (n, .put) := (h.record.sound.claim_put n).mpr hn
  have hroom : s.hasRoomFor n p.kind = true := (h.room n (by rw [h.record.task]; exact hn)).1 p hc
  obtain ⟨hb, hg⟩ := (hclaim ▸ h.but).putPanel hc hroom
  obtain ⟨he, hge⟩ := hb.putEnds (by rw [hg]; exact h.record.task) hkind n p.serial
  simp only [State.putOk, hc]
  refine State.Freed.becomeIdle ⟨he, ?_, ?_⟩ ?_
  · rw [hge, hg]; exact h.record.fault
  · rw [hge, hg, GantryRecord.blank, h.record.task]
    exact h.record.sound.no_blank (by rw [hp]; decide)
  · rw [hge, hg]

theorem State.Bearing.putFail {n : Nat} (hn : t.destination = some n) : (s.putFail g n).Steady := by
  have hkind := h.not_book_of_putting hp
  have hclaim : t.claim = some (n, .put) := (h.record.sound.claim_put n).mpr hn
  have hmark := h.but.markSuspect hclaim
  have hg : (s.markSuspect n).gantry g = s.gantry g := s.releaseClaim_gantry n g
  unfold State.putFail
  split
  · let f : Task → Task := fun t => { t with putFailures := 1, destination := none }
    have hsound : (f t).Sound (s.gantry g).carried :=
      ⟨h.record.sound.head, h.record.sound.kind, h.record.sound.blank, (fun hd => by cases hd), fun ho => by
        rw [show (f t).phase = t.phase from rfl, hp] at ho
        cases ho⟩
    have hbear : ((s.markSuspect n).updateTask g f).Bearing g (f t) := by
      refine hmark.updateTask (by rw [hg]; exact h.record.has) rfl rfl ?_ (by rw [hg]; exact hsound)
        (.of_no_destination (by rw [State.updateTask_task, hg, h.record.task]; rfl))
      rw [Task.claim, if_neg (by simp [f, hp])]
      rfl
    refine State.Returning.seekPut (t := f t) ⟨?_, hbear.record, by simp [f, hp, Phase.loaded], hkind⟩
    have hnone : (f t).claim = none := by
      rw [Task.claim, if_neg (by simp [f, hp])]
      rfl
    exact hnone ▸ hbear.but
  · exact State.Returning.strand (t := t) ⟨hmark, by rw [hg]; exact h.record, by rw [hp]; rfl, hkind⟩
end

/-! ## The outfeed pickup -/

theorem State.SameWork.bearing {s u : State} (hu : s.SameWork u) {g : Gantry} {t : Task} (h : s.Bearing g t) : u.Bearing g t := by
  have hg : u.gantry g = s.gantry g := State.gantry_of_gantries hu.gantries g
  refine ⟨hu.but h.but, by rw [hg]; exact h.record, h.room.of_same (by rw [hg]) (by rw [hg]) hu.kinds hu.layout
    (fun n => by rw [State.slot_of_slots hu.slots]) fun w _ => ?_⟩
  rw [State.offerOf_eq, State.offerOf_eq, (hu.saws w).2]

/-- The pool is never fuller than it is large. -/
theorem State.Stocked.live_le {s : State} (h : s.Stocked) : s.livePanels.length ≤ poolSize := by
  have := h.pool.length_eq
  simp only [List.length_append, List.length_map, List.length_range] at this
  omega

/-- The serial that is given is new, and one of the serials there are (R22). -/
theorem State.Stocked.serialToGive {s : State} (h : s.Stocked) :
    s.serialLive s.serialToGive = false ∧ 1 ≤ s.serialToGive ∧ s.serialToGive ≤ maxSerial := by
  obtain ⟨-, -, hnew, -⟩ := State.serialToGive_spec h.counter h.live_le
  exact ⟨hnew, State.serialToGive_isSerial h.counter⟩

theorem State.Bearing.pickupOk {s : State} {g : Gantry} {t : Task} (h : s.Bearing g t) {w : Saw}
    (hk : t.kind = .remnantReturn w) (hp : t.phase = .outfeedPick) : (s.pickupOk g w).Steady := by
  obtain ⟨o, ho⟩ := h.but.offer (congrArg some hk)
  obtain ⟨r, hr⟩ := Option.isSome_iff_exists.mp (h.record.sound.blank.mpr hp)
  obtain ⟨n, hn⟩ := Option.isSome_iff_exists.mp (h.record.sound.outfeed hp)
  have hempty : (s.gantry g).carried = none := by
    have := h.record.sound.head
    rw [hp] at this
    simpa [Phase.loaded] using this
  let p := s.offcut r o
  let f : Task → Task := fun t => { t with blank := none, phase := .putting }
  let q : GantryRecord := { s.gantry g with
    carried := some p
    lastMaterial := some (s.material p.kind)
    task := (s.gantry g).task.map f }
  have htask : q.task = some (f t) := by
    show (s.gantry g).task.map f = _
    rw [h.record.task]; rfl
  let u : State := { s with gantries := s.gantries.set g q, free := s.free, serialCounter := nextSerial s.serialToGive }
  have hold : (s.gantry g).blank = some r := by rw [GantryRecord.blank, h.record.task]; exact hr
  have hnew : q.blank = none := by rw [GantryRecord.blank, htask]; rfl
  have hpanels : q.panels = p :: (s.gantry g).panels := by
    rw [GantryRecord.panels, GantryRecord.panels, hempty]; rfl
  have hu : u.But g t.claim (some t.kind) := by
    refine h.but.setHead (new := some p) rfl ?_ (by rw [hpanels]; exact List.Subperm.refl _) (fun x hx => ?_)
      (nextSerial_isSerial h.but.tidy.stocked.serialToGive.2)
    · rw [hnew, hold, hpanels]
      simp [p, State.offcut]
    · cases hx
      exact h.but.tidy.stocked.serialToGive
  have hsound : (f t).Sound q.carried := by
    have hkind : ∀ w tag, t.kind ≠ .book w tag := by simp [hk]
    exact ⟨rfl, hkind, by simp [f], fun _ => .inl rfl, fun ho => by cases ho⟩
  have hbear : u.Bearing g (f t) := by
    have hg : u.gantry g = q := PerGantry.get_set_same _ _ _
    refine ⟨?_, by rw [hg]; exact ⟨htask, hsound, h.record.aside, h.record.former, h.record.hold, h.record.fault⟩, ?_⟩
    · have hclaim : (f t).claim = t.claim := by
        rw [Task.claim, Task.claim, if_neg (by simp [f]), if_neg (by rw [hp]; decide)]
      rw [hclaim]
      exact hu
    · intro m hm
      rw [hg] at hm ⊢
      have hmn : t.destination = some m := by rwa [htask] at hm
      refine ⟨fun x hx => ?_, fun _ _ hx => by cases hx⟩
      cases hx
      exact (h.room m (by rw [h.record.task]; exact hmn)).2 w o hempty (h.record.job.trans (congrArg some hk)) ho
  have hsame : u.SameWork ((s.giveSerial.takeOnHead g p).updateTask g f) := by
    refine ⟨rfl, rfl, rfl, rfl, rfl, rfl, ?_, fun _ => ⟨rfl, rfl⟩⟩
    rw [State.updateTask_eq, State.takeOnHead, State.setGantry_gantry_same]
    exact PerGantry.set_set _ _ _ _
  have hbind1 : (s.gantry g).task.bind Task.blank = some r := by rw [h.record.task]; exact hr
  have hbind2 : (s.gantry g).task.bind Task.destination = some n := by rw [h.record.task]; exact hn
  simp only [State.pickupOk, ho, hbind1, hbind2]
  exact (hsame.bearing hbear).handOver ⟨rfl, rfl, hn.symm⟩ (by simp [State.putStep])

/-! ## Yields -/

/-- A STRANDED gantry searches again (R165). -/
theorem State.Steady.seekAgain {s : State} (h : s.Steady) {g : Gantry} (hs : (s.gantry g).state = .stranded) :
    (s.seekAgain g).Steady := by
  have hw := (h.gantry g).record.work
  rw [hs] at hw
  obtain ⟨⟨-, haside, hformer, -⟩, hhold, hphase⟩ := hw
  obtain ⟨t, ht, hp⟩ := Option.map_eq_some_iff.mp hphase
  have hsound := (h.gantry g).record.task t ht
  have hbears : (s.gantry g).Bears t :=
    ⟨ht, hsound, haside, hformer, hhold, by simpa [hs] using (h.gantry g).record.fault⟩
  have hkind : ∀ w tag, t.kind ≠ .book w tag := by
    have := hsound.kind
    rwa [hp] at this
  have hclaim : t.claim = none := by
    rw [Task.claim, if_neg (by rw [hp]; decide), hsound.no_destination (by rw [hp]; decide) (by rw [hp]; decide)]
    rfl
  have hret : s.Returning g t :=
    ⟨hclaim ▸ (h.bearing hbears).but, hbears, by rw [hp]; rfl, hkind⟩
  unfold State.seekAgain
  split
  · next n hn =>
    obtain ⟨p, hc, htakes⟩ := State.putSearch_takes hn
    exact hret.putTo hc htakes
  · exact h

/-- A gantry's yield has ended; nothing of it is left but why it yielded. -/
theorem State.But.yieldDone {s : State} {g : Gantry} (h : s.But g (s.gantry g).claim (s.gantry g).job) (hroom : s.Room g)
    (hm : (s.gantry g).MayYield) (hcur : (s.gantry g).current = none) (hdwell : (s.gantry g).dwellEnd = none) :
    (s.yieldDone g).Steady := by
  have hcause := hm.cause
  unfold GantryRecord.YieldCause at hcause
  have hidle (ht : (s.gantry g).task = none) : (s.becomeIdle g).Steady := by
    rw [GantryRecord.claim, GantryRecord.job, ht] at h
    exact h.becomeIdle hm.fault (by rw [GantryRecord.blank, ht]; rfl) (hm.empty ht)
  unfold State.yieldDone
  split
  · next hf =>
    rw [hf] at hcause
    split at hcause
    · exact hidle hcause
    all_goals simp_all
  · next hf =>
    rw [hf] at hcause
    have hrest : (s.gantry g).setAside = none ∧ (s.gantry g).task.map Task.phase = some .stranded := by
      split at hcause <;> simp_all
    obtain ⟨haside, hphase⟩ := hrest
    let q : GantryRecord := { s.gantry g with state := .stranded, former := none }
    have hq : q.Sound :=
      ⟨hm.task, hm.empty, by simp [q, hm.fault], ⟨hcur, haside, rfl, hdwell⟩, hm.hold, hphase⟩
    have hsteady : (s.setGantry g q).Steady :=
      (h.setGantry (r := q) rfl rfl rfl).steady (by rw [State.setGantry_gantry_same]; exact hq)
        (by rw [State.setGantry_gantry_same]; rfl) (by rw [State.setGantry_gantry_same]; rfl) (hroom.setGantry rfl rfl)
    exact hsteady.seekAgain (by rw [State.setGantry_gantry_same])
  · next a hf ha =>
    rw [hf, ha] at hcause
    obtain ⟨-, -, hplace, t, ht, hcalls⟩ := hcause
    let q : GantryRecord := { s.gantry g with setAside := none }
    have hclaim : (s.gantry g).claim = t.claim := by rw [GantryRecord.claim, ht]; rfl
    have hjob : (s.gantry g).job = some t.kind := by rw [GantryRecord.job, ht]; rfl
    have hb : (s.setGantry g q).Bearing g t := by
      refine ⟨?_, ?_, hroom.setGantry rfl rfl⟩
      · rw [← hclaim, ← hjob]
        exact h.setGantry rfl rfl rfl
      · rw [State.setGantry_gantry_same]
        exact ⟨ht, hm.task t ht, rfl, hf, hm.hold, hm.fault⟩
    exact hb.handOver hcalls fun hk => absurd hk hplace
  · next hf ha =>
    rw [hf, ha] at hcause
    cases ht : (s.gantry g).task with
    | none =>
      have hc := hm.empty ht
      unfold State.afterBook
      rw [hc]
      exact hidle ht
    | some t =>
      obtain ⟨hkind, hphase, hd⟩ := hcause t ht
      have hclaim : (s.gantry g).claim = none := by
        rw [GantryRecord.claim, ht, Option.bind_some, Task.claim, if_neg (by rw [hphase]; decide), hd]
        rfl
      have hjob : (s.gantry g).job = some .panelReturn := by rw [GantryRecord.job, ht, Option.map_some, hkind]
      rw [hclaim, hjob] at h
      refine State.Freed.afterBook ⟨h, hm.fault, ?_⟩ _
      rw [GantryRecord.blank, ht]
      exact (hm.task t ht).no_blank (by rw [hphase]; decide)

end Sys2Proof.Machine
end

section
/-! PROOFS. The completion of a step and the abort of a book keep everything in order (R105 to R107, R160, R162). -/

namespace Sys2Proof.Machine

/-- A gantry's record is replaced by a sound one with the same task, panels and span. -/
theorem State.Steady.setRecord {s : State} (h : s.Steady) {g : Gantry} {r : GantryRecord} (hr : r.Sound)
    (htask : r.task = (s.gantry g).task) (hcarried : r.carried = (s.gantry g).carried)
    (hpanels : r.panels = (s.gantry g).panels) (hspan : r.reservation.getD ⟨0, 0⟩ = s.span g) : (s.setGantry g r).Steady := by
  refine ((h.but g).setGantry (r := r) hpanels ?_ hspan).steady ?_ ?_ ?_ ((h.gantry g).room.setGantry htask hcarried)
  · rw [GantryRecord.blank, GantryRecord.blank, htask]
  · rw [State.setGantry_gantry_same]; exact hr
  · rw [State.setGantry_gantry_same, GantryRecord.claim, GantryRecord.claim, htask]
  · rw [State.setGantry_gantry_same, GantryRecord.job, GantryRecord.job, htask]

/-! ## Completion -/

/-- The outcome of a step of a gantry's task is taken (R106, R107). -/
theorem State.Bearing.stepCompleted {s : State} {g : Gantry} {t : Task} (h : s.Bearing g t) {c : Step} (hc : t.Calls c)
    (hcur : (s.gantry g).current = none) (hdwell : (s.gantry g).dwellEnd = none) (ok : Bool) : (s.stepCompleted g c ok).Steady := by
  have hkind := h.record.sound.kind
  have hhead := h.record.sound.head
  unfold Task.Calls at hc
  cases hp : t.phase with
  | sourceWait | holding | stranded => rw [hp] at hc; exact hc.elim
  | picking =>
    rw [hp] at hc hkind
    obtain ⟨hck, hslot, hsource⟩ := hc
    obtain ⟨w, tag, hk⟩ := hkind
    obtain ⟨n, hn⟩ := Option.isSome_iff_exists.mp hslot
    have hbook : ((s.bookTask g).map Prod.fst).getD .saw1 = w := by rw [State.bookTask_eq h.record.task hk]; rfl
    cases ok with
    | true =>
      simp only [State.stepCompleted, hck, hn, hbook]
      exact h.pickOk hk hp (hsource.symm.trans hn)
    | false =>
      simp only [State.stepCompleted, hck, hn]
      exact h.pickMiss hk hp (hsource.symm.trans hn)
  | outfeedPick =>
    rw [hp] at hc
    obtain ⟨hck, hslot, w, hk, hsaw⟩ := hc
    cases ok with
    | true =>
      simp only [State.stepCompleted, hck, hslot, hsaw]
      exact h.pickupOk hk hp
    | false =>
      simp only [State.stepCompleted, hck, hslot, hsaw]
      exact h.discardPickup hk hp _
  | hovering =>
    rw [hp] at hc hhead
    obtain ⟨hck, w, tag, hk, hsaw⟩ := hc
    simp only [State.stepCompleted, hck, hsaw]
    exact h.hoverDone hk hhead (by rw [hp]; decide) hcur hdwell
  | placing =>
    rw [hp] at hc hhead
    obtain ⟨hck, w, tag, hk, hsaw⟩ := hc
    cases ok with
    | true =>
      simp only [State.stepCompleted, hck, hsaw]
      exact h.placeOk hk (by rw [hp]; decide) hhead
    | false =>
      simp only [State.stepCompleted, hck, hsaw]
      exact h.placeFail hk (by rw [hp]; decide)
  | putting =>
    rw [hp] at hc
    obtain ⟨hck, hslot, hdest⟩ := hc
    obtain ⟨n, hn⟩ := Option.isSome_iff_exists.mp hslot
    cases ok with
    | true =>
      simp only [State.stepCompleted, hck, hn]
      exact h.putOk hp (hdest.symm.trans hn)
    | false =>
      simp only [State.stepCompleted, hck, hn]
      exact h.putFail hp (hdest.symm.trans hn)

/-- A gantry with a step under way makes a step of its task, or yields. -/
theorem GantryRecord.Sound.stepping {r : GantryRecord} (h : r.Sound) (hs : r.state = .stepping) {c : Step} (hc : r.current = some c) :
    r.dwellEnd = none ∧ ((∃ t, r.Bears t ∧ t.Calls c) ∨ (r.MayYield ∧ c.kind = .travelOnly)) := by
  have hw := h.work
  rw [hs] at hw
  have hfault : r.fault = none := by simpa [hs] using h.fault
  have hdwell (hp : r.Prepares c) : r.dwellEnd = none := by
    unfold GantryRecord.Prepares at hp
    rw [hs] at hp
    exact hp.1
  obtain ⟨hhold, hopen | ⟨d, t, hd, ht, hcalls, hp, ha, hf, -⟩ | ⟨d, hd, hk, hp, -, hcause⟩⟩ := hw
  · rw [hopen.2.1] at hc
    cases hc
  · rw [hc] at hd
    cases hd
    exact ⟨hdwell hp, .inl ⟨t, ⟨ht, h.task t ht, ha, hf, hhold, hfault⟩, hcalls⟩⟩
  · rw [hc] at hd
    cases hd
    exact ⟨hdwell hp, .inr ⟨⟨h.task, h.empty, hhold, hfault, hcause⟩, hk⟩⟩

/-- A span cut out of a gantry's own lies apart from the other's as that does (R75, R78). -/
theorem Span.cut_apart {s : State} {g : Gantry} (h : (s.span .west).hi < (s.span .east).lo) (v : Span) {r : GantryRecord}
    (hr : r.reservation = some (v.cut (s.span g))) : ((s.setGantry g r).span .west).hi < ((s.setGantry g r).span .east).lo := by
  rw [State.setGantry_span, State.setGantry_span, hr]
  cases g with
  | west => exact Nat.lt_of_le_of_lt (Nat.min_le_right _ _) h
  | east => exact Nat.lt_of_lt_of_le h (Nat.le_max_right _ _)

/-- A step is taken as completed within its granted span (R106). -/
theorem State.Steady.completeStep {s : State} (h : s.Steady) {g : Gantry} {c : Step} {v : Span}
    (hs : (s.gantry g).state = .stepping) (hc : (s.gantry g).current = some c) (hv : s.span g = v) (x : Nat) (o : StepOutcome) :
    (s.completeStep g c v x o).Steady := by
  subst hv
  let q := s.completedRecord g c (s.span g) x
  obtain ⟨hdwell, hwork⟩ := (h.gantry g).record.stepping hs hc
  have hbut : (s.setGantry g q).But g (s.gantry g).claim (s.gantry g).job :=
    (h.but g).replace rfl rfl fun hw => Span.cut_apart (h.tidy.apart hw) _ rfl
  have hroom : (s.setGantry g q).Room g := (h.gantry g).room.setGantry rfl rfl
  have hg : (s.setGantry g q).gantry g = q := State.setGantry_gantry_same _ _ _
  rcases hwork with ⟨t, hb, hcalls⟩ | ⟨hm, hk⟩
  · refine State.Bearing.stepCompleted (s := s.setGantry g q) (t := t) ⟨?_, ?_, hroom⟩ hcalls (by rw [hg]; rfl)
      (by rw [hg]; exact hdwell) _
    · rw [← hb.claim, ← hb.job]
      exact hbut
    · rw [hg]
      exact ⟨hb.task, hb.sound, hb.aside, hb.former, hb.hold, hb.fault⟩
  · have hy : (s.setGantry g q).stepCompleted g c (decide (o = .ok)) = (s.setGantry g q).yieldDone g := by
      simp only [State.stepCompleted, hk]
    show ((s.setGantry g q).stepCompleted g c (decide (o = .ok))).Steady
    rw [hy]
    refine State.But.yieldDone (s := s.setGantry g q) ?_ hroom ?_ (by rw [hg]; rfl) (by rw [hg]; exact hdwell)
    · rw [hg]; exact hbut
    · rw [hg]; exact ⟨hm.task, hm.empty, hm.hold, hm.fault, hm.cause⟩

theorem State.Steady.noteOutcome {s : State} (h : s.Steady) (g : Gantry) (o : StepOutcome) : (s.noteOutcome g o).Steady := by
  have hr := (h.gantry g).record
  exact h.setRecord ⟨hr.task, hr.empty, hr.fault, hr.work⟩ rfl rfl rfl rfl

/-! ## Aborts -/

/-- A gantry with a step set aside yields, and the step is its task's. -/
theorem GantryRecord.Sound.yields_of_aside {r : GantryRecord} (h : r.Sound) {a : Step} (ha : r.setAside = some a) :
    ∃ c t, r.current = some c ∧ c.kind = .travelOnly ∧ r.Prepares c ∧ r.state ≠ .waitGrant ∧ r.former = none ∧ r.hold = none ∧
      r.task = some t ∧ (r.state = .dwell ∨ r.state = .stepping) := by
  have hrest : ¬ r.AtRest := fun hr => by rw [hr.2.1] at ha; cases ha
  have key (hw : r.hold = none ∧ (r.OpenWait ∨ r.OwnStep ∨ r.Yields)) :
      ∃ c t, r.current = some c ∧ c.kind = .travelOnly ∧ r.Prepares c ∧ r.state ≠ .waitGrant ∧ r.former = none ∧ r.hold = none ∧
        r.task = some t := by
    obtain ⟨hhold, ⟨-, -, hn, -⟩ | ⟨_, _, -, -, -, -, hn, -⟩ | ⟨c, hc, hk, hp, hg, hcause⟩⟩ := hw
    · rw [hn] at ha; cases ha
    · rw [hn] at ha; cases ha
    · rw [ha] at hcause
      cases hf : r.former with
      | some f => rw [hf] at hcause; cases f <;> exact hcause.elim
      | none =>
        rw [hf] at hcause
        obtain ⟨-, -, -, t, ht, -⟩ := hcause
        exact ⟨c, t, hc, hk, hp, hg, rfl, hhold, ht⟩
  have hw := h.work
  split at hw
  all_goals first
    | exact absurd hw.1 hrest
    | skip
  all_goals
    next hs =>
    obtain ⟨c, t, h1, h2, h3, h4, h5, h6, h7⟩ := key hw
    refine ⟨c, t, h1, h2, h3, h4, h5, h6, h7, ?_⟩
    first
      | exact .inl hs
      | exact .inr hs
      | exact absurd hs h4

/-- A book's abort is taken while its gantry yields: the panel on the head, if there is one, is to be returned after the yield. -/
theorem State.Steady.abortDuringYield {s : State} (h : s.Steady) {g : Gantry} {t : Task} {w : Saw} {tag : Word}
    (ht : (s.gantry g).task = some t) (hk : t.kind = .book w tag) (ha : (s.gantry g).setAside.isSome = true) :
    (s.abortDuringYield g w tag).Steady := by
  obtain ⟨a, ha'⟩ := Option.isSome_iff_exists.mp ha
  have hr := (h.gantry g).record
  obtain ⟨c, -, hc, hck, hprep, hgrant, hformer, hhold, -, hstate⟩ := hr.yields_of_aside ha'
  have hfault : (s.gantry g).fault = none := by
    have := hr.fault
    rcases hstate with hs | hs <;> simpa [hs] using this
  have hown : s.But g t.claim (some t.kind) := by
    have := h.but g
    rwa [GantryRecord.claim, GantryRecord.job, ht] at this
  obtain ⟨hb, hg⟩ := hown.releasePick ht (hr.task t ht) hk
  let u := (s.releasePick g).abortAssembling w tag .sawAbort
  have hu : u.But g none (some .panelReturn) := hb.abortAssembling (congrArg some hk) .sawAbort
  have hug : u.gantry g = s.gantry g := (State.abortAssembling_gantry _ w tag .sawAbort g).trans hg
  let task := (u.gantry g).carried.map fun _ => returnTask u.clock ((u.gantry g).task.bind Task.source)
  let q : GantryRecord := { u.gantry g with setAside := none, task := task }
  have hblank : q.blank = none := by
    show task.bind Task.blank = none
    simp only [task]
    cases (u.gantry g).carried <;> rfl
  have htask (x : Task) (hx : q.task = some x) : ∃ p n, q.carried = some p ∧ x = returnTask u.clock n := by
    obtain ⟨p, hp, hpx⟩ := Option.map_eq_some_iff.mp hx
    exact ⟨p, _, hp, hpx.symm⟩
  have hq : q.Sound := by
    refine ⟨fun x hx => ?_, fun hn => ?_, ?_, ?_⟩
    · obtain ⟨p, n, hp, rfl⟩ := htask x hx
      exact returnTask_sound _ _ (by rw [hp]; rfl)
    · simpa [q, task] using hn
    · show (u.gantry g).fault.isSome ↔ (u.gantry g).state = .faulted
      rw [hug]
      exact hr.fault
    · have hdo : q.hold = none ∧ (q.OpenWait ∨ q.OwnStep ∨ q.Yields) := by
        refine ⟨by show (u.gantry g).hold = none; rw [hug]; exact hhold, .inr (.inr ⟨c, ?_, hck, ?_, ?_, ?_⟩)⟩
        · show (u.gantry g).current = _; rw [hug]; exact hc
        · show (u.gantry g).Prepares c; rw [hug]; exact hprep
        · show (u.gantry g).state ≠ _; rw [hug]; exact hgrant
        · have hf : q.former = none := by show (u.gantry g).former = none; rw [hug]; exact hformer
          rw [hf]
          intro x hx
          obtain ⟨p, n, -, rfl⟩ := htask x hx
          exact ⟨rfl, rfl, rfl⟩
      have hqs : q.state = (s.gantry g).state := by show (u.gantry g).state = _; rw [hug]
      rcases hstate with hs | hs <;> rw [hqs, hs] <;> exact hdo
  have hold : (u.gantry g).blank = none := by
    rw [hug, GantryRecord.blank, ht]
    exact ((hr.task t ht).of_book hk).2
  have hset : (u.setGantry g q).But g none (some .panelReturn) := hu.setGantry rfl (hblank.trans hold.symm) rfl
  have hsame : ((u.setGantry g q).gantry g) = q := State.setGantry_gantry_same _ _ _
  have hclaim : q.claim = none := by
    cases hx : q.task with
    | none => rw [GantryRecord.claim, hx]; rfl
    | some x =>
      obtain ⟨p, n, -, rfl⟩ := htask x hx
      rw [GantryRecord.claim, hx]; rfl
  have hroom : (u.setGantry g q).Room g := by
    refine .of_no_destination ?_
    rw [hsame]
    cases hx : q.task with
    | none => rfl
    | some x =>
      obtain ⟨p, n, -, rfl⟩ := htask x hx
      rfl
  show (u.setGantry g q).Steady
  cases hx : q.task with
  | none =>
    exact (hset.drop rfl).steady (by rw [hsame]; exact hq) (by rw [hsame]; exact hclaim)
      (by rw [hsame, GantryRecord.job, hx]; rfl) hroom
  | some x =>
    obtain ⟨p, n, -, rfl⟩ := htask x hx
    exact hset.steady (by rw [hsame]; exact hq) (by rw [hsame]; exact hclaim) (by rw [hsame, GantryRecord.job, hx]; rfl) hroom

/-- Lift Execution acts on the abort of a gantry's book (R160, R162). -/
theorem State.Steady.actOnAbort {s : State} (h : s.Steady) (g : Gantry) : (s.actOnAbort g).Steady := by
  unfold State.actOnAbort
  split
  · next w tag hbook =>
    have hr := (h.gantry g).record
    obtain ⟨t, ht, hk⟩ : ∃ t, (s.gantry g).task = some t ∧ t.kind = .book w tag := by
      unfold State.bookTask at hbook
      split at hbook
      · next heq =>
        obtain ⟨t, ht, hk⟩ := Option.map_eq_some_iff.mp heq
        cases hbook
        exact ⟨t, ht, hk⟩
      · cases hbook
    split
    · next ha => exact h.abortDuringYield ht hk ha
    · split
      · exact h
      · have hown : s.But g t.claim (some t.kind) := by
          have := h.but g
          rwa [GantryRecord.claim, GantryRecord.job, ht] at this
        refine hown.endBookWithPick ht ?_ (hr.task t ht) hk _
        by_contra hne
        have hs := hr.fault.mp (Option.isSome_iff_ne_none.mpr hne)
        have hw := hr.work
        rw [hs] at hw
        rw [hw.2.2] at ht
        cases ht
  · exact h

end Sys2Proof.Machine
end

section
/-! PROOFS. A gantry that becomes FAULTED leaves everything in order (R88, R110, R111, R169). -/

namespace Sys2Proof.Machine

/-! ## Claims and the free list do not meet -/

section
variable (s : State) (b : Option Nat)

theorem State.freeRecordOpt_retry (g : Gantry) : (s.freeRecordOpt b).retry g = (s.retry g).freeRecordOpt b := by
  cases b with
  | none => rfl
  | some r =>
    by_cases hw : (s.gantry g).waits = true
    · have hw' : ((s.freeRecordOpt (some r)).gantry g).waits = true := hw
      rw [State.retry, State.retry, if_pos hw, if_pos hw']
      rfl
    · have hw' : ¬((s.freeRecordOpt (some r)).gantry g).waits = true := hw
      rw [State.retry, State.retry, if_neg hw, if_neg hw']

theorem State.freeRecordOpt_storeChange : (s.freeRecordOpt b).storeChange = s.storeChange.freeRecordOpt b := by
  rw [State.storeChange, State.storeChange, State.freeRecordOpt_retry, State.freeRecordOpt_retry]

theorem State.freeRecordOpt_slot (n : Nat) : (s.freeRecordOpt b).slot n = s.slot n := by cases b <;> rfl

theorem State.freeRecordOpt_setSlot (n : Nat) (r : Slot) : (s.freeRecordOpt b).setSlot n r = (s.setSlot n r).freeRecordOpt b := by
  cases b <;> rfl

theorem State.freeRecordOpt_releaseClaim (n : Nat) : (s.freeRecordOpt b).releaseClaim n = (s.releaseClaim n).freeRecordOpt b := by
  rw [State.releaseClaim, State.releaseClaim, State.freeRecordOpt_slot, State.freeRecordOpt_setSlot,
    State.freeRecordOpt_storeChange]
  split <;> rfl

theorem State.freeRecordOpt_markSuspect (n : Option Nat) :
    (s.freeRecordOpt b).markSuspectOpt n = (s.markSuspectOpt n).freeRecordOpt b := by
  cases n with
  | none => rfl
  | some n =>
    simp only [State.markSuspectOpt, State.markSuspect]
    rw [State.freeRecordOpt_releaseClaim, State.freeRecordOpt_slot, State.freeRecordOpt_setSlot]
    cases b <;> rfl

theorem State.freeRecordOpt_claimedBy (g : Gantry) : (s.freeRecordOpt b).claimedBy g = s.claimedBy g := by cases b <;> rfl

theorem State.freeRecordOpt_releaseClaims (g : Gantry) :
    (s.freeRecordOpt b).releaseClaims g = (s.releaseClaims g).freeRecordOpt b := by
  rw [State.releaseClaims, State.releaseClaims, State.freeRecordOpt_claimedBy]
  generalize s.claimedBy g = l
  induction l generalizing s with
  | nil => rfl
  | cons n l ih =>
    rw [List.foldl_cons, List.foldl_cons, State.freeRecordOpt_releaseClaim]
    exact ih _
end

/-- The slots a gantry has claimed are the one slot it has claimed. -/
theorem State.Owns.claimedBy {s : State} {g : Gantry} {c : Option (Nat × Purpose)} {j : Option TaskKind} (h : s.Owns g c j) :
    s.claimedBy g = (c.map Prod.fst).toList := by
  have hmem (n : Nat) : n ∈ s.claimedBy g ↔ c.map Prod.fst = some n := by
    rw [State.claimedBy, List.mem_filter, State.mem_slotNumbers, decide_eq_true_iff]
    constructor
    · rintro ⟨-, hn⟩
      obtain ⟨⟨k, p⟩, hc, rfl⟩ := Option.map_eq_some_iff.mp hn
      rw [(h.claims n p).mp hc]
      rfl
    · intro hn
      obtain ⟨⟨m, p⟩, rfl, rfl⟩ := Option.map_eq_some_iff.mp hn
      have hc := (h.claims m p).mpr rfl
      exact ⟨State.lt_of_claimed hc, by rw [hc]; rfl⟩
  have hnodup : (s.claimedBy g).Nodup := List.nodup_range.filter _
  cases c with
  | none =>
    refine List.eq_nil_iff_forall_not_mem.mpr fun n hn => ?_
    cases (hmem n).mp hn
  | some k =>
    refine List.perm_singleton.mp ((List.perm_ext_iff_of_nodup hnodup (List.nodup_singleton _)).mpr fun n => ?_)
    rw [hmem, List.mem_singleton]
    simpa using eq_comm

theorem State.But.releaseClaims {s : State} {g : Gantry} {c : Option (Nat × Purpose)} {j : Option TaskKind} (h : s.But g c j) :
    (s.releaseClaims g).But g none j := by
  rw [State.releaseClaims, h.owns.claimedBy]
  cases c with
  | none => exact h
  | some k => exact h.releaseClaim (n := k.1) (p := k.2) rfl

/-! ## The store -/

theorem State.Stocked.releaseClaim {s : State} (h : s.Stocked) (n : Nat) : (s.releaseClaim n).Stocked := by
  unfold State.releaseClaim
  split
  · exact h
  · refine (State.sameWork_storeChange _).stocked (h.congr rfl rfl rfl rfl ?_ (fun _ => rfl) fun _ => rfl)
    exact s.stacks_setSlot (r := { s.slot n with claim := none }) rfl

theorem State.Stocked.markSuspectOpt {s : State} (h : s.Stocked) (n : Option Nat) : (s.markSuspectOpt n).Stocked := by
  cases n with
  | none => exact h
  | some n =>
    refine (State.sameWork_latch _ _ _).stocked ((h.releaseClaim n).congr rfl rfl rfl rfl ?_ (fun _ => rfl) fun _ => rfl)
    exact (s.releaseClaim n).stacks_setSlot (r := { (s.releaseClaim n).slot n with suspect := true }) rfl

theorem State.Stocked.releaseClaims {s : State} (h : s.Stocked) (g : Gantry) : (s.releaseClaims g).Stocked := by
  unfold State.releaseClaims
  generalize s.claimedBy g = l
  induction l generalizing s with
  | nil => exact h
  | cons n l ih => exact ih (h.releaseClaim n)

theorem State.markSuspectOpt_gantry (s : State) (n : Option Nat) (g : Gantry) : (s.markSuspectOpt n).gantry g = s.gantry g := by
  cases n with
  | none => rfl
  | some n => exact s.releaseClaim_gantry n g

theorem State.releaseClaims_gantry (s : State) (k g : Gantry) : (s.releaseClaims k).gantry g = s.gantry g := by
  unfold State.releaseClaims
  generalize s.claimedBy k = l
  induction l generalizing s with
  | nil => rfl
  | cons n l ih => exact (ih _).trans (s.releaseClaim_gantry n g)

/-! ## The fault -/

/-- The record of a gantry that has become FAULTED. -/
def State.faultedRecord (s : State) (g : Gantry) (cause : FaultCause) (subCode : BitVec 8) : GantryRecord :=
  (s.gantry g).faulted (s.faultRecord g cause subCode)

/-- The state in which a gantry has become FAULTED and its BLANK record has gone back to FREE. -/
def State.faultFrozen (s : State) (g : Gantry) (cause : FaultCause) (subCode : BitVec 8) : State :=
  (s.setGantry g (s.faultedRecord g cause subCode)).freeRecordOpt (s.gantry g).blank

/-- What a fault leaves of the claims. -/
def State.faultDisposed (s : State) (g : Gantry) (cause : FaultCause) (subCode : BitVec 8) : State :=
  ((s.faultFrozen g cause subCode).markSuspectOpt (s.gantry g).pickedSlot).releaseClaims g

theorem State.becomeFaulted_eq (s : State) (g : Gantry) (cause : FaultCause) (subCode : BitVec 8) (silent : Bool) :
    s.becomeFaulted g cause subCode silent =
      ((((if silent then s.faultDisposed g cause subCode
        else (s.faultDisposed g cause subCode).endFaultedTask g (s.gantry g).job
          (((s.gantry g).carried.map Panel.serial).getD 0)).latch .planner .gantryFaulted).latchService g cause).dropStepOrder
            g) := by
  rw [State.faultDisposed, State.faultFrozen, State.freeRecordOpt_markSuspect, State.freeRecordOpt_releaseClaims]
  rfl

theorem State.sameWork_latchService (s : State) (g : Gantry) (c : FaultCause) : s.SameWork (s.latchService g c) := by
  unfold State.latchService
  split
  · exact ⟨rfl, rfl, rfl, rfl, rfl, rfl, rfl, fun _ => ⟨rfl, rfl⟩⟩
  · exact s.sameWork_latch _ _

theorem State.sameWork_fault (s : State) (g : Gantry) (c : FaultCause) :
    s.SameWork (((s.latch .planner .gantryFaulted).latchService g c).dropStepOrder g) :=
  ((s.sameWork_latch _ _).trans (State.sameWork_latchService _ g c)).trans
    ⟨rfl, rfl, rfl, rfl, rfl, rfl, rfl, fun _ => ⟨rfl, rfl⟩⟩

theorem State.faultedRecord_sound (s : State) (g : Gantry) (cause : FaultCause) (subCode : BitVec 8) :
    (s.faultedRecord g cause subCode).Sound :=
  ⟨(fun _ ht => by cases ht), fun _ => rfl, by simp [State.faultedRecord, GantryRecord.faulted], ⟨rfl, rfl, rfl, rfl⟩, rfl, rfl⟩

section
variable {s : State} {g : Gantry} (hfault : (s.gantry g).fault = none) (cause : FaultCause) (subCode : BitVec 8)

theorem State.faultFrozen_eq : s.faultFrozen g cause subCode =
    { s.setGantry g (s.faultedRecord g cause subCode) with
      free := ((s.gantry g).blank.map s.free.return).getD s.free } := by
  rw [State.faultFrozen]
  cases (s.gantry g).blank <;> rfl

theorem State.faultFrozen_order (f : FreeList) (b : Option Nat) : ((b.map f.return).getD f).order = f.order ++ b.toList := by
  cases b with
  | none => simp
  | some r => exact f.order_return r

theorem State.faultedRecord_panels (hfault : (s.gantry g).fault = none) :
    (s.faultedRecord g cause subCode).panels = (s.gantry g).panels := by
  simp [GantryRecord.panels, State.faultedRecord, GantryRecord.faulted, State.faultRecord, hfault]

/-- The panel on the head goes into the fault record, and a BLANK record goes back to FREE. -/
theorem State.headExchanges_fault (hfault : (s.gantry g).fault = none) (hcounter : 1 ≤ s.serialCounter ∧ s.serialCounter ≤ maxSerial) :
    s.HeadExchanges g (s.faultedRecord g cause subCode) (((s.gantry g).blank.map s.free.return).getD s.free) s.serialCounter none := by
  refine ⟨?_, ?_, by simp, hcounter⟩
  · rw [State.faultedRecord_panels cause subCode hfault, State.faultFrozen_order]
    show (_ ++ ([] : List Nat) ++ _).Perm _
    rw [List.append_nil]
  · rw [State.faultedRecord_panels cause subCode hfault]
    exact List.Subperm.refl _

theorem State.sameWork_faultFrozen : (s.headExchanged g (s.faultedRecord g cause subCode)
    (((s.gantry g).blank.map s.free.return).getD s.free) s.serialCounter).SameWork (s.faultFrozen g cause subCode) := by
  rw [State.faultFrozen_eq]
  exact ⟨rfl, rfl, rfl, rfl, rfl, rfl, rfl, fun _ => ⟨rfl, rfl⟩⟩

theorem State.But.faultFrozen (hfault : (s.gantry g).fault = none) {c : Option (Nat × Purpose)} {j : Option TaskKind}
    (h : s.But g c j) : (s.faultFrozen g cause subCode).But g c j := by
  have hx := State.headExchanges_fault cause subCode hfault h.tidy.stocked.counter
  exact (State.sameWork_faultFrozen cause subCode).but (h.setHead rfl hx.pool hx.live hx.fresh hx.counter)

theorem State.Stocked.faultDisposed (hfault : (s.gantry g).fault = none) (h : s.Stocked) : (s.faultDisposed g cause subCode).Stocked :=
  (((State.sameWork_faultFrozen cause subCode).stocked
    (h.headExchanged (State.headExchanges_fault cause subCode hfault h.counter))).markSuspectOpt _).releaseClaims g

theorem State.faultFrozen_gantry : (s.faultFrozen g cause subCode).gantry g = s.faultedRecord g cause subCode := by
  rw [State.faultFrozen_eq]
  exact State.setGantry_gantry_same _ _ _

theorem State.faultDisposed_gantry : (s.faultDisposed g cause subCode).gantry g = s.faultedRecord g cause subCode := by
  rw [State.faultDisposed, State.releaseClaims_gantry, State.markSuspectOpt_gantry, State.faultFrozen_gantry]

theorem State.faultDisposed_gantry_other : (s.faultDisposed g cause subCode).gantry (otherGantry g) = s.gantry (otherGantry g) := by
  rw [State.faultDisposed, State.releaseClaims_gantry, State.markSuspectOpt_gantry, State.faultFrozen_eq]
  exact State.setGantry_gantry_other _ _ _

end

/-- A slot that a gantry picks from is the slot it has claimed. -/
theorem GantryRecord.Sound.claim_of_picked {r : GantryRecord} (h : r.Sound) {n : Nat} (hn : r.pickedSlot = some n) :
    r.claim = some (n, .pick) := by
  obtain ⟨c, hc, hpick⟩ := Option.bind_eq_some_iff.mp hn
  have hkind : c.kind = .travelPick ∧ c.slot = some n := by
    split at hpick
    · next hk => exact ⟨hk.1, hpick⟩
    · cases hpick
  have key (hw : r.hold = none ∧ (r.OpenWait ∨ r.OwnStep ∨ r.Yields)) : r.claim = some (n, .pick) := by
    obtain ⟨-, ⟨-, hcn, -⟩ | ⟨d, t, hd, ht, hcalls, -⟩ | ⟨d, hd, hk, -⟩⟩ := hw
    · rw [hcn] at hc; cases hc
    · rw [hc] at hd
      cases hd
      unfold Task.Calls at hcalls
      cases hp : t.phase with
      | picking =>
        rw [hp] at hcalls
        exact (r.claim_pick n).mpr ⟨t, ht, hp, hcalls.2.2.symm.trans hkind.2⟩
      | outfeedPick =>
        rw [hp] at hcalls
        rw [hcalls.2.1] at hkind
        cases hkind.2
      | hovering | placing | putting =>
        rw [hp] at hcalls
        rw [hcalls.1] at hkind
        cases hkind.1
      | sourceWait | holding | stranded =>
        rw [hp] at hcalls
        exact hcalls.elim
    · rw [hc] at hd
      cases hd
      rw [hkind.1] at hk
      cases hk
  have hw := h.work
  split at hw
  all_goals first
    | exact key hw
    | (rw [hw.1.1] at hc; cases hc)

/-- The task of a gantry that has become FAULTED ends with its report. -/
theorem State.But.endFaultedTask {s : State} {g : Gantry} {j : Option TaskKind} (h : s.But g none j) (serial : Nat) :
    (s.endFaultedTask g j serial).But g none none := by
  unfold State.endFaultedTask
  split
  · next w tag => exact (h.abortAssembling rfl _).drop rfl
  · next w => exact (h.endOffer rfl _ _ _ _).drop rfl
  · next hbook hoffer =>
    cases hj : j with
    | none => rw [← hj]; exact hj ▸ h
    | some k =>
      cases k with
      | book w tag => exact absurd hj (hbook w tag)
      | remnantReturn w => exact absurd hj (hoffer w)
      | panelReturn => exact h.drop hj

theorem State.endFaultedTask_gantry (s : State) (k : Gantry) (j : Option TaskKind) (n : Nat) (g : Gantry) :
    (s.endFaultedTask k j n).gantry g = s.gantry g := by
  unfold State.endFaultedTask
  split
  · exact s.abortAssembling_gantry _ _ _ g
  · exact s.endOffer_gantry k _ _ _ _ _ g
  · rfl

/-- A gantry that is not FAULTED holds no fault record. -/
theorem GantryRecord.Sound.no_fault {r : GantryRecord} (h : r.Sound) (hs : r.state ≠ .faulted) : r.fault = none := by
  by_contra hne
  exact hs (h.fault.mp (Option.isSome_iff_ne_none.mpr hne))

theorem State.Steady.becomeFaulted {s : State} (h : s.Steady) {g : Gantry} (hs : (s.gantry g).state ≠ .faulted) (cause : FaultCause)
    (subCode : BitVec 8) : (s.becomeFaulted g cause subCode false).Steady := by
  have hr := (h.gantry g).record
  have hfault := hr.no_fault hs
  have hdisposed : (s.faultDisposed g cause subCode).But g none (s.gantry g).job := by
    have hfrozen := (h.but g).faultFrozen cause subCode hfault
    unfold State.faultDisposed
    cases hp : (s.gantry g).pickedSlot with
    | none => exact hfrozen.releaseClaims
    | some n => exact (hfrozen.markSuspect (hr.claim_of_picked hp)).releaseClaims
  rw [State.becomeFaulted_eq]
  refine (State.sameWork_fault _ g cause).steady ?_
  have hg : ((s.faultDisposed g cause subCode).endFaultedTask g (s.gantry g).job
      (((s.gantry g).carried.map Panel.serial).getD 0)).gantry g = s.faultedRecord g cause subCode := by
    rw [State.endFaultedTask_gantry, State.faultDisposed_gantry]
  refine (hdisposed.endFaultedTask _).steady ?_ ?_ ?_ ?_
  · rw [hg]; exact s.faultedRecord_sound g cause subCode
  · rw [hg]; rfl
  · rw [hg]; rfl
  · exact .of_no_destination (by rw [hg]; rfl)

end Sys2Proof.Machine
end

section
/-! PROOFS. A dispatch pass and the consequences of an event keep everything in order (R80, R148 to R154, R165, R166). -/

namespace Sys2Proof.Machine

/-! ## Starts -/

theorem GantryRecord.Sound.idle {r : GantryRecord} (h : r.Sound) (hs : r.state = .idle) :
    r.AtRest ∧ r.hold = none ∧ r.task = none ∧ r.fault = none ∧ r.carried = none := by
  have hw := h.work
  rw [hs] at hw
  obtain ⟨hrest, hhold, htask⟩ := hw
  exact ⟨hrest, hhold, htask, by simpa [hs] using h.fault, h.empty htask⟩

theorem State.Steady.but_of_idle {s : State} (h : s.Steady) {g : Gantry} (hs : (s.gantry g).state = .idle) : s.But g none none := by
  have hown := h.but g
  rwa [GantryRecord.claim, GantryRecord.job, ((h.gantry g).record.idle hs).2.2.1] at hown

/-- A saw's head book starts (R152). -/
theorem State.Steady.startBook {s : State} (h : s.Steady) (hw : s.Working) {g : Gantry} (hs : (s.gantry g).state = .idle) {w : Saw}
    {b : Book} (hb : b ∈ (s.saw w).books) (hq : b.state = .queued) : (s.startBook g w b).Steady := by
  obtain ⟨⟨-, haside, hformer, -⟩, hhold, htask, hfault, hcarried⟩ := (h.gantry g).record.idle hs
  let t : Task := ⟨.book w b.tag, s.clock, .sourceWait, none, none, 0, none⟩
  let u := s.setSaw w ((s.saw w).withStart b.tag g s.clock)
  have hu : u.But g none (some t.kind) := (h.but_of_idle hs).withStart hw hb hq s.clock
  refine State.Lifting.startLift (s := u.attach g t) (t := t) (w := w) (tag := b.tag) ⟨hu.setGantry rfl ?_ rfl, ?_, rfl, ?_⟩
  · show none = (s.gantry g).blank
    rw [GantryRecord.blank, htask]
    rfl
  · rw [State.attach, State.setGantry_gantry_same]
    refine ⟨rfl, ?_, haside, hformer, hhold, hfault⟩
    show t.Sound (s.gantry g).carried
    rw [hcarried]
    exact ⟨rfl, ⟨w, b.tag, rfl⟩, by simp [t], (fun hd => by cases hd), fun ho => by cases ho⟩
  · rw [State.attach, State.setGantry_gantry_same]
    exact hcarried

/-- A saw's head offer starts (R166). -/
theorem State.Steady.startRemnantReturn {s : State} (h : s.Steady) (hw : s.Working) {g : Gantry}
    (hs : (s.gantry g).state = .idle) {w : Saw} {o : Offer} (ho : (s.saw w).offers.head? = some o) (hwait : o.state = .waiting)
    (hfree : 1 ≤ s.freeCount) : (s.startRemnantReturn g w o).Steady := by
  obtain ⟨⟨-, haside, hformer, -⟩, hhold, htask, hfault, hcarried⟩ := (h.gantry g).record.idle hs
  unfold State.startRemnantReturn
  split
  case h_2 => exact h
  case h_1 n hn =>
    have htakes := State.remnantReturnSearch_takes hn
    obtain ⟨os, hos⟩ : ∃ os, (s.saw w).offers = o :: os := by
      cases hl : (s.saw w).offers with
      | nil => rw [hl] at ho; cases ho
      | cons a l =>
        rw [hl] at ho
        cases ho
        exact ⟨l, rfl⟩
    let t : State := s.setSlot n { s.slot n with claim := some ⟨g, .put⟩ }
    have hclaim : s.claim n g .put = t := State.claim_eq htakes.unclaimed htakes.clear g .put
    have ht : t.But g (some (n, .put)) none := by
      rw [← hclaim]
      exact (h.but_of_idle hs).claim htakes.slot htakes.unclaimed htakes.clear (by simp)
    let v := t.setSaw w { t.saw w with offers := holdOffer g (t.saw w).offers }
    have hv : v.But g (some (n, .put)) (some (.remnantReturn w)) := ht.holdOffer hw (w := w) hos hwait
    let k : Task := ⟨.remnantReturn w, s.clock, .outfeedPick, none, some n, 0, some s.free.head⟩
    let q : GantryRecord := { s.gantry g with state := .dwell, task := some k }
    have hcons := FreeList.order_eq_cons (f := s.free)
      (List.ne_nil_of_length_pos (by rw [← State.freeCount_eq]; exact hfree))
    have hold : (s.gantry g).blank = none := by rw [GantryRecord.blank, htask]; rfl
    have hset : ({ v with gantries := v.gantries.set g q, free := s.free.tail, serialCounter := v.serialCounter } : State).But g
        k.claim (some k.kind) := by
      refine hv.setHead (new := none) rfl ?_ (List.Subperm.refl _) (by simp) hv.tidy.stocked.counter
      show (s.free.tail.order ++ [s.free.head] ++ (s.gantry g).panels.map Panel.record).Perm
        (s.free.order ++ (s.gantry g).blank.toList ++ (s.gantry g).panels.map Panel.record)
      rw [hold, hcons]
      refine List.Perm.append_right _ ?_
      simp
    let z : State := { v with gantries := v.gantries.set g q, free := s.free.tail, serialCounter := v.serialCounter }
    have hzg : z.gantry g = q := PerGantry.get_set_same _ _ _
    have hz : z.Bearing g k := by
      refine ⟨hset, ?_, fun m hm => ?_⟩
      · rw [hzg]
        refine ⟨rfl, ?_, haside, hformer, hhold, hfault⟩
        show k.Sound (s.gantry g).carried
        rw [hcarried]
        exact ⟨rfl, ⟨w, rfl⟩, by simp [k], fun _ => .inr rfl, fun _ => rfl⟩
      · rw [hzg] at hm ⊢
        cases hm
        refine ⟨fun p hp => ?_, fun w' o' _ hj ho' => ?_⟩
        · rw [show q.carried = none from hcarried] at hp
          cases hp
        · cases hj
          have hoffer : z.offerOf g w = some { o with state := .inProgress g } := by
            have hsaw : (z.saw w).offers = holdOffer g (o :: os) := by
              show (v.saw w).offers = _
              rw [State.setSaw_saw_same, ← hos]
              rfl
            rw [State.offerOf_eq, hsaw, heldOffers_holdOffer hwait]
            rfl
          rw [hoffer] at ho'
          cases ho'
          have hstack : (z.slot n).stack = (s.slot n).stack :=
            State.slot_stack_of_stacks (s.stacks_setSlot (r := { s.slot n with claim := some ⟨g, .put⟩ }) rfl) n
          rw [State.hasRoomFor_congr (s := s) (t := z) rfl rfl hstack]
          exact htakes.room
    dsimp only
    rw [hclaim]
    refine State.Bearing.handOver (t := k) (State.SameWork.bearing ?_ hz) ⟨rfl, rfl, w, rfl, rfl⟩ (by simp [State.outfeedStep])
    exact ⟨rfl, rfl, rfl, rfl, rfl, rfl, rfl, fun _ => ⟨rfl, rfl⟩⟩

/-! ## The pass -/

theorem State.nearest_mem {s : State} {x : Nat} {gs : List Gantry} {g : Gantry} (h : s.nearest x gs = some g) : g ∈ gs := by
  unfold State.nearest at h
  split at h
  · next hwest =>
    split at h <;> cases h
    · next heast => exact List.contains_iff_mem.mp ((Bool.and_eq_true _ _).mp heast).1
    · exact List.contains_iff_mem.mp hwest
  · split at h <;> cases h
    next heast => exact List.contains_iff_mem.mp heast

/-- What a round can give: a head offer that WAITS, or a head book, to one of the gantries it is made for. -/
theorem State.round_spec {s : State} {gs : List Gantry} {g : Gantry} {w : Saw} {k : Work} (h : s.round gs = some (g, w, k)) :
    g ∈ gs ∧ match k with
      | .offer o => (s.saw w).offers.head? = some o ∧ o.state = .waiting ∧ 1 ≤ s.freeCount
      | .book b => b ∈ (s.saw w).books ∧ b.state = .queued := by
  obtain ⟨v, -, hturn⟩ := List.exists_of_findSome?_eq_some h
  unfold State.turn at hturn
  split at hturn
  case isFalse => cases hturn
  have heither : s.offerTurn gs v = some (g, w, k) ∨ s.bookTurn gs v = some (g, w, k) := by
    cases ho : s.offerTurn gs v with
    | none => rw [ho] at hturn; exact .inr hturn
    | some x => rw [ho] at hturn; exact .inl hturn
  rcases heither with hoffer | hbook
  · obtain ⟨o, ho, hn⟩ := Option.bind_eq_some_iff.mp hoffer
    obtain ⟨g', hg', he⟩ := Option.map_eq_some_iff.mp hn
    cases he
    obtain ⟨hmem, hq⟩ := List.mem_filter.mp (State.nearest_mem hg')
    simp only [State.offerQualifies, Bool.and_eq_true, decide_eq_true_iff] at hq
    exact ⟨hmem, ho, hq.1.1, hq.2⟩
  · obtain ⟨b, hb, hn⟩ := Option.bind_eq_some_iff.mp hbook
    obtain ⟨g', hg', he⟩ := Option.map_eq_some_iff.mp hn
    cases he
    exact ⟨(List.mem_filter.mp (State.nearest_mem hg')).1, List.mem_of_find?_eq_some hb, by simpa using List.find?_some hb⟩

/-- No operation of Lift Execution changes the cell state. -/
theorem cell_carrying (c : CellState) : Carrying fun s => s.cell = c where
  gantry _ _ _ _ h := h
  saw _ _ _ _ h := h
  push _ _ _ h := h
  latch _ _ _ h := h
  duties _ _ h := h
  freeNext _ _ h := h
  pointer _ _ h := h
  free _ _ h := h
  serial _ _ h := h
  search s g w e h := (s.locatorStep_differs g w e).cell.trans h
  claim s n g p h := by
    unfold State.claim
    split <;> exact h
  unclaim _ _ h := h
  suspect _ _ h _ := h
  head _ _ _ _ h := h
  place _ _ h := h
  lay _ _ _ h := h
  unlay _ _ _ h := h

theorem State.Steady.dispatchRound {s t : State} {gs hs : List Gantry} (h : s.Steady) (hw : s.Working)
    (hidle : ∀ g ∈ gs, (s.gantry g).state = .idle) (ht : s.dispatchRound gs = some (t, hs)) :
    t.Steady ∧ t.cell = s.cell ∧ ∀ g ∈ hs, (t.gantry g).state = .idle := by
  obtain ⟨⟨g, w, k⟩, hround, he⟩ := Option.map_eq_some_iff.mp ht
  have hcell : t.cell = s.cell := ((cell_carrying s.cell).dispatchRound rfl ht)
  obtain ⟨rfl, rfl⟩ := Prod.mk.inj he
  obtain ⟨hmem, hk⟩ := State.round_spec hround
  have hp : ({ s with pointer := w } : State).Steady :=
    State.SameWork.steady (s := s) ⟨rfl, rfl, rfl, rfl, rfl, rfl, rfl, fun _ => ⟨rfl, rfl⟩⟩ h
  refine ⟨?_, hcell, fun k hk => of_decide_eq_true (List.mem_filter.mp hk).2⟩
  cases k with
  | offer o =>
    obtain ⟨ho, hwait, hfree⟩ := hk
    exact hp.startRemnantReturn hw (hidle g hmem) ho hwait hfree
  | book b =>
    obtain ⟨hb, hq⟩ := hk
    exact hp.startBook hw (hidle g hmem) hb hq

theorem State.Steady.dispatchPass {s : State} (h : s.Steady) (hw : s.Working) : s.dispatchPass.Steady := by
  unfold State.dispatchPass
  split
  · exact h
  · next t gs ht =>
    obtain ⟨h1, hc1, hi1⟩ := h.dispatchRound hw (fun g hg => of_decide_eq_true (List.mem_filter.mp hg).2) ht
    have hw1 : t.Working := by rwa [State.Working, hc1]
    split
    · exact h1
    · next u hs hu => exact (h1.dispatchRound hw1 hi1 hu).1

/-! ## Consequences -/

/-- A lift that waits for a source looks for one again (R154). -/
theorem State.Steady.searchAgain {s : State} (h : s.Steady) {g : Gantry} (hw : (s.gantry g).waits = true) :
    (s.searchAgain g).Steady := by
  unfold State.searchAgain
  split
  · next hs => exact h.seekAgain hs
  · next hs =>
    have hr := (h.gantry g).record
    simp only [GantryRecord.waits, hs, decide_false, Bool.false_and, Bool.false_or, Bool.and_eq_true, decide_eq_true_iff] at hw
    obtain ⟨⟨hdwell, hcur⟩, hphase⟩ := hw
    obtain ⟨t, ht, hp⟩ := Option.map_eq_some_iff.mp hphase
    have hsound := hr.task t ht
    have hkind := hsound.kind
    have hhead := hsound.head
    rw [hp] at hkind hhead
    obtain ⟨w, tag, hk⟩ := hkind
    have hwork := hr.work
    rw [hdwell] at hwork
    obtain ⟨hhold, ⟨-, -, haside, hformer, -⟩ | ⟨c, _, hc, -⟩ | ⟨c, hc, -⟩⟩ := hwork
    · have hb := h.bearing ⟨ht, hsound, haside, hformer, hhold, by simpa [hdwell] using hr.fault⟩
      exact State.Lifting.startLift ⟨hsound.claim_of_book hk (by rw [hp]; decide) ▸ hb.but, hb.record, hk, by
        simpa [Phase.loaded] using hhead⟩
    · rw [hcur] at hc; cases hc
    · rw [hcur] at hc; cases hc

/-- A request that waits is tested again (R80). -/
theorem State.Steady.testAgain {s : State} (h : s.Steady) {g : Gantry} (hs : (s.gantry g).state = .waitGrant) :
    (s.testAgain g).Steady := by
  obtain ⟨c, t, hc, hb, hcalls, -⟩ := (h.gantry g).record.waits_with hs
  simp only [State.testAgain, hc]
  exact ((h.bearing hb).request hcalls _).settleRequest

theorem State.Steady.take {s : State} (h : s.Steady) {d : Duty} (hd : s.due d = true) : (s.take d).Steady := by
  have hclear : ({ s with duties := s.duties.clear d } : State).Steady := (s.sameWork_duties _).steady h
  cases d with
  | retry g => exact hclear.searchAgain ((Bool.and_eq_true _ _).mp hd).2
  | retest g => exact hclear.testAgain (of_decide_eq_true ((Bool.and_eq_true _ _).mp hd).2)
  | dispatch =>
    have hpass := ((Bool.and_eq_true _ _).mp hd).2
    have hw : s.cell = .opened ∨ s.cell = .halted := of_decide_eq_true ((Bool.and_eq_true _ _).mp hpass).1
    exact hclear.dispatchPass hw

theorem State.chooseDuty_spec (s : State) (d : Duty) (ds : List Duty) :
    (s.chooseDuty d ds).1 ∈ d :: ds ∧ ∃ n, (s.chooseDuty d ds).2 = { s with freeNext := n } := by
  unfold State.chooseDuty
  split
  · exact ⟨List.mem_singleton.mpr rfl, s.freeNext, rfl⟩
  · next e es =>
    refine ⟨?_, _, rfl⟩
    have hlt : Config.freeOrder s.freeNext % ((e :: es).length + 1) < (d :: e :: es).length := Nat.mod_lt _ (Nat.succ_pos _)
    dsimp only
    rw [List.getD_eq_getElem _ _ hlt]
    exact List.getElem_mem hlt

theorem State.Steady.settleFor {s : State} (h : s.Steady) (n : Nat) : (State.settleFor n s).Steady := by
  induction n generalizing s with
  | zero => exact (s.sameWork_duties _).steady h
  | succ n ih =>
    unfold State.settleFor
    split
    · exact (s.sameWork_duties _).steady h
    · next d ds hds =>
      obtain ⟨hmem, m, hm⟩ := s.chooseDuty_spec d ds
      refine ih ?_
      rw [hm]
      have hfree : ({ s with freeNext := m } : State).Steady :=
        State.SameWork.steady (s := s) ⟨rfl, rfl, rfl, rfl, rfl, rfl, rfl, fun _ => ⟨rfl, rfl⟩⟩ h
      rw [← hds] at hmem
      exact hfree.take (List.mem_filter.mp hmem).2

theorem State.Steady.settle {s : State} (h : s.Steady) : s.settle.Steady := h.settleFor 1000

end Sys2Proof.Machine
end

section
/-! PROOFS. The frames of the saws, of the planner's settings and of the cell commands keep everything in order (R125, R129 to R136, R140,
R174 to R176). -/

namespace Sys2Proof.Machine

/-! ## Frames -/

/-- Soundness looks neither at the ports nor at the commands that wait. -/
theorem State.Sound.withPorts {s : State} (h : s.Sound) (q : PerPort PortRecord) (l : List Instr) :
    ({ s with ports := q, pending := l } : State).Sound where
  runway := ⟨h.runway.noLayout, h.runway.reading, h.runway.valid, h.runway.before, h.runway.apart, h.runway.inside,
    h.runway.waiting, h.runway.outstanding⟩
  slots := ⟨h.slots.count, h.slots.exclusive⟩
  saws := h.saws
  work := ⟨h.work.gantry, h.work.puts, h.work.picks, h.work.picked, h.work.books, h.work.offers, h.work.closed⟩
  store := ⟨h.store.pool, h.store.serials, h.store.range, h.store.counter, h.store.limits, h.store.room⟩

theorem State.sameWork_setPort (s : State) (p : Port) (r : PortRecord) : s.SameWork (s.setPort p r) :=
  ⟨rfl, rfl, rfl, rfl, rfl, rfl, rfl, fun _ => ⟨rfl, rfl⟩⟩

theorem steady_settling : Settling State.Sound State.Steady where
  before s _ _ h := h.withPorts _ s.pending
  after _ _ _ h := (State.sameWork_setPort _ _ _).steady h
  settle _ h := h.settle
  weaken _ h := h.steady

theorem State.sameWork_opportunity (s : State) : s.SameWork s.opportunity := s.sameWork_duties _

theorem State.sameWork_flushLocator (s : State) : s.SameWork s.flushLocator :=
  ⟨rfl, rfl, rfl, rfl, rfl, rfl, rfl, fun _ => ⟨rfl, rfl⟩⟩

theorem State.sameWork_freeNext (s : State) (n : Nat) : s.SameWork { s with freeNext := n } :=
  ⟨rfl, rfl, rfl, rfl, rfl, rfl, rfl, fun _ => ⟨rfl, rfl⟩⟩

/-- A saw's record is replaced by one with the same lists. -/
theorem State.sameWork_setSaw (s : State) {w : Saw} {r : SawRecord} (hbooks : r.books = (s.saw w).books)
    (hoffers : r.offers = (s.saw w).offers) : s.SameWork (s.setSaw w r) := by
  refine ⟨rfl, rfl, rfl, rfl, rfl, rfl, rfl, fun v => ?_⟩
  rw [State.setSaw_saw]
  split
  · next hv => rw [hv]; exact ⟨hbooks, hoffers⟩
  · exact ⟨rfl, rfl⟩

/-- A saw's lists are changed, and no gantry's work with them. -/
theorem State.Steady.setSaw {s : State} (h : s.Steady) {w : Saw} {r : SawRecord} (hshelf : ShelfSound r.books)
    (hbooks : ∀ k tag, Assembles r.books k tag ↔ Assembles (s.saw w).books k tag)
    (hoffers : ∀ k, heldOffers r.offers k = heldOffers (s.saw w).offers k) : (s.setSaw w r).Steady := by
  have hleaves (g : Gantry) : s.Leaves (s.setSaw w r) g := by
    refine ⟨rfl, rfl, rfl, rfl, fun _ _ _ => rfl, fun v tag => ?_, fun v => ?_⟩
    · rw [State.setSaw_saw]
      split
      · next hv => rw [hv]; exact hbooks g tag
      · rfl
    · rw [State.setSaw_saw]
      split
      · next hv => rw [hv]; exact hoffers g
      · rfl
  refine ⟨⟨h.tidy.apart, fun v => ?_, h.tidy.stocked.congr rfl rfl rfl rfl rfl (fun _ => rfl) fun _ => rfl⟩,
    fun g => (hleaves g).inOrder (h.gantry g)⟩
  rw [State.setSaw_saw]
  split
  · exact hshelf
  · exact h.tidy.shelves v

/-! ## The saws' messages -/

theorem State.Sound.sawSet {s : State} (h : s.Sound) (ws : List Word) : (s.sawSet ws).1.Steady := by
  unfold State.sawSet
  split
  · exact h.steady
  · refine State.unless_keeps h.steady fun _ => (State.sameWork_opportunity _).steady ?_
    unfold State.latchSettings
    split
    · exact (s.sameWork_setSaw (by rfl) (by rfl)).steady h.steady
    · exact ((s.sameWork_latch _ _).trans (State.sameWork_setSaw _ (by rfl) (by rfl))).steady h.steady

theorem State.Steady.refuseFree {s : State} (h : s.Steady) (m : Message) (c : RefusalCode) : (s.refuseFree m c).1.Steady :=
  (s.sameWork_freeNext _).steady h

theorem State.Sound.sawQuery {s : State} (h : s.Sound) (ws : List Word) : (s.sawQuery ws).1.Steady := by
  unfold State.sawQuery
  repeat' split
  · exact h.steady.refuseFree _ _
  · exact h.steady
  · exact h.steady.refuseFree _ _

/-- A record that no gantry assembles joins the end of a list. -/
theorem assembles_append_queued {bs : List Book} {b : Book} (hb : b.state = .queued) (g : Gantry) (tag : Word) :
    Assembles (bs ++ [b]) g tag ↔ Assembles bs g tag := by
  simp [Assembles, or_and_right, exists_or, hb]

theorem State.Steady.addBook {s : State} (h : s.Steady) {w : Saw} {b : Book} (hb : b.state = .queued)
    (htag : ∀ a ∈ (s.saw w).books, a.tag ≠ b.tag) (hlift : 1 ≤ b.lift ∧ b.lift ≤ b.entries.length) : (s.addBook w b).Steady := by
  refine (State.sameWork_opportunity _).steady (h.setSaw ⟨?_, fun a ha => ?_⟩ (assembles_append_queued hb) fun _ => rfl)
  · rw [List.map_append, List.nodup_append]
    refine ⟨(h.tidy.shelves w).tags, List.nodup_singleton _, fun t ht u hu => ?_⟩
    obtain ⟨a, ha, rfl⟩ := List.mem_map.mp ht
    rw [List.map_singleton, List.mem_singleton] at hu
    exact hu ▸ htag a ha
  · rcases List.mem_append.mp ha with ha | ha
    · exact (h.tidy.shelves w).lifts a ha
    · rw [List.mem_singleton.mp ha]
      exact hlift

/-! ## Checks -/

theorem firstOf_eq_none_iff (cs : List (Option Failure)) : firstOf cs = none ↔ ∀ c ∈ cs, c = none := by
  simp [firstOf, List.findSome?_eq_none_iff]

theorem checkOf_eq_none_iff (b : Bool) (c : RefusalCode) (d : Nat) : checkOf b c d = none ↔ b = false := by
  cases b <;> simp

theorem State.bookRequest_passes {s : State} {w : Saw} {ws : List Word} (h : s.bookRequestFailure w ws = none) :
    1 ≤ (requestEntries ws).length ∧ ∀ a ∈ (s.saw w).books, a.tag ≠ carriedTag ws := by
  simp only [State.bookRequestFailure, firstOf_eq_none_iff, List.forall_mem_cons, checkOf_eq_none_iff] at h
  obtain ⟨-, hcount, -, -, -, htag, -⟩ := h
  have hlen : (requestEntries ws).length = word ws 1 := by simp [requestEntries]
  have hbad := of_decide_eq_false hcount
  exact ⟨by omega, by simpa using htag⟩

theorem State.Sound.bookRequest {s : State} (h : s.Sound) (w : Saw) (ws : List Word) : (s.bookRequest w ws).1.Steady := by
  refine State.unless_keeps h.steady fun hf => ?_
  obtain ⟨hlen, htag⟩ := State.bookRequest_passes hf
  exact h.steady.addBook rfl htag ⟨Nat.le_refl 1, by simpa [newBook] using hlen⟩

/-! ## BOOK_ABORT and BOOK_TAKEN -/

/-- A record that no gantry assembles is taken off a list. -/
theorem ShelfSound.assembles_filter {bs : List Book} (h : ShelfSound bs) {b : Book} (hb : b ∈ bs) (hs : b.state ≠ .assembling)
    (k : Gantry) (tag : Word) : Assembles (bs.filter fun x => decide (x.tag ≠ b.tag)) k tag ↔ Assembles bs k tag := by
  rw [assembles_filter_tag]
  refine and_iff_left_of_imp fun ha ht => hs ?_
  rw [ht, h.assembles_iff hb] at ha
  exact ha.1

/-- A record that no gantry assembles leaves a saw's list. -/
theorem State.Steady.removeBook {s : State} (h : s.Steady) {w : Saw} {b : Book} (hb : b ∈ (s.saw w).books)
    (hs : b.state ≠ .assembling) {r : SawRecord} (hbooks : r.books = (s.saw w).books.filter fun x => decide (x.tag ≠ b.tag))
    (hoffers : r.offers = (s.saw w).offers) : (s.setSaw w r).Steady := by
  have hshelf := h.tidy.shelves w
  refine h.setSaw ?_ ?_ fun _ => by rw [hoffers]
  · rw [hbooks]
    exact hshelf.filter _
  · rw [hbooks]
    exact hshelf.assembles_filter hb hs

theorem State.Steady.requestAbort {s : State} (h : s.Steady) (w : Saw) (tag : Word) :
    (s.updateBook w tag Book.requestAbort).Steady :=
  h.setSaw ((h.tidy.shelves w).updateAssembling (fun _ => rfl) fun b hb _ _ => (h.tidy.shelves w).lifts b hb)
    (assembles_updateAssembling (fun _ => rfl) (fun _ => rfl) fun _ => rfl) fun _ => rfl

theorem State.Steady.abortRecord {s : State} (h : s.Steady) {w : Saw} {b : Book} (hb : b ∈ (s.saw w).books) :
    (s.abortRecord w b).1.Steady := by
  unfold State.abortRecord
  split
  · next hq => exact (State.sameWork_push _ _ _).steady (h.removeBook hb (by rw [hq]; decide) (by rfl) (by rfl))
  · dsimp only
    split
    · exact h
    · unfold State.actOnAbortBy
      split
      · exact (h.requestAbort w b.tag).actOnAbort _
      · exact h.requestAbort w b.tag
  · exact h

theorem State.Steady.bookAbort {s : State} (h : s.Steady) (w : Saw) (ws : List Word) : (s.bookAbort w ws).1.Steady := by
  unfold State.bookAbort
  split
  · exact h.refuseFree _ _
  · split
    · next b hb => exact h.abortRecord (List.mem_of_find?_eq_some hb)
    · exact h

theorem SawRecord.oldestReleased_spec {r : SawRecord} {b : Book} (h : r.oldestReleased = some b) :
    b ∈ r.books ∧ b.state = .released := by
  unfold SawRecord.oldestReleased at h
  exact ⟨List.mem_of_find?_eq_some h, by simpa using List.find?_some h⟩

theorem State.Steady.bookTaken {s : State} (h : s.Steady) (w : Saw) (ws : List Word) : (s.bookTaken w ws).1.Steady := by
  unfold State.bookTaken
  split
  · exact h.refuseFree _ _
  · split
    · next b hb =>
      obtain ⟨hmem, hstate⟩ := SawRecord.oldestReleased_spec hb
      split
      · exact (State.sameWork_opportunity _).steady (h.removeBook hmem (by rw [hstate]; decide) (by rfl) (by rfl))
      · exact h
    · exact (State.sameWork_opportunity _).steady ((s.sameWork_setSaw (by rfl) (by rfl)).steady h)

/-! ## REMNANT_OFFER -/

theorem State.Steady.remnantOffer {s : State} (h : s.Steady) (w : Saw) (ws : List Word) : (s.remnantOffer w ws).1.Steady := by
  refine State.unless_keeps h fun _ => (State.sameWork_opportunity _).steady (h.setSaw (h.tidy.shelves w) (fun _ _ => Iff.rfl) fun k => ?_)
  simp [heldOffers]

/-! ## TABLE_STATE -/

theorem State.Steady.setTable {s : State} (h : s.Steady) (w : Saw) (t : TableState) : (s.setTable w t).Steady :=
  (s.sameWork_setSaw (by rfl) (by rfl)).steady h

/-- A gantry in HOVER_HOLD holds a panel for a book of the saw whose table it is over. -/
theorem State.Steady.holding {s : State} (h : s.Steady) {g : Gantry} (hs : (s.gantry g).state = .hoverHold) :
    ∃ v t tag, (s.gantry g).hold = some v ∧ t.kind = .book v.saw tag ∧ t.phase = .holding ∧ (s.gantry g).carried.isSome ∧
      (s.setGantry g { s.gantry g with hold := none }).Bearing g t := by
  have hr := (h.gantry g).record
  have hw := hr.work
  rw [hs] at hw
  obtain ⟨⟨-, haside, hformer, -⟩, v, t, tag, hv, ht, hp, hk⟩ := hw
  have hsound := hr.task t ht
  have hcarried : (s.gantry g).carried.isSome = true := by rw [hsound.head, hp]; rfl
  refine ⟨v, t, tag, hv, hk, hp, hcarried, ?_, ?_, (h.gantry g).room.setGantry rfl rfl⟩
  · have hown := h.but g
    rw [GantryRecord.claim, GantryRecord.job, ht] at hown
    exact hown.setGantry rfl rfl rfl
  · rw [State.setGantry_gantry_same]
    exact ⟨ht, hsound, haside, hformer, rfl, by simpa [hs] using hr.fault⟩

theorem State.Steady.endHold {s : State} (h : s.Steady) (w : Saw) (g : Gantry) : (s.endHold w g).Steady := by
  unfold State.endHold
  split
  · next hover =>
    obtain ⟨hs, hsaw⟩ := of_decide_eq_true hover
    obtain ⟨v, t, tag, hv, hk, hp, hc, hb⟩ := h.holding hs
    rw [hv] at hsaw
    cases hsaw
    exact hb.beginPlace hk (by rw [State.setGantry_gantry_same]; exact hc) (by rw [hp]; decide)
  · exact h

theorem State.Steady.tableState {s : State} (h : s.Steady) (w : Saw) (ws : List Word) : (s.tableState w ws).1.Steady := by
  unfold State.tableState State.reportTable
  split
  · exact h.refuseFree _ _
  · dsimp only
    split
    · exact ((h.setTable w _).endHold w .west).endHold w .east
    · exact h.setTable w _

/-! ## The cell commands -/

/-- The cell changes its state where it has a layout; it is OPEN or HALTED where a gantry has a task. -/
theorem State.Sound.setCell {s : State} (h : s.Sound) (hc : s.cell ≠ .noLayout) {c : CellState}
    (hw : ∀ g, (s.gantry g).task ≠ none → (s.setCell c).Working) : (s.setCell c).Steady where
  tidy := ⟨fun _ => h.apart_of_working hc, h.shelves, h.store.stocked.congr rfl rfl rfl rfl rfl (fun _ => rfl) fun _ => rfl⟩
  gantry g :=
    have ho := (h.inOrder g).owns
    ⟨h.work.gantry g, ⟨ho.claims, ho.picked, ho.books, ho.offers,
        fun hj => hw g fun hn => hj (by exact congrArg (Option.map Task.kind) hn)⟩,
      (h.inOrder g).room⟩

theorem State.task_of_tasks {s : State} (h : s.tasks = 0) (g : Gantry) : (s.gantry g).task = none := by
  unfold State.tasks at h
  obtain ⟨hwest, heast⟩ := Nat.add_eq_zero_iff.mp h
  cases g with
  | west => simpa using hwest
  | east => simpa using heast

theorem State.Sound.close {s : State} (h : s.Sound) (hc : s.cell ≠ .noLayout) : s.close.1.Steady := by
  unfold State.close
  split
  · exact h.steady
  · next ht => exact h.setCell hc fun g hg => absurd (State.task_of_tasks (Nat.eq_zero_of_not_pos ht) g) hg

theorem State.Steady.mapCounters {s : State} (h : s.Steady) (f : Counter → Counter) (k : Timer → Timer) :
    (s.mapCounters f k).Steady := by
  have hmap {t : State} (ht : t.Steady) (g : Gantry) : (t.setGantry g ((t.gantry g).mapCounters f)).Steady := by
    have hr := (ht.gantry g).record
    exact ht.setRecord ⟨hr.task, hr.empty, hr.fault, hr.work⟩ rfl rfl rfl rfl
  have hboth := hmap (hmap h .west) .east
  refine State.SameWork.steady ?_ hboth
  exact ⟨rfl, rfl, rfl, rfl, rfl, rfl, rfl, fun w => by cases w <;> exact ⟨rfl, rfl⟩⟩

/-! ## The clock -/

theorem State.Steady.tick {s : State} (h : s.Steady) : s.tick.Steady := by
  refine State.SameWork.steady (s := s) ?_ h
  exact ⟨rfl, rfl, rfl, rfl, rfl, rfl, rfl, fun w => by cases w <;> exact ⟨rfl, rfl⟩⟩

end Sys2Proof.Machine
end

section
/-! PROOFS. The commands, messages and timed events of the gantries keep everything in order (R99 to R101, R105 to R119). -/

namespace Sys2Proof.Machine

/-! ## Records at rest -/

/-- A gantry's record is replaced by a sound one with the same task and panels, whose reservation lies clear of the other's. -/
theorem State.Steady.setRecord_clear {s : State} (h : s.Steady) {g : Gantry} {r : GantryRecord} (hr : r.Sound)
    (htask : r.task = (s.gantry g).task) (hcarried : r.carried = (s.gantry g).carried)
    (hpanels : r.panels = (s.gantry g).panels) {v : Span} (hv : r.reservation = some v) (hclear : s.isClear g v = true) :
    (s.setGantry g r).Steady := by
  refine ((h.but g).setGantry_clear (r := r) hpanels ?_ hv hclear).steady ?_ ?_ ?_ ((h.gantry g).room.setGantry htask hcarried)
  · rw [GantryRecord.blank, GantryRecord.blank, htask]
  · rw [State.setGantry_gantry_same]; exact hr
  · rw [State.setGantry_gantry_same, GantryRecord.claim, GantryRecord.claim, htask]
  · rw [State.setGantry_gantry_same, GantryRecord.job, GantryRecord.job, htask]

/-- A gantry that is OFFLINE, IDLE or PARKED rests without a task, a hold, a panel or a fault. -/
structure GantryRecord.Vacant (r : GantryRecord) : Prop where
  rest : r.AtRest
  hold : r.hold = none
  task : r.task = none
  carried : r.carried = none
  fault : r.fault = none

theorem GantryRecord.Sound.vacant {r : GantryRecord} (h : r.Sound) (hs : r.state = .offline ∨ r.state = .idle ∨ r.state = .parked) :
    r.Vacant := by
  have hw := h.work
  have hf := h.fault
  rcases hs with hs | hs | hs <;> rw [hs] at hw hf <;> obtain ⟨hrest, hhold, htask⟩ := hw <;>
    exact ⟨hrest, hhold, htask, h.empty htask, by simpa using hf⟩

theorem GantryRecord.Vacant.sound {r : GantryRecord} (h : r.Vacant) (hs : r.state = .offline ∨ r.state = .idle ∨ r.state = .parked) :
    r.Sound := by
  refine ⟨fun t ht => ?_, fun _ => h.carried, ?_, ?_⟩
  · rw [h.task] at ht
    cases ht
  · rw [h.fault]
    rcases hs with hs | hs | hs <;> simp [hs]
  · rcases hs with hs | hs | hs <;> rw [hs] <;> exact ⟨h.rest, h.hold, h.task⟩

/-! ## Links and drive faults -/

/-- A second cause changes nothing of a gantry but its fault record, and there the panel stays (R111). -/
theorem State.secondCause_record {s : State} {g : Gantry} (h : (s.gantry g).Sound) (cause : FaultCause) :
    ∃ r : GantryRecord, r.Sound ∧ r.task = (s.gantry g).task ∧ r.carried = (s.gantry g).carried ∧
      r.panels = (s.gantry g).panels ∧ r.reservation = (s.gantry g).reservation ∧
      (s.setGantry g r).SameWork (s.secondCause g cause) := by
  have same : (s.setGantry g (s.gantry g)).SameWork s :=
    ⟨rfl, rfl, rfl, rfl, rfl, rfl, (PerGantry.set_get s.gantries g).symm, fun _ => ⟨rfl, rfl⟩⟩
  unfold State.secondCause
  split
  · next f hf =>
    split
    · let q : GantryRecord := { s.gantry g with fault := some { f with second := some ⟨cause, s.clock⟩ } }
      refine ⟨q, ⟨h.task, h.empty, ?_, h.work⟩, rfl, rfl, ?_, rfl, State.sameWork_latch _ _ _⟩
      · simpa [q, hf] using h.fault
      · rw [GantryRecord.panels, GantryRecord.panels, hf]
        rfl
    · exact ⟨_, h, rfl, rfl, rfl, rfl, same⟩
  · exact ⟨_, h, rfl, rfl, rfl, rfl, same⟩

theorem State.Steady.secondCause {s : State} (h : s.Steady) (g : Gantry) (cause : FaultCause) : (s.secondCause g cause).Steady := by
  obtain ⟨r, hr, htask, hcarried, hpanels, hspan, hsame⟩ := State.secondCause_record (h.gantry g).record cause
  exact hsame.steady (h.setRecord hr htask hcarried hpanels (by rw [hspan]; rfl))

theorem State.Steady.gantryLinkLost {s : State} (h : s.Steady) (g : Gantry) : (s.gantryLinkLost g).Steady := by
  have hr := (h.gantry g).record
  have idle (hs : (s.gantry g).state = .idle ∨ (s.gantry g).state = .parked) :
      (s.setGantry g { s.gantry g with state := .offline }).Steady := by
    have hv := hr.vacant (.inr hs)
    exact h.setRecord (GantryRecord.Vacant.sound ⟨hv.rest, hv.hold, hv.task, hv.carried, hv.fault⟩ (.inl rfl)) rfl rfl rfl rfl
  unfold State.gantryLinkLost
  split
  case h_1 | h_2 => exact h
  case h_3 hs => exact idle (.inl hs)
  case h_4 hs => exact idle (.inr hs)
  case h_5 hs | h_6 hs | h_7 hs | h_8 hs => exact h.becomeFaulted (by rw [hs]; decide) _ _
  case h_9 => exact h.secondCause g _

theorem State.Steady.roleLinkLost {s : State} (h : s.Steady) (p : Port) : (s.roleLinkLost p).Steady := by
  cases p with
  | planner => exact h
  | saw w => exact (s.sameWork_setSaw (by rfl) (by rfl)).steady h
  | gantry g => exact h.gantryLinkLost g

theorem State.Steady.carrierLoss {s : State} (h : s.Steady) (p : Port) : (s.carrierLoss p).Steady := by
  unfold State.carrierLoss
  split
  · exact (((s.sameWork_setPort _ _).steady h).roleLinkLost p).settle
  · exact h

theorem State.Steady.carrierReturn {s : State} (h : s.Steady) (p : Port) : (s.carrierReturn p).Steady := by
  unfold State.carrierReturn
  split
  · exact h
  · have ht := (s.sameWork_setPort p (PortRecord.wake { s.port p with carrierUp := true, flowGo := true })).steady h
    refine State.Steady.settle ?_
    unfold State.roleLinkBack
    split
    · exact (State.sameWork_opportunity _).steady ht
    · exact ht

/-- An event counts on a gantry's record and then faults the gantry. -/
theorem State.Steady.countedFault {s : State} (h : s.Steady) {g : Gantry} {r : GantryRecord} (hr : r.Sound)
    (htask : r.task = (s.gantry g).task) (hcarried : r.carried = (s.gantry g).carried)
    (hpanels : r.panels = (s.gantry g).panels) (hspan : r.reservation.getD ⟨0, 0⟩ = s.span g) (hs : r.state ≠ .faulted)
    (cause : FaultCause) (n : BitVec 8) : ((s.setGantry g r).becomeFaulted g cause n false).Steady :=
  (h.setRecord hr htask hcarried hpanels hspan).becomeFaulted (by rw [State.setGantry_gantry_same]; exact hs) cause n

theorem State.Steady.gantryFault {s : State} (h : s.Steady) (g : Gantry) (ws : List Word) : (s.gantryFault g ws).1.Steady := by
  unfold State.gantryFault State.driveFault
  split
  · exact h
  · next hs =>
    have hr := (h.gantry g).record
    refine State.Steady.countedFault h ?_ ?_ ?_ ?_ ?_ ?_ _ _
    case refine_6 => exact fun hf => hs (.inr hf)
    · exact ⟨hr.task, hr.empty, hr.fault, hr.work⟩
    all_goals rfl

theorem State.Steady.overrun {s : State} (h : s.Steady) {g : Gantry} (ho : s.overdue g = true) : (s.overrunNow g).Steady := by
  have hs : (s.gantry g).state = .stepping := by
    unfold State.overdue at ho
    exact of_decide_eq_true ((Bool.and_eq_true _ _).mp ho).1
  have hr := (h.gantry g).record
  refine State.Steady.settle (State.Steady.countedFault h ?_ ?_ ?_ ?_ ?_ (fun hf => ?_) _ _)
  · exact ⟨hr.task, hr.empty, hr.fault, hr.work⟩
  case refine_6 =>
    rw [show (s.gantry g).state = .faulted from hf] at hs
    cases hs
  all_goals rfl

/-! ## Steps -/

theorem GantryRecord.outstanding_spec {r : GantryRecord} {token : Nat} {c : Step} {v : Span} (h : r.outstanding token = some (c, v)) :
    r.state = .stepping ∧ r.current = some c ∧ ∃ i, c.issued = some i ∧ i.span = v := by
  unfold GantryRecord.outstanding at h
  split at h
  · next hs =>
    obtain ⟨d, hd, h⟩ := Option.bind_eq_some_iff.mp h
    obtain ⟨i, hi, h⟩ := Option.bind_eq_some_iff.mp h
    split at h
    · cases h
      exact ⟨hs, hd, i, hi, rfl⟩
    · cases h
  · cases h

theorem State.Sound.stepDone {s : State} (h : s.Sound) (g : Gantry) (ws : List Word) : (s.stepDone g ws).1.Steady := by
  unfold State.stepDone
  split
  case h_2 => exact h.steady
  case h_1 c v hc =>
    obtain ⟨hs, hcur, i, hi, rfl⟩ := GantryRecord.outstanding_spec hc
    have hspan : s.span g = i.span := by
      have hiss : (s.gantry g).issued = some i := by rw [GantryRecord.issued, hcur]; exact hi
      rw [State.span, (h.runway.outstanding g i hiss).2]
      rfl
    have hnoted := h.steady.noteOutcome g (stepOutcomeOf (word ws 2))
    have hg : (s.noteOutcome g (stepOutcomeOf (word ws 2))).gantry g = { s.gantry g with lastOutcome := some (stepOutcomeOf (word ws 2)) } :=
      State.setGantry_gantry_same _ _ _
    dsimp only
    unfold State.acceptStep
    split
    · exact hnoted.completeStep (by rw [hg]; exact hs) (by rw [hg]; exact hcur) (by rw [State.span, hg]; exact hspan) _ _
    · refine hnoted.becomeFaulted ?_ _ _
      rw [hg]
      show (s.gantry g).state ≠ .faulted
      rw [hs]
      decide

/-- A yield's requested span lies clear of the other gantry's reservation (R82, R83). -/
theorem State.isClear_travelOnly {s : State} (h : (s.span .west).hi < (s.span .east).lo) (g : Gantry) {c : Step}
    (hk : c.kind = .travelOnly) : s.isClear g (s.requestedSpan g c) = true := by
  rw [State.isClear_iff]
  unfold State.requestedSpan
  rw [hk]
  cases g <;> exact h

/-- A gantry that dwells prepares a step of its task, or a yield. -/
theorem GantryRecord.Sound.dwelling {r : GantryRecord} (h : r.Sound) (hs : r.state = .dwell) {m : Moment} (hm : r.dwellEnd = some m) :
    ∃ c, r.current = some c ∧ ((∃ t, r.Bears t ∧ t.Calls c) ∨ (r.MayYield ∧ c.kind = .travelOnly)) := by
  have hw := h.work
  rw [hs] at hw
  have hfault : r.fault = none := by simpa [hs] using h.fault
  obtain ⟨hhold, ⟨-, -, -, -, hnone, -⟩ | ⟨c, t, hc, ht, hcalls, -, ha, hf, -⟩ | ⟨c, hc, hk, -, -, hcause⟩⟩ := hw
  · rw [hm] at hnone
    cases hnone
  · exact ⟨c, hc, .inl ⟨t, ⟨ht, h.task t ht, ha, hf, hhold, hfault⟩, hcalls⟩⟩
  · exact ⟨c, hc, .inr ⟨⟨h.task, h.empty, hhold, hfault, hcause⟩, hk⟩⟩

theorem State.dwellOver_spec {s : State} {g : Gantry} (h : s.dwellOver g = true) :
    (s.gantry g).state = .dwell ∧ ∃ m, (s.gantry g).dwellEnd = some m := by
  obtain ⟨h1, h2⟩ := (Bool.and_eq_true _ _).mp h
  refine ⟨of_decide_eq_true h1, ?_⟩
  cases hm : (s.gantry g).dwellEnd with
  | none => rw [hm] at h2; cases h2
  | some m => exact ⟨m, rfl⟩

theorem State.Sound.endDwell {s : State} (h : s.Sound) {g : Gantry} (hd : s.dwellOver g = true) : (s.endDwell g).Steady := by
  obtain ⟨hs, m, hm⟩ := State.dwellOver_spec hd
  let q : GantryRecord := { s.gantry g with dwellEnd := none }
  have hg : (s.setGantry g q).gantry g = q := State.setGantry_gantry_same _ _ _
  have hown : (s.setGantry g q).But g (s.gantry g).claim (s.gantry g).job := (h.steady.but g).setGantry rfl rfl rfl
  have hroom : (s.setGantry g q).Room g := (h.inOrder g).room.setGantry rfl rfl
  obtain ⟨c, hc, hwork⟩ := (h.inOrder g).record.dwelling hs hm
  unfold State.endDwell
  dsimp only
  split
  case h_2 hno =>
    rw [hc] at hno
    cases hno
  case h_1 step hstep =>
    obtain rfl : step = c := Option.some.inj (hstep.symm.trans hc)
    show ((State.settleRequest ((s.setGantry g q).request g step ((s.setGantry g q).requestedSpan g step)) g).settle).Steady
    refine State.Steady.settle ?_
    rcases hwork with ⟨t, hb, hcalls⟩ | ⟨hmay, hk⟩
    · refine State.Judged.settleRequest (State.Bearing.request (t := t) ⟨?_, ?_, hroom⟩ hcalls _)
      · rw [← hb.claim, ← hb.job]
        exact hown
      · rw [hg]
        exact ⟨hb.task, hb.sound, hb.aside, hb.former, hb.hold, hb.fault⟩
    · have hapart := h.apart_of_working fun hn => by
        have hoff := h.runway.before (h.runway.noLayout.mp hn) g
        rw [hs] at hoff
        cases hoff
      have hspan (k : Gantry) : (s.setGantry g q).span k = s.span k := by
        rw [State.setGantry_span]
        split
        · next hk => rw [hk]; rfl
        · rfl
      have hclear : (s.setGantry g q).isClear g ((s.setGantry g q).requestedSpan g step) = true :=
        State.isClear_travelOnly (by rw [hspan, hspan]; exact hapart) g hk
      have hmay' : ((s.setGantry g q).gantry g).MayYield := by
        rw [hg]
        exact ⟨hmay.task, hmay.empty, hmay.hold, hmay.fault, hmay.cause⟩
      have he : State.settleRequest ((s.setGantry g q).request g step ((s.setGantry g q).requestedSpan g step)) g =
          (s.setGantry g q).issue g step ((s.setGantry g q).requestedSpan g step) := by
        simp only [State.request, hk, State.requestYield]
        rw [if_pos hclear]
        rfl
      rw [he]
      exact (State.sameWork_push _ _ _).steady (State.But.steady_moved (by rw [hg]; exact hown) hroom (d := none)
        (hmay'.moved_sound hk ⟨rfl, rfl, rfl⟩ (by decide)) (.inr ⟨_, rfl, hclear⟩))

theorem State.Steady.timeOutHold {s : State} (h : s.Steady) {g : Gantry} (ho : s.holdOverdue g = true) : (s.timeOutHold g).Steady := by
  obtain ⟨v, t, tag, -, hk, hp, -, hb⟩ := h.holding (of_decide_eq_true ((Bool.and_eq_true _ _).mp ho).1)
  exact (hb.endHovering hk (by rw [hp]; decide) _).settle

/-! ## GANTRY_PARK and GANTRY_READY -/

theorem State.Steady.gantryPark {s : State} (h : s.Steady) (g : Gantry) : (s.gantryPark g).1.Steady := by
  unfold State.gantryPark
  split
  · next hs =>
    have hv := (h.gantry g).record.vacant (.inr (.inl hs))
    exact (State.sameWork_latch _ _ _).steady (h.setRecord
      (GantryRecord.Vacant.sound ⟨hv.rest, hv.hold, hv.task, hv.carried, hv.fault⟩ (.inr (.inr rfl))) rfl rfl rfl rfl)
  · exact h

theorem State.readyFailure_none {s : State} {g : Gantry} {x : Nat} (h : s.readyFailure g x = none) :
    (s.gantry g).state = .offline ∧ s.isClear g (s.geom.standing g x) = true := by
  simp only [State.readyFailure, State.positionChecks, firstOf_eq_none_iff, List.forall_mem_cons, checkOf_eq_none_iff] at h
  obtain ⟨hs, -, hclear, -⟩ := h
  exact ⟨by simpa using hs, by simpa using hclear⟩

theorem State.Steady.gantryReady {s : State} (h : s.Steady) (g : Gantry) (ws : List Word) : (s.gantryReady g ws).1.Steady := by
  refine State.unless_keeps h fun hf => ?_
  obtain ⟨hs, hclear⟩ := State.readyFailure_none hf
  have hv := (h.gantry g).record.vacant (.inl hs)
  refine (State.sameWork_retry _ _).steady ((State.sameWork_opportunity _).steady ?_)
  exact h.setRecord_clear (GantryRecord.Vacant.sound ⟨hv.rest, hv.hold, hv.task, hv.carried, hv.fault⟩ (.inr (.inl rfl))) rfl rfl rfl
    rfl hclear

end Sys2Proof.Machine
end

section
/-! PROOFS. The messages that lay panels on a stack, take them off or dispose of them keep everything in order (R28 to R31, R115 to
R117). -/

namespace Sys2Proof.Machine

/-! ## Addresses and unclaimed slots -/

theorem SlotAddress.slot_lt {a : SlotAddress} {lanes bays n : Nat} (h : a.slot lanes bays = some n) : n < lanes * bays := by
  cases a with
  | linear m =>
    simp only [SlotAddress.slot] at h
    split at h
    · next hm => cases h; exact hm
    · cases h
  | grid lane bay =>
    simp only [SlotAddress.slot] at h
    split at h
    · next hg =>
      cases h
      obtain ⟨hlane, hlo, hhi⟩ := hg
      calc lane * bays + (bay - 1) < lane * bays + bays := by omega
        _ = (lane + 1) * bays := (Nat.succ_mul lane bays).symm
        _ ≤ lanes * bays := Nat.mul_le_mul_right bays hlane
    · cases h

/-- An address in range names one of the layout's slots. -/
theorem State.Sound.addressed_lt {s : State} (h : s.Sound) (hc : s.cell ≠ .noLayout) {a n : Nat} (ha : s.addressed a = some n) :
    n < s.slots.length := by
  have hn := SlotAddress.slot_lt ha
  obtain ⟨l, hl⟩ : ∃ l, s.layout = some l :=
    Option.ne_none_iff_exists'.mp fun hnone => hc (h.runway.noLayout.mpr hnone)
  rw [h.slots.count, hl]
  rwa [State.geom, hl] at hn

/-- The stack of a slot that no task claims is replaced, with the free list and the serial counter. -/
theorem State.Steady.restock {s : State} (h : s.Steady) {n : Nat} {r : Slot} {f : FreeList} {k : Nat} {new : Option Panel}
    (hx : s.Exchanges n r .west (s.gantry .west) f k new) (hwas : (s.slot n).claim = none) (hnow : r.claim = none) :
    ({ s with slots := s.slots.set n r, free := f, serialCounter := k } : State).Steady := by
  let t := s.exchanged n r .west (s.gantry .west) f k
  have hleaves (g : Gantry) : s.Leaves t g := by
    refine ⟨rfl, rfl, rfl, rfl, fun m p hm => ?_, fun _ _ => Iff.rfl, fun _ => rfl⟩
    by_cases hmn : m = n
    · subst hmn
      have hslot : t.slot m = r := hx.slot
      rw [hslot, hnow, hwas] at hm
      rcases hm with hm | hm <;> cases hm
    · exact s.exchanged_slot_of_ne _ _ f k hmn
  exact ⟨⟨h.tidy.apart, h.tidy.shelves, h.tidy.stocked.exchanged hx⟩, fun g => (hleaves g).inOrder (h.gantry g)⟩

/-! ## STACK_REGISTER -/

/-- A slot takes entries: nobody claims it, and the pool and the limits of the stack have room for them (TABLE 2.3). -/
structure State.TakesEntries (s : State) (n : Nat) (es : List StackEntry) : Prop where
  steady : s.Steady
  slot : n < s.slots.length
  claim : (s.slot n).claim = none
  free : es.length ≤ s.freeCount
  count : (s.slot n).stack.length + es.length ≤ 40
  height : s.height n + s.entriesHeight es ≤ s.geom.maxStackHeight

theorem State.registered_kind (s : State) (e : StackEntry) : (s.registered e).kind = e.kind := by
  unfold State.registered
  split <;> rfl

theorem State.TakesEntries.registerOne {s : State} {n : Nat} {e : StackEntry} {es : List StackEntry}
    (h : s.TakesEntries n (e :: es)) : (s.registerOne n e).TakesEntries n es := by
  let p := s.registered e
  let r : Slot := { s.slot n with stack := (s.slot n).stack ++ [p] }
  have hfree := h.free
  have hcount := h.count
  have hheight := h.height
  rw [List.length_cons] at hfree hcount
  rw [State.entriesHeight, List.map_cons, List.sum_cons] at hheight
  have hcons := FreeList.order_eq_cons (f := s.free) (List.ne_nil_of_length_pos (by rw [← State.freeCount_eq]; omega))
  have hstack : s.heightOf r.stack = s.height n + s.thickness e.kind := by
    rw [State.heightOf_append, ← s.registered_kind e]
    simp [State.height, State.heightOf, p]
  have hslot : (s.setSlot n r).slot n = r := by rw [State.slot_setSlot, if_pos h.slot]
  have hnew := h.steady.tidy.stocked.serialToGive
  have hx : s.Exchanges n r .west (s.gantry .west) s.free.tail (nextSerial s.serialToGive) (some p) := by
    refine ⟨hslot, ?_, ?_, fun q hq => ?_, nextSerial_isSerial hnew.2, ?_, ?_⟩
    · refine List.perm_iff_count.mpr fun a => ?_
      rw [hcons]
      simp only [r, p, List.map_append, List.count_append, List.map_cons, List.map_nil, List.count_cons, List.count_nil,
        State.registered_record]
      omega
    · refine List.Perm.subperm ?_
      simp only [r, Option.toList_some, List.singleton_append, List.append_assoc]
      exact List.perm_middle
    · cases hq
      rw [State.registered_serial]
      exact hnew
    · simp only [r, List.length_append, List.length_singleton]
      omega
    · rw [hstack]
      omega
  have hsteady := h.steady.restock hx h.claim h.claim
  have ht : s.registerOne n e =
      { s with slots := s.slots.set n r, free := s.free.tail, serialCounter := nextSerial s.serialToGive } := by
    simp only [State.registerOne, State.takeRecord, State.giveSerial, State.lay, State.setSlot, r, p, State.slot]
  have hts : (s.registerOne n e).slot n = r := by rw [ht]; exact hslot
  refine ⟨by rw [ht]; exact hsteady, ?_, by rw [hts]; exact h.claim, ?_, ?_, ?_⟩
  · rw [ht]
    simpa using h.slot
  · have htail : (s.registerOne n e).freeCount = s.free.tail.order.length := by rw [State.freeCount_eq, ht]
    rw [State.freeCount_eq, hcons, List.length_cons] at hfree
    omega
  · rw [hts]
    simp only [r, List.length_append, List.length_singleton]
    omega
  · have hof : (s.registerOne n e).height n = s.heightOf r.stack := by rw [State.height, hts, ht]; rfl
    have hes : (s.registerOne n e).entriesHeight es = (es.map fun e => s.thickness e.kind).sum := by rw [ht]; rfl
    have hgeom : (s.registerOne n e).geom = s.geom := by rw [ht]; rfl
    rw [hof, hes, hgeom, hstack]
    omega

theorem State.TakesEntries.registerAll {s : State} {n : Nat} {es : List StackEntry} (h : s.TakesEntries n es) :
    (s.registerAll n es).Steady := by
  induction es generalizing s with
  | nil => exact h.steady
  | cons e es ih => exact ih h.registerOne

theorem State.Sound.takesEntries {s : State} (h : s.Sound) (hc : s.cell ≠ .noLayout) {ws : List Word}
    (hf : s.stackRegisterFailure ws = none) :
    s.TakesEntries ((s.addressed (word ws 0)).getD 0) (stackEntries ws) := by
  unfold State.stackRegisterFailure at hf
  split at hf
  · cases hf
  · cases ha : s.addressed (word ws 0) with
    | none => rw [ha] at hf; cases hf
    | some n =>
      rw [ha] at hf
      simp only [State.stackFailureAt, State.slotChecks, List.cons_append, List.nil_append, firstOf_eq_none_iff,
        List.forall_mem_cons, checkOf_eq_none_iff] at hf
      obtain ⟨-, hclaim, -, -, -, -, hfull, hpool, -⟩ := hf
      have hroom := of_decide_eq_false hfull
      have hfree := of_decide_eq_false hpool
      rw [Option.getD_some]
      exact ⟨h.steady, h.addressed_lt hc ha, by simpa [State.unclaimed] using hclaim, by omega, by omega, by omega⟩

theorem State.Sound.stackRegister {s : State} (h : s.Sound) (hc : s.cell ≠ .noLayout) (ws : List Word) :
    (s.stackRegister ws).1.Steady :=
  State.unless_keeps h.steady fun hf => (h.takesEntries hc hf).registerAll

/-! ## STACK_WITHDRAW and SLOT_RELEASE -/

theorem State.Steady.withdraw {s : State} (h : s.Steady) {n : Nat} (hn : n < s.slots.length) (hc : (s.slot n).claim = none)
    (asked : Nat) : (s.withdraw n asked).Steady := by
  unfold State.withdraw
  split
  · exact h
  · let k := withdrawCount asked (s.slot n).stack.length
    let r : Slot := { s.slot n with stack := (s.slot n).stack.take ((s.slot n).stack.length - k) }
    let f : FreeList := { s.free with returned := s.free.returned ++ ((s.slot n).withdrawn asked).map Panel.record }
    have hstack : (s.slot n).stack = r.stack ++ ((s.slot n).withdrawn asked).reverse := by
      rw [Slot.withdrawn, List.reverse_reverse, List.take_append_drop]
    have hslot : (s.setSlot n r).slot n = r := by rw [State.slot_setSlot, if_pos hn]
    have horder : f.order = s.free.order ++ ((s.slot n).withdrawn asked).map Panel.record := (List.append_assoc _ _ _).symm
    have hx : s.Exchanges n r .west (s.gantry .west) f s.serialCounter none := by
      refine ⟨hslot, List.perm_iff_count.mpr fun a => ?_, ?_, by simp, h.tidy.stocked.counter, ?_⟩
      · rw [horder, hstack]
        simp only [List.map_append, List.count_append, List.map_reverse, List.count_reverse]
        omega
      · exact ((List.take_sublist _ _).append_right _).subperm
      · obtain ⟨h1, h2⟩ := h.tidy.stocked.limits n
        rw [hstack, List.length_append] at h1
        rw [State.height, hstack, State.heightOf_append] at h2
        exact ⟨by omega, by omega⟩
    have hsteady := h.restock hx hc hc
    rw [State.freePanels_eq]
    exact (State.sameWork_storeChange _).steady hsteady

theorem State.Sound.stackWithdraw {s : State} (h : s.Sound) (hc : s.cell ≠ .noLayout) (ws : List Word) :
    (s.stackWithdraw ws).1.Steady := by
  refine State.unless_keeps h.steady fun hf => ?_
  unfold State.withdrawFailure at hf
  split at hf
  · cases hf
  · cases ha : s.addressed (word ws 0) with
    | none => rw [ha] at hf; cases hf
    | some n =>
      rw [ha] at hf
      have hclaim := (checkOf_eq_none_iff _ _ _).mp hf
      exact h.steady.withdraw (h.addressed_lt hc ha) (by simpa [State.unclaimed] using hclaim) _

/-- A slot that is suspect is one of the layout's. -/
theorem State.lt_of_suspect {s : State} {n : Nat} (h : (s.slot n).suspect = true) : n < s.slots.length := by
  by_contra hn
  rw [State.slot, List.getD_eq_getElem?_getD, List.getElem?_eq_none (by omega)] at h
  cases h

theorem State.Sound.releaseSlot {s : State} (h : s.Sound) (n : Nat) : (s.releaseSlot n).Steady := by
  unfold State.releaseSlot
  split
  · next hs =>
    have hc := h.slots.unclaimed hs
    have hx : s.Exchanges n { s.slot n with suspect := false } .west (s.gantry .west) s.free s.serialCounter none :=
      ⟨by rw [State.slot_setSlot, if_pos (State.lt_of_suspect hs)], List.Perm.refl _, List.Subperm.refl _, by simp,
        h.store.counter, h.store.limits n⟩
    exact (State.sameWork_storeChange _).steady (h.steady.restock hx hc hc)
  · exact h.steady

theorem State.Sound.slotRelease {s : State} (h : s.Sound) (ws : List Word) : (s.slotRelease ws).1.Steady := by
  unfold State.slotRelease
  split
  · exact h.steady
  · exact h.releaseSlot _

/-! ## GANTRY_RESTORE -/

/-- What TABLE 6.5 asks of a restore. -/
theorem State.restoreFailure_none {s : State} {g : Gantry} {ws : List Word} (h : s.restoreFailure g ws = none) :
    (s.gantry g).state.restorable = true ∧ s.isClear g (s.geom.standing g (word ws 1)) = true ∧
      s.dispositionFailure g ws = none := by
  simp only [State.restoreFailure, State.positionChecks, List.cons_append, List.nil_append, firstOf_eq_none_iff,
    List.forall_mem_cons, checkOf_eq_none_iff] at h
  obtain ⟨hs, -, hclear, hd, -⟩ := h
  exact ⟨by simpa using hs, by simpa using hclear, hd⟩

/-- A gantry that can be restored rests, and owns nothing but the panel of the restore and a remnant return's offer (R115). -/
structure State.Restorable (s : State) (g : Gantry) : Prop where
  rest : (s.gantry g).AtRest
  hold : (s.gantry g).hold = none
  claim : (s.gantry g).claim = none
  blank : (s.gantry g).blank = none
  panels : (s.gantry g).panels = (s.restorePanel g).toList
  job : ∀ w tag, (s.gantry g).job ≠ some (.book w tag)

theorem State.restorable_of_sound {s : State} {g : Gantry} (h : (s.gantry g).Sound) (hs : (s.gantry g).state.restorable = true) :
    s.Restorable g := by
  have taskless (hw : (s.gantry g).AtRest ∧ (s.gantry g).hold = none ∧ (s.gantry g).task = none)
      (hp : s.restorePanel g = (s.gantry g).fault.bind FaultRecord.panel) : s.Restorable g := by
    obtain ⟨hrest, hhold, htask⟩ := hw
    refine ⟨hrest, hhold, by rw [GantryRecord.claim, htask]; rfl, by rw [GantryRecord.blank, htask]; rfl, ?_, ?_⟩
    · rw [GantryRecord.panels, h.empty htask, hp]
      rfl
    · rw [GantryRecord.job, htask]
      simp
  have hw := h.work
  cases hstate : (s.gantry g).state <;> rw [hstate] at hs hw <;> try cases hs
  case offline | parked =>
    refine taskless hw ?_
    have hfault : (s.gantry g).fault = none := by simpa [hstate] using h.fault
    rw [State.restorePanel, hstate, hfault]
    rfl
  case faulted => exact taskless hw (by rw [State.restorePanel, hstate])
  case stranded =>
    obtain ⟨hrest, hhold, hphase⟩ := hw
    obtain ⟨t, ht, hp⟩ := Option.map_eq_some_iff.mp hphase
    have hsound := h.task t ht
    have hfault : (s.gantry g).fault = none := by simpa [hstate] using h.fault
    refine ⟨hrest, hhold, ?_, ?_, ?_, ?_⟩
    · rw [GantryRecord.claim, ht]
      show t.claim = none
      rw [Task.claim, if_neg (by rw [hp]; decide),
        hsound.no_destination (by rw [hp]; decide) (by rw [hp]; decide)]
      rfl
    · rw [GantryRecord.blank, ht]
      exact hsound.no_blank (by rw [hp]; decide)
    · rw [GantryRecord.panels, hfault, State.restorePanel, hstate]
      simp
    · have hkind := hsound.kind
      rw [hp] at hkind
      rw [GantryRecord.job, ht]
      simpa using hkind

/-- A gantry's record with its head and its fault record empty. -/
def GantryRecord.unburdened (r : GantryRecord) : GantryRecord := { r with carried := none, fault := none }

/-- The panel of a restore is laid on a slot or goes back to FREE, or there is none (R116, step 1). -/
theorem State.Sound.disposePanel {s : State} (h : s.Sound) (hc : s.cell ≠ .noLayout) {g : Gantry} {ws : List Word}
    (hr : s.Restorable g) (hf : s.dispositionFailure g ws = none) :
    ((s.disposePanel g ws).setGantry g (s.gantry g).unburdened).But g none (s.gantry g).job := by
  have hown := h.steady.but g
  rw [hr.claim] at hown
  have hblank : (s.gantry g).unburdened.blank = none := hr.blank
  have head {f : FreeList} (horder : f.order = s.free.order ++ (s.restorePanel g).toList.map Panel.record) :
      ({ s with gantries := s.gantries.set g (s.gantry g).unburdened, free := f, serialCounter := s.serialCounter } : State).But g
        none (s.gantry g).job := by
    refine hown.setHead (new := none) rfl ?_ (List.nil_subperm) (by simp) h.store.counter
    rw [hr.panels, hr.blank, hblank, horder]
    simp [GantryRecord.panels, GantryRecord.unburdened]
  unfold State.dispositionFailure at hf
  unfold State.disposePanel
  cases hp : s.restorePanel g with
  | none =>
    refine State.SameWork.but ?_ (head (f := s.free) (by rw [hp]; simp))
    exact ⟨rfl, rfl, rfl, rfl, rfl, rfl, rfl, fun _ => ⟨rfl, rfl⟩⟩
  | some p =>
    rw [hp] at hf
    cases hn : s.restoreSlot g ws with
    | none =>
      refine State.SameWork.but ?_ (head (f := s.free.return p.record) (by rw [hp]; exact s.free.order_return _))
      exact ⟨rfl, rfl, rfl, rfl, rfl, rfl, rfl, fun _ => ⟨rfl, rfl⟩⟩
    | some n =>
      unfold State.restoreSlot at hn
      split at hn
      case isFalse => cases hn
      case isTrue hlay =>
        dsimp only at hf
        rw [if_neg (by omega), if_pos hlay.2, State.placeOnFailure, hn] at hf
        simp only [State.slotChecks, List.cons_append, List.nil_append, firstOf_eq_none_iff, List.forall_mem_cons,
          checkOf_eq_none_iff] at hf
        obtain ⟨-, hclaim, -, hroom, -⟩ := hf
        have hfree : (s.slot n).claim = none := by simpa [State.unclaimed] using hclaim
        have hx : s.Exchanges n { s.slot n with stack := (s.slot n).stack ++ [p] } g (s.gantry g).unburdened s.free
            s.serialCounter none := by
          have hmove : ((s.slot n).stack ++ [p] ++ (s.gantry g).unburdened.panels).Perm
              ((s.slot n).stack ++ (s.gantry g).panels) := by
            rw [hr.panels, hp, List.append_assoc]
            rfl
          refine ⟨by rw [State.slot_setSlot, if_pos (h.addressed_lt hc hn)], ?_, hmove.subperm, by simp, h.store.counter,
            State.limit_of_room (by simpa using hroom)⟩
          rw [hblank, hr.blank]
          exact (hmove.map _).append_left _
        have hbut := hown.exchanged (c' := none) hx rfl (.inr ⟨by simp [hfree], by simp [hfree]⟩) (by simp [hfree])
          (fun _ _ _ => Iff.rfl) (by simp)
        refine State.SameWork.but ?_ hbut
        exact ⟨rfl, rfl, rfl, rfl, rfl, rfl, rfl, fun _ => ⟨rfl, rfl⟩⟩

/-- A STRANDED gantry's offer leaves its saw's list (R116, R168). -/
theorem State.But.endStrandedTask {s : State} {g : Gantry} {c : Option (Nat × Purpose)} (h : s.But g c (s.gantry g).job)
    (hbook : ∀ w tag, (s.gantry g).job ≠ some (.book w tag)) : (s.endStrandedTask g).But g c none := by
  unfold State.endStrandedTask
  split
  · next w hw => exact (h.dropOfferOf (w := w) hw (by rfl) (by rfl)).drop rfl
  · next hoffer =>
    cases hj : (s.gantry g).job with
    | none => exact hj ▸ h
    | some k =>
      cases k with
      | book w tag => exact absurd hj (hbook w tag)
      | remnantReturn w => exact absurd hj (hoffer w)
      | panelReturn => exact h.drop hj

theorem State.endStrandedTask_gantries (s : State) (g : Gantry) : (s.endStrandedTask g).gantries = s.gantries := by
  unfold State.endStrandedTask
  split <;> rfl

theorem State.endStrandedTask_geom (s : State) (g : Gantry) : (s.endStrandedTask g).geom = s.geom := by
  unfold State.endStrandedTask
  split <;> rfl

theorem State.disposePanel_geom (s : State) (g : Gantry) (ws : List Word) : (s.disposePanel g ws).geom = s.geom := by
  unfold State.disposePanel
  split <;> rfl

theorem State.disposePanel_gantries (s : State) (g : Gantry) (ws : List Word) : (s.disposePanel g ws).gantries = s.gantries := by
  unfold State.disposePanel
  split <;> rfl

theorem State.endStrandedTask_setGantry (s : State) (g : Gantry) {r : GantryRecord} (hr : r.task = (s.gantry g).task) :
    (s.setGantry g r).endStrandedTask g = (s.endStrandedTask g).setGantry g r := by
  unfold State.endStrandedTask
  rw [State.setGantry_gantry_same, hr]
  split <;> rfl

theorem GantryRecord.restored_sound {s : State} {g : Gantry} (h : s.Restorable g) (x : Nat) (v : Span) (ws : List Word) :
    ((s.gantry g).restored x v (s.restoredState g ws)).Sound := by
  refine GantryRecord.Vacant.sound ⟨h.rest, h.hold, rfl, rfl, rfl⟩ ?_
  show s.restoredState g ws = .offline ∨ s.restoredState g ws = .idle ∨ s.restoredState g ws = .parked
  unfold State.restoredState
  split
  · split
    · exact .inr (.inl rfl)
    · exact .inl rfl
  · exact .inr (.inr rfl)

theorem State.Sound.restore {s : State} (h : s.Sound) (hc : s.cell ≠ .noLayout) {g : Gantry} {ws : List Word}
    (hf : s.restoreFailure g ws = none) : (s.restore g ws).Steady := by
  obtain ⟨hstate, hclear, hdisp⟩ := State.restoreFailure_none hf
  have hr := State.restorable_of_sound (h.inOrder g).record hstate
  let d := s.disposePanel g ws
  have hdg : d.gantry g = s.gantry g := State.gantry_of_gantries (s.disposePanel_gantries g ws) g
  let u := d.endStrandedTask g
  have hgantries : u.gantries = s.gantries := (d.endStrandedTask_gantries g).trans (s.disposePanel_gantries g ws)
  have hgeom : u.geom = s.geom := (d.endStrandedTask_geom g).trans (s.disposePanel_geom g ws)
  have hug : u.gantry g = s.gantry g := State.gantry_of_gantries hgantries g
  let q := (s.gantry g).restored (word ws 1) (s.geom.standing g (word ws 1)) (s.restoredState g ws)
  have hu : (u.setGantry g (s.gantry g).unburdened).But g none none := by
    have hd := h.disposePanel hc hr hdisp
    have hjob : ((d.setGantry g (s.gantry g).unburdened).gantry g).job = (s.gantry g).job := by
      rw [State.setGantry_gantry_same]
      rfl
    have he := State.But.endStrandedTask (s := d.setGantry g (s.gantry g).unburdened) (g := g) (by rw [hjob]; exact hd)
      (by rw [hjob]; exact hr.job)
    rwa [d.endStrandedTask_setGantry g (by rw [hdg]; rfl)] at he
  have hset : ((u.setGantry g (s.gantry g).unburdened).setGantry g q).But g none none := by
    refine hu.setGantry_clear (v := s.geom.standing g (word ws 1)) ?_ ?_ rfl ?_
    · rw [State.setGantry_gantry_same]
      rfl
    · rw [State.setGantry_gantry_same]
      exact hr.blank.symm
    · rw [State.isClear, State.span, State.setGantry_gantry_other, State.gantry_of_gantries hgantries]
      exact hclear
  have hsame : ((u.setGantry g (s.gantry g).unburdened).setGantry g q).SameWork
      (((u.setGantry g ((u.gantry g).restored (word ws 1) (u.geom.standing g (word ws 1)) (s.restoredState g ws))).latch
        (.gantry g) .serviceChanged).opportunity) := by
    rw [hug, hgeom]
    exact ⟨rfl, rfl, rfl, rfl, rfl, rfl, (PerGantry.set_set _ _ _ _).symm, fun _ => ⟨rfl, rfl⟩⟩
  refine (hsame.trans (State.sameWork_retry _ (otherGantry g))).steady (hset.steady ?_ ?_ ?_ ?_)
  · rw [State.setGantry_gantry_same]
    exact GantryRecord.restored_sound hr _ _ ws
  · rw [State.setGantry_gantry_same]
    rfl
  · rw [State.setGantry_gantry_same]
    rfl
  · exact .of_no_destination (by rw [State.setGantry_gantry_same]; rfl)

theorem State.Sound.gantryRestore {s : State} (h : s.Sound) (hc : s.cell ≠ .noLayout) (g : Gantry) (ws : List Word) :
    (s.gantryRestore g ws).1.Steady :=
  State.unless_keeps h.steady fun hf => h.restore hc hf

end Sys2Proof.Machine
end

section
/-! PROOFS. KIND_SET and the layout, which come where no gantry has a task, keep everything in order (R16, R18, R90, R179 to R182). -/

namespace Sys2Proof.Machine

/-! ## States without a task -/

/-- No gantry has a task, and no slot, book or offer names one. -/
structure State.Taskless (s : State) : Prop where
  record : ∀ g, (s.gantry g).Sound
  task : ∀ g, (s.gantry g).task = none
  claim : ∀ n, (s.slot n).claim = none
  books : ∀ w g tag, ¬Assembles (s.saw w).books g tag
  offers : ∀ w g, ¬HoldsOffer (s.saw w).offers g

theorem State.Sound.taskless {s : State} (h : s.Sound) (hc : s.cell = .closed ∨ s.cell = .noLayout) : s.Taskless := by
  have htask := h.work.closed hc
  have hjob (g : Gantry) : (s.gantry g).job = none := by rw [GantryRecord.job, htask]; rfl
  have hclaim (g : Gantry) : (s.gantry g).claim = none := by rw [GantryRecord.claim, htask]; rfl
  refine ⟨h.work.gantry, htask, fun n => ?_, fun w g tag ha => ?_, fun w g ho => ?_⟩
  · by_contra hne
    obtain ⟨⟨g, p⟩, hk⟩ := Option.ne_none_iff_exists'.mp hne
    have := ((h.inOrder g).owns.claims n p).mp hk
    rw [hclaim] at this
    cases this
  · have := ((h.inOrder g).owns.books w tag).mpr ha
    rw [hjob] at this
    cases this
  · have := ((h.inOrder g).owns.offers w).mpr ho
    rw [hjob] at this
    cases this

/-- Without a task everything is in order where the lists and the store are. -/
theorem State.Taskless.steady {s : State} (h : s.Taskless) (hc : ¬s.Working) (hshelves : ∀ w, ShelfSound (s.saw w).books)
    (hstocked : s.Stocked) : s.Steady := by
  refine ⟨⟨fun hw => absurd hw hc, hshelves, hstocked⟩, fun g => ⟨h.record g, ?_, .of_no_destination (by rw [h.task]; rfl)⟩⟩
  rw [GantryRecord.claim, GantryRecord.job, h.task]
  exact ⟨fun n p => by rw [h.claim]; simp, by simp, fun w tag => by simpa using h.books w g tag,
    fun w => by simpa using h.offers w g, fun hn => absurd rfl hn⟩

/-! ## KIND_SET -/

/-- An entry that passes its checks leaves a kind that is in use as it is (R16). -/
theorem State.kindEntries_keep {s : State} {es : List KindWrite} {earlier : List Nat} (h : s.kindEntriesFailure earlier es = none) :
    ∀ e ∈ es, s.kindInUse e.code = true → e.kind = s.kind e.code := by
  induction es generalizing earlier with
  | nil => simp
  | cons a es ih =>
    rw [State.kindEntriesFailure] at h
    split at h
    · cases h
    · next ha =>
      refine List.forall_mem_cons.mpr ⟨fun hu => ?_, ih h⟩
      by_contra hne
      have hbad : ¬a.Bad earlier := fun hb => by
        rw [State.kindWriteFailure_of_bad s hb] at ha
        cases ha
      rw [State.kindWriteFailure_of_not_bad s hbad, if_pos ⟨hne, hu⟩] at ha
      cases ha

/-- A kind that every entry naming it leaves as it is. -/
theorem State.kind_writeKinds_of_keep (s : State) {es : List KindWrite} {c : Nat} (h : ∀ e ∈ es, e.code = c → e.kind = s.kind c) :
    (s.writeKinds es).kind c = s.kind c := by
  induction es generalizing s with
  | nil => rfl
  | cons e es ih =>
    have hone : (s.writeKinds [e]).kind c = s.kind c := by
      refine (find?_writeKind e.code c e.kind s.kinds).trans ?_
      split
      · next hc => exact h e List.mem_cons_self hc.symm
      · rfl
    have hstep : s.writeKinds (e :: es) = (s.writeKinds [e]).writeKinds es := rfl
    rw [hstep, ih _ fun a ha hc => by rw [hone]; exact h a (List.mem_cons_of_mem _ ha) hc, hone]

/-- The heights of the stacks are the same where the kinds in use are. -/
theorem State.Stocked.writeKinds {s : State} (h : s.Stocked) {es : List KindWrite}
    (hkeep : ∀ e ∈ es, s.kindInUse e.code = true → e.kind = s.kind e.code) : (s.writeKinds es).Stocked := by
  refine ⟨h.pool, h.serials, h.range, h.counter, fun n => ⟨(h.limits n).1, ?_⟩⟩
  have hkind (p : Panel) (hp : p ∈ (s.slot n).stack) : (s.writeKinds es).thickness p.kind = s.thickness p.kind := by
    have huse : s.kindInUse p.kind = true := by
      have hlive : p ∈ s.livePanels := (s.livePanels_perm n .west).symm.subset (by simp [hp])
      simp only [State.kindInUse, Bool.or_eq_true, List.any_eq_true]
      exact .inl ⟨p, hlive, decide_eq_true rfl⟩
    rw [State.thickness, State.thickness, s.kind_writeKinds_of_keep fun e he hc => by rw [← hc]; exact hkeep e he (by rw [hc]; exact huse)]
  have hheight : (s.writeKinds es).height n = s.height n :=
    congrArg List.sum (List.map_congr_left hkind)
  rw [hheight]
  exact (h.limits n).2

theorem State.Sound.kindSet {s : State} (h : s.Sound) (hc : s.cell = .closed) (ws : List Word) : (s.kindSet ws).1.Steady := by
  refine State.unless_keeps h.steady fun hf => ?_
  unfold State.kindSetFailure at hf
  split at hf
  · cases hf
  · have ht := h.taskless (.inl hc)
    exact State.Taskless.steady ⟨ht.record, ht.task, ht.claim, ht.books, ht.offers⟩ (s.not_working_iff.mpr (.inl hc)) h.shelves
      (h.store.stocked.writeKinds (State.kindEntries_keep hf))

/-! ## Stacks that are all empty -/

/-- Where no stack held a panel, fresh slot records take the place of the old ones under any layout. -/
theorem State.Stocked.renewSlots {s t : State} (h : s.Stocked) (hempty : ∀ r ∈ s.slots, r.stack = []) {n : Nat}
    (hslots : t.slots = List.replicate n emptySlot) (hfree : t.free = s.free) (hserial : t.serialCounter = s.serialCounter)
    (hpanels : ∀ g, (t.gantry g).panels = (s.gantry g).panels) (hblank : ∀ g, (t.gantry g).blank = (s.gantry g).blank) :
    t.Stocked := by
  have hnone : s.slots.flatMap Slot.stack = [] := List.flatMap_eq_nil_iff.mpr hempty
  have hfresh : t.slots.flatMap Slot.stack = [] := by
    rw [hslots]
    refine List.flatMap_eq_nil_iff.mpr fun r hr => ?_
    rw [List.eq_of_mem_replicate hr]
    rfl
  have hlive : t.livePanels = s.livePanels := by
    have hw : t.gantries.west.panels = s.gantries.west.panels := hpanels .west
    have he : t.gantries.east.panels = s.gantries.east.panels := hpanels .east
    rw [State.livePanels, State.livePanels, hfresh, hnone, hw, he]
  have hblanks : t.blanks = s.blanks := by
    have hw : t.gantries.west.blank = s.gantries.west.blank := hblank .west
    have he : t.gantries.east.blank = s.gantries.east.blank := hblank .east
    show t.gantries.west.blank.toList ++ t.gantries.east.blank.toList = _
    rw [hw, he]
    rfl
  refine ⟨by rw [hfree, hblanks, hlive]; exact h.pool, by rw [hlive]; exact h.serials, by rw [hlive]; exact h.range,
    by rw [hserial]; exact h.counter, fun m => ?_⟩
  have hslot : (t.slot m).stack = [] := by
    rw [State.slot, hslots, List.getD_eq_getElem?_getD, List.getElem?_replicate]
    split <;> rfl
  rw [State.height, hslot]
  exact ⟨Nat.zero_le _, Nat.zero_le _⟩

/-! ## The first layout -/

theorem State.slot_claim_of_replicate {s : State} {n : Nat} (h : s.slots = List.replicate n emptySlot) (m : Nat) :
    (s.slot m).claim = none := by
  rw [State.slot, h, List.getD_eq_getElem?_getD, List.getElem?_replicate]
  split <;> rfl

theorem GantryRecord.Sound.atHome {r : GantryRecord} (h : r.Sound) (l : Layout) (g : Gantry) : (r.atHome l g).Sound :=
  ⟨h.task, h.empty, h.fault, h.work⟩

theorem State.firstLayout_gantry (s : State) (l : Layout) (g : Gantry) :
    (s.firstLayout l).gantry g = (s.gantry g).atHome l g := by
  cases g <;> rfl

theorem State.Sound.firstLayout {s : State} (h : s.Sound) (hl : s.layout = none) (l : Layout) : (s.firstLayout l).Steady := by
  have ht := h.taskless (.inr (h.runway.noLayout.mpr hl))
  have hslots : (s.firstLayout l).slots = List.replicate l.slotCount emptySlot := rfl
  have hnone : s.slots = [] := List.length_eq_zero_iff.mp (by rw [h.slots.count, hl]; rfl)
  refine State.Taskless.steady ⟨fun g => ?_, fun g => ?_, State.slot_claim_of_replicate hslots, ht.books, ht.offers⟩
    (by simp [State.Working, State.firstLayout]) h.shelves ?_
  · rw [State.firstLayout_gantry]
    exact (ht.record g).atHome l g
  · rw [State.firstLayout_gantry]
    exact ht.task g
  · refine h.store.stocked.renewSlots (by simp [hnone]) hslots rfl rfl (fun g => ?_) fun g => ?_
    · rw [State.firstLayout_gantry]
      rfl
    · rw [State.firstLayout_gantry]
      rfl

theorem State.Sound.readEnd {s : State} (h : s.Sound) (answers : Bool) : (s.readEnd answers).Steady := by
  unfold State.readEnd
  split
  · next hl =>
    refine State.Steady.settle ?_
    have same (u : State) (hu : s.SameWork u) : u.Steady := hu.steady h.steady
    unfold State.judgeMemory
    split
    · exact same _ ⟨rfl, rfl, rfl, rfl, rfl, rfl, rfl, fun _ => ⟨rfl, rfl⟩⟩
    · split
      · exact same _ ⟨rfl, rfl, rfl, rfl, rfl, rfl, rfl, fun _ => ⟨rfl, rfl⟩⟩
      · split
        · exact same _ ⟨rfl, rfl, rfl, rfl, rfl, rfl, rfl, fun _ => ⟨rfl, rfl⟩⟩
        · refine State.SameWork.steady ?_ (h.firstLayout (h.runway.reading hl) (layoutOfWords ((s.wordsRead answers).take 44)))
          exact ⟨rfl, rfl, rfl, rfl, rfl, rfl, rfl, fun _ => ⟨rfl, rfl⟩⟩
  · exact h.steady

/-! ## A later layout -/

/-- A gantry without a task that dwells or waits yields; its yield withdrawn, it is IDLE (R90). -/
theorem GantryRecord.Sound.withdrawYield {r : GantryRecord} (h : r.Sound) (ht : r.task = none) : r.withdrawYield.Sound := by
  unfold GantryRecord.withdrawYield
  split
  case isFalse => exact h
  case isTrue hy =>
    have hw := h.work
    have key (hdo : r.hold = none ∧ (r.OpenWait ∨ r.OwnStep ∨ r.Yields)) (hfault : r.fault = none) :
        ({ r with state := r.formerState, current := none, former := none, dwellEnd := none } : GantryRecord).Sound := by
      obtain ⟨hhold, ⟨-, -, -, -, -, hphase⟩ | ⟨_, t, -, hown, -⟩ | ⟨_, -, -, -, -, hcause⟩⟩ := hdo
      · rw [ht] at hphase
        cases hphase
      · rw [ht] at hown
        cases hown
      · have hidle : r.formerState = .idle ∧ r.setAside = none := by
          unfold GantryRecord.formerState
          cases hf : r.former with
          | none =>
            refine ⟨rfl, ?_⟩
            cases ha : r.setAside with
            | none => rfl
            | some a =>
              rw [hf, ha] at hcause
              obtain ⟨-, -, -, t, htask, -⟩ := hcause
              rw [ht] at htask
              cases htask
          | some f =>
            cases ha : r.setAside with
            | some a =>
              rw [hf, ha] at hcause
              cases f <;> exact False.elim hcause
            | none =>
              rw [hf, ha] at hcause
              cases f with
              | idle => exact ⟨rfl, rfl⟩
              | stranded =>
                have hphase : r.task.map Task.phase = some .stranded := hcause
                rw [ht] at hphase
                cases hphase
        exact GantryRecord.Vacant.sound ⟨⟨rfl, hidle.2, rfl, rfl⟩, hhold, ht, h.empty ht, hfault⟩ (.inr (.inl hidle.1))
    have hf := h.fault
    rcases hy.1 with hs | hs <;> rw [hs] at hw hf <;> exact key hw (by simpa using hf)

theorem GantryRecord.withdrawYield_task (r : GantryRecord) : r.withdrawYield.task = r.task := by
  unfold GantryRecord.withdrawYield
  split <;> rfl

theorem GantryRecord.withdrawYield_panels (r : GantryRecord) : r.withdrawYield.panels = r.panels := by
  unfold GantryRecord.withdrawYield
  split <;> rfl

/-- Both gantries' records under a new layout keep their tasks, panels and soundness (R90). -/
theorem State.recompute_both {s : State} (hr : ∀ g, (s.gantry g).Sound) (ht : ∀ g, (s.gantry g).task = none) (l : Layout)
    (g : Gantry) :
    (((s.recompute l .west).recompute l .east).gantry g).Sound ∧
      (((s.recompute l .west).recompute l .east).gantry g).task = none ∧
      (((s.recompute l .west).recompute l .east).gantry g).panels = (s.gantry g).panels := by
  have one (v : Option Span) : ({ (s.gantry g).withdrawYield with reservation := v } : GantryRecord).Sound ∧
      ({ (s.gantry g).withdrawYield with reservation := v } : GantryRecord).task = none ∧
      ({ (s.gantry g).withdrawYield with reservation := v } : GantryRecord).panels = (s.gantry g).panels := by
    have hw := (hr g).withdrawYield (ht g)
    exact ⟨⟨hw.task, hw.empty, hw.fault, hw.work⟩, (s.gantry g).withdrawYield_task.trans (ht g),
      (s.gantry g).withdrawYield_panels⟩
  cases g with
  | west => exact one _
  | east => exact one _

/-- The lists of some saws are emptied, and nothing else of the work or the store differs. -/
structure State.LosesLists (s t : State) : Prop where
  cell : t.cell = s.cell
  kinds : t.kinds = s.kinds
  layout : t.layout = s.layout
  free : t.free = s.free
  serial : t.serialCounter = s.serialCounter
  slots : t.slots = s.slots
  gantries : t.gantries = s.gantries
  saws : ∀ w, ((t.saw w).books = (s.saw w).books ∧ (t.saw w).offers = (s.saw w).offers) ∨
    ((t.saw w).books = [] ∧ (t.saw w).offers = [])

theorem State.LosesLists.trans {s t u : State} (h : s.LosesLists t) (k : t.LosesLists u) : s.LosesLists u where
  cell := k.cell.trans h.cell
  kinds := k.kinds.trans h.kinds
  layout := k.layout.trans h.layout
  free := k.free.trans h.free
  serial := k.serial.trans h.serial
  slots := k.slots.trans h.slots
  gantries := k.gantries.trans h.gantries
  saws w := by
    rcases k.saws w with ⟨hb, ho⟩ | hempty
    · rw [hb, ho]
      exact h.saws w
    · exact .inr hempty

theorem State.losesLists_loseSaw (s : State) (l : Layout) (w : Saw) : s.LosesLists (s.loseSaw l w) := by
  unfold State.loseSaw
  split
  · refine ⟨rfl, rfl, rfl, rfl, rfl, rfl, rfl, fun v => ?_⟩
    have hsaw : ((s.setSaw w { s.saw w with books := [], offers := [] }).latch (.saw w) .resetSeen).saw v =
        if v = w then { s.saw w with books := [], offers := [] } else s.saw v := State.setSaw_saw _ _ _ _
    rw [hsaw]
    split
    · exact .inr ⟨rfl, rfl⟩
    · exact .inl ⟨rfl, rfl⟩
  · exact ⟨rfl, rfl, rfl, rfl, rfl, rfl, rfl, fun _ => .inl ⟨rfl, rfl⟩⟩

section
variable {s t : State} (h : s.LosesLists t)
include h

theorem State.LosesLists.gantry (g : Gantry) : t.gantry g = s.gantry g := State.gantry_of_gantries h.gantries g

theorem State.LosesLists.empty {w : Saw} (hs : (s.saw w).books = [] ∧ (s.saw w).offers = []) :
    (t.saw w).books = [] ∧ (t.saw w).offers = [] := by
  rcases h.saws w with ⟨hb, ho⟩ | hempty
  · rw [hb, ho]
    exact hs
  · exact hempty

theorem State.LosesLists.taskless (hs : s.Taskless) : t.Taskless := by
  refine ⟨fun g => by rw [h.gantry]; exact hs.record g, fun g => by rw [h.gantry]; exact hs.task g,
    fun n => by rw [State.slot_of_slots h.slots]; exact hs.claim n, fun w g tag => ?_, fun w g => ?_⟩
  · rcases h.saws w with ⟨hb, -⟩ | ⟨hb, -⟩ <;> rw [hb]
    · exact hs.books w g tag
    · simp [Assembles]
  · rcases h.saws w with ⟨-, ho⟩ | ⟨-, ho⟩ <;> rw [ho]
    · exact hs.offers w g
    · simp [HoldsOffer]

theorem State.LosesLists.shelf {w : Saw} (hs : ShelfSound (s.saw w).books) : ShelfSound (t.saw w).books := by
  rcases h.saws w with ⟨hb, -⟩ | ⟨hb, -⟩ <;> rw [hb]
  · exact hs
  · exact ⟨List.nodup_nil, by simp⟩

theorem State.LosesLists.stocked (hs : s.Stocked) : t.Stocked :=
  hs.congr h.kinds h.layout h.free h.serial (by rw [h.slots]) (fun g => by rw [h.gantry]) fun g => by rw [h.gantry]
end

theorem State.height_le_tallest (s : State) {n : Nat} (hn : n < s.slots.length) : s.height n ≤ s.tallest := by
  have key (l : List Nat) (m : Nat) : m ≤ l.foldl max m ∧ ∀ x ∈ l, x ≤ l.foldl max m := by
    induction l generalizing m with
    | nil => simp
    | cons a l ih =>
      obtain ⟨h1, h2⟩ := ih (max m a)
      refine ⟨(Nat.le_max_left m a).trans h1, List.forall_mem_cons.mpr ⟨(Nat.le_max_right m a).trans h1, h2⟩⟩
  exact (key _ 0).2 _ (List.mem_map_of_mem (State.mem_slotNumbers.mpr hn))

/-- The lists that absent saws lose under a new layout (R123). -/
theorem State.losesLists_layout (s : State) (l : Layout) :
    s.LosesLists ((((s.loseSaw l .saw1).loseSaw l .saw2).loseSaw l .saw3).loseSaw l .saw4) :=
  (((s.losesLists_loseSaw l _).trans (State.losesLists_loseSaw _ l _)).trans (State.losesLists_loseSaw _ l _)).trans
    (State.losesLists_loseSaw _ l _)

/-- A layout can follow the active one: it has the same slots and no stack is too high for it, or no stack holds a panel. -/
def State.CanFollow (s : State) (l : Layout) : Prop :=
  (s.sameGrid l = true ∧ ∀ n, n < s.slots.length → s.height n ≤ l.maxStackHeight) ∨
    (s.sameGrid l = false ∧ ∀ r ∈ s.slots, r.stack = [])

/-- A layout that passes checks 4 and 5 of TABLE 9.4 can follow the active one. -/
theorem State.layoutConflict_none {s : State} {l : Layout} (h : s.layoutConflict l = none) : s.CanFollow l := by
  unfold State.layoutConflict at h
  cases hg : s.sameGrid l with
  | true =>
    rw [hg] at h
    simp only [if_true] at h
    split at h
    · cases h
    · next ht => exact .inl ⟨hg, fun n hn => (s.height_le_tallest hn).trans (Nat.le_of_not_lt ht)⟩
  | false =>
    rw [hg] at h
    simp only [Bool.false_eq_true, if_false] at h
    cases ho : s.lowestOccupied with
    | some n => rw [ho] at h; cases h
    | none =>
      refine .inr ⟨hg, fun r hr => ?_⟩
      obtain ⟨n, hn, rfl⟩ := List.getElem_of_mem hr
      have hnone := List.find?_eq_none.mp ho n (State.mem_slotNumbers.mpr hn)
      have hslot : s.slot n = s.slots[n] := by
        rw [State.slot, List.getD_eq_getElem?_getD, List.getElem?_eq_getElem hn]
        rfl
      rw [hslot] at hnone
      simpa using hnone

theorem State.LosesLists.canFollow {s t : State} (h : s.LosesLists t) {l : Layout} (hs : s.CanFollow l) : t.CanFollow l := by
  have hgrid : t.sameGrid l = s.sameGrid l := by rw [State.sameGrid, State.geom, h.layout]; rfl
  have hheight (n : Nat) : t.height n = s.height n := by
    simp only [State.height, State.heightOf, State.thickness, State.kind, h.kinds, State.slot_of_slots h.slots]
  unfold State.CanFollow at *
  simpa only [hgrid, hheight, h.slots] using hs

/-- The active layout's place is taken by another one. -/
def State.underLayout (s : State) (l : Layout) : State :=
  { ((s.renumber l).recompute l .west).recompute l .east with layout := some l }

theorem State.nextLayout_eq (s : State) (l : Layout) :
    s.nextLayout l = ((((s.loseSaw l .saw1).loseSaw l .saw2).loseSaw l .saw3).loseSaw l .saw4).underLayout l := rfl

section
variable (s : State) (l : Layout)

theorem State.renumber_gantry (g : Gantry) : (s.renumber l).gantry g = s.gantry g := by
  unfold State.renumber
  split <;> rfl

theorem State.underLayout_cell : (s.underLayout l).cell = s.cell := by
  show (s.renumber l).cell = _
  unfold State.renumber
  split <;> rfl

theorem State.underLayout_kinds : (s.underLayout l).kinds = s.kinds := by
  show (s.renumber l).kinds = _
  unfold State.renumber
  split <;> rfl

theorem State.underLayout_free : (s.underLayout l).free = s.free := by
  show (s.renumber l).free = _
  unfold State.renumber
  split <;> rfl

theorem State.underLayout_serial : (s.underLayout l).serialCounter = s.serialCounter := by
  show (s.renumber l).serialCounter = _
  unfold State.renumber
  split <;> rfl

theorem State.underLayout_saw (w : Saw) : (s.underLayout l).saw w = s.saw w := by
  show (s.renumber l).saw w = _
  unfold State.renumber
  split <;> rfl

theorem State.underLayout_slots :
    (s.underLayout l).slots = if s.sameGrid l then s.slots else List.replicate l.slotCount emptySlot := by
  show (s.renumber l).slots = _
  unfold State.renumber
  split <;> rfl
end

theorem State.Taskless.underLayout {s : State} (h : s.Taskless) (hc : ¬s.Working) (hshelves : ∀ w, ShelfSound (s.saw w).books)
    (hs : s.Stocked) {l : Layout} (hl : s.CanFollow l) : (s.underLayout l).Steady := by
  have hboth (g : Gantry) : ((s.underLayout l).gantry g).Sound ∧ ((s.underLayout l).gantry g).task = none ∧
      ((s.underLayout l).gantry g).panels = (s.gantry g).panels := by
    have hr := State.recompute_both (s := s.renumber l) (fun g => by rw [State.renumber_gantry]; exact h.record g)
      (fun g => by rw [State.renumber_gantry]; exact h.task g) l g
    rwa [State.renumber_gantry] at hr
  have hpanels (g : Gantry) := (hboth g).2.2
  have hblank (g : Gantry) : ((s.underLayout l).gantry g).blank = (s.gantry g).blank := by
    rw [GantryRecord.blank, GantryRecord.blank, (hboth g).2.1, h.task]
  have hstore : (∀ n, ((s.underLayout l).slot n).claim = none) ∧ (s.underLayout l).Stocked := by
    have hslots := s.underLayout_slots l
    rcases hl with ⟨hgrid, hheight⟩ | ⟨hgrid, hempty⟩
    · rw [if_pos hgrid] at hslots
      have hslot := State.slot_of_slots hslots
      refine ⟨fun n => by rw [hslot]; exact h.claim n, ?_⟩
      have hcongr : ({ s.underLayout l with layout := s.layout } : State).Stocked :=
        hs.congr (s.underLayout_kinds l) rfl (s.underLayout_free l) (s.underLayout_serial l) (by rw [← hslots]) hpanels hblank
      refine ⟨hcongr.pool, hcongr.serials, hcongr.range, hcongr.counter, fun n => ⟨(hcongr.limits n).1, ?_⟩⟩
      have he : (s.underLayout l).height n = s.height n := by
        simp only [State.height, State.heightOf, State.thickness, State.kind, s.underLayout_kinds l, hslot]
      rw [he]
      by_cases hn : n < s.slots.length
      · exact hheight n hn
      · rw [State.height, State.slot, List.getD_eq_getElem?_getD, List.getElem?_eq_none (by omega)]
        exact Nat.zero_le _
    · rw [if_neg (by rw [hgrid]; decide)] at hslots
      exact ⟨State.slot_claim_of_replicate hslots,
        hs.renewSlots hempty hslots (s.underLayout_free l) (s.underLayout_serial l) hpanels hblank⟩
  refine State.Taskless.steady ⟨fun g => (hboth g).1, fun g => (hboth g).2.1, hstore.1, fun w => ?_, fun w => ?_⟩ ?_ (fun w => ?_)
    hstore.2
  · rw [s.underLayout_saw]; exact h.books w
  · rw [s.underLayout_saw]; exact h.offers w
  · rw [State.Working, s.underLayout_cell]; exact hc
  · rw [s.underLayout_saw]; exact hshelves w

theorem State.Sound.nextLayout {s : State} (h : s.Sound) (hc : s.cell = .closed ∨ s.cell = .noLayout) {l : Layout}
    (hl : s.layoutConflict l = none) : (s.nextLayout l).Steady := by
  have hu := s.losesLists_layout l
  rw [State.nextLayout_eq]
  refine (hu.taskless (h.taskless hc)).underLayout ?_ (fun w => hu.shelf (h.shelves w)) (hu.stocked h.store.stocked)
    (hu.canFollow (State.layoutConflict_none hl))
  rw [State.Working, hu.cell]
  exact s.not_working_iff.mpr hc

/-! ## LAYOUT_SET -/

theorem State.layoutRefusal_none {s : State} {ws : List Word} (h : s.layoutRefusal ws = none) (hl : s.layout.isSome) :
    s.layoutConflict (carriedLayout ws) = none := by
  unfold State.layoutRefusal at h
  split at h
  · cases h
  · split at h
    · cases h
    · split at h
      · cases h
      · simpa [hl] using h

theorem State.Sound.activate {s : State} (h : s.Sound) (hc : s.cell = .closed ∨ s.cell = .noLayout) {ws : List Word}
    (hf : s.layoutRefusal ws = none) : (s.activate (carriedLayout ws)).Steady := by
  unfold State.activate
  split
  · next hl => exact h.nextLayout hc (State.layoutRefusal_none hf hl)
  · next hl => exact h.firstLayout (by simpa using hl) _

theorem State.Sound.layoutSet {s : State} (h : s.Sound) (hc : s.cell = .closed ∨ s.cell = .noLayout) (ws : List Word) :
    (s.layoutSet ws).1.Steady := by
  unfold State.layoutSet
  split
  · exact h.steady
  · next hf =>
    have ha := h.activate hc hf
    dsimp only
    split
    · refine State.SameWork.steady ?_ ha
      exact ⟨rfl, rfl, rfl, rfl, rfl, rfl, rfl, fun _ => ⟨rfl, rfl⟩⟩
    · exact ha

end Sys2Proof.Machine
end

section
/-! PROOFS. CELL_RESET keeps everything in order (R118, R143, R184). -/

namespace Sys2Proof.Machine

/-! ## The gantries -/

theorem State.sameWork_silentFault (s : State) (g : Gantry) (cause : FaultCause) (n : BitVec 8) :
    (s.faultDisposed g cause n).SameWork (s.becomeFaulted g cause n true) := by
  rw [State.becomeFaulted_eq, if_pos rfl]
  exact State.sameWork_fault _ g cause

/-- What CELL_RESET makes of a gantry: its record is sound and holds no task; the store is sound, and the other gantry's record and
the cell state are as they were. -/
structure State.GantryReset (s t : State) (g : Gantry) : Prop where
  record : (t.gantry g).Sound
  task : (t.gantry g).task = none
  other : t.gantry (otherGantry g) = s.gantry (otherGantry g)
  stocked : t.Stocked
  cell : t.cell = s.cell

section
variable {s : State} {g : Gantry} (hr : (s.gantry g).Sound) (h : s.Stocked)
include hr h

theorem State.gantryReset_faulted (hs : (s.gantry g).state ≠ .faulted) :
    s.GantryReset (s.becomeFaulted g .cellReset 0 true) g := by
  have hsame := s.sameWork_silentFault g .cellReset 0
  have hg (k : Gantry) := State.gantry_of_gantries hsame.gantries k
  refine ⟨by rw [hg, State.faultDisposed_gantry]; exact s.faultedRecord_sound g _ _,
    by rw [hg, State.faultDisposed_gantry]; rfl, by rw [hg, State.faultDisposed_gantry_other],
    hsame.stocked (h.faultDisposed _ _ (hr.no_fault hs)), ?_⟩
  exact (cell_carrying s.cell).becomeFaulted (fun _ _ hc => hc) rfl g _ _ true

theorem State.gantryReset_secondCause (hs : (s.gantry g).state = .faulted) : s.GantryReset (s.secondCause g .cellReset) g := by
  have htask : (s.gantry g).task = none := by
    have hw := hr.work
    rw [hs] at hw
    exact hw.2.2
  obtain ⟨r, hsound, hrt, -, hpanels, -, hsame⟩ := State.secondCause_record hr .cellReset
  have hg (k : Gantry) := State.gantry_of_gantries hsame.gantries k
  refine ⟨?_, ?_, ?_, hsame.stocked (h.setGantry hpanels ?_), hsame.cell⟩
  · rw [hg, State.setGantry_gantry_same]
    exact hsound
  · rw [hg, State.setGantry_gantry_same, hrt]
    exact htask
  · rw [hg, State.setGantry_gantry_other]
  · rw [GantryRecord.blank, GantryRecord.blank, hrt]

/-- A gantry that dwells or waits with an empty head is made IDLE, its BLANK record going back to FREE. -/
theorem State.gantryReset_idle (hc : (s.gantry g).carried = none) (hhold : (s.gantry g).hold = none)
    (hs : (s.gantry g).state ≠ .faulted) : s.GantryReset (s.idleByReset g) g := by
  let q : GantryRecord :=
    { s.gantry g with state := .idle, task := none, current := none, setAside := none, former := none, dwellEnd := none }
  let f : FreeList := ((s.gantry g).blank.map s.free.return).getD s.free
  have he : (s.headExchanged g q f s.serialCounter).SameWork (s.idleByReset g) := by
    unfold State.idleByReset State.freeRecordOpt
    have hb : (s.gantry g).blank = (s.gantry g).task.bind Task.blank := rfl
    cases hbl : (s.gantry g).task.bind Task.blank with
    | none =>
      refine ⟨rfl, rfl, rfl, ?_, rfl, rfl, rfl, fun _ => ⟨rfl, rfl⟩⟩
      show s.free = ((s.gantry g).blank.map s.free.return).getD s.free
      rw [hb, hbl]
      rfl
    | some n =>
      refine ⟨rfl, rfl, rfl, ?_, rfl, rfl, rfl, fun _ => ⟨rfl, rfl⟩⟩
      show s.free.return n = ((s.gantry g).blank.map s.free.return).getD s.free
      rw [hb, hbl]
      rfl
  have hg (k : Gantry) := State.gantry_of_gantries he.gantries k
  have hgg : (s.idleByReset g).gantry g = q := (hg g).trans (PerGantry.get_set_same _ _ _)
  refine ⟨?_, by rw [hgg], (hg _).trans (PerGantry.get_set_other _ _ _),
    he.stocked (h.headExchanged (new := none) ⟨?_, ?_, by simp, h.counter⟩),
    he.cell⟩
  · rw [hgg]
    exact GantryRecord.Vacant.sound ⟨⟨rfl, rfl, rfl, rfl⟩, hhold, rfl, hc, hr.no_fault hs⟩ (.inr (.inl rfl))
  · rw [State.faultFrozen_order]
    show (_ ++ ([] : List Nat) ++ (s.gantry g).panels.map Panel.record).Perm _
    rw [List.append_nil]
  · exact List.Subperm.refl _

theorem State.gantryReset_resetGantry : s.GantryReset (s.resetGantry g) g := by
  have hw := hr.work
  have waiting (hs : (s.gantry g).state ≠ .faulted) (hhold : (s.gantry g).hold = none) :
      s.GantryReset (if (s.gantry g).carried.isSome then s.becomeFaulted g .cellReset 0 true else s.idleByReset g) g := by
    split
    · exact State.gantryReset_faulted hr h hs
    · next hc => exact State.gantryReset_idle hr h (by simpa using hc) hhold hs
  unfold State.resetGantry
  split
  case h_1 hs | h_2 hs | h_3 hs => exact State.gantryReset_faulted hr h (by rw [hs]; decide)
  case h_4 hs | h_5 hs =>
    rw [hs] at hw
    exact waiting (by rw [hs]; decide) hw.1
  case h_6 hs | h_7 hs | h_8 hs =>
    rw [hs] at hw
    exact ⟨hr, hw.2.2, rfl, h, rfl⟩
  case h_9 hs => exact State.gantryReset_secondCause hr h hs
end

/-! ## The cell -/

theorem State.losesLists_resetSaw (s : State) (w : Saw) : s.LosesLists (s.resetSaw w) := by
  refine ⟨rfl, rfl, rfl, rfl, rfl, rfl, rfl, fun v => ?_⟩
  have hsaw : (s.resetSaw w).saw v =
      if v = w then SawRecord.repaced { s.saw w with books := [], offers := [] } s.clock else s.saw v := State.setSaw_saw _ _ _ _
  rw [hsaw]
  split
  · exact .inr ⟨rfl, rfl⟩
  · exact .inl ⟨rfl, rfl⟩

theorem State.resetSaw_lists (s : State) (w : Saw) : ((s.resetSaw w).saw w).books = [] ∧ ((s.resetSaw w).saw w).offers = [] := by
  have hsaw : (s.resetSaw w).saw w = SawRecord.repaced { s.saw w with books := [], offers := [] } s.clock :=
    State.setSaw_saw_same _ _ _
  rw [hsaw]
  exact ⟨rfl, rfl⟩

/-- What CELL_RESET does to the saws. -/
def State.resetSaws (s : State) : State := (((s.resetSaw .saw1).resetSaw .saw2).resetSaw .saw3).resetSaw .saw4

theorem State.losesLists_resetSaws (s : State) : s.LosesLists s.resetSaws :=
  (((s.losesLists_resetSaw _).trans (State.losesLists_resetSaw _ _)).trans (State.losesLists_resetSaw _ _)).trans
    (State.losesLists_resetSaw _ _)

theorem State.resetSaws_lists (s : State) (w : Saw) : (s.resetSaws.saw w).books = [] ∧ (s.resetSaws.saw w).offers = [] := by
  have keep (t : State) (v w : Saw) := (t.losesLists_resetSaw v).empty (w := w)
  cases w with
  | saw1 => exact keep _ _ _ (keep _ _ _ (keep _ _ _ (s.resetSaw_lists _)))
  | saw2 => exact keep _ _ _ (keep _ _ _ (State.resetSaw_lists _ _))
  | saw3 => exact keep _ _ _ (State.resetSaw_lists _ _)
  | saw4 => exact State.resetSaw_lists _ _

/-- What CELL_RESET does last. -/
def State.resetClaims (s : State) : State := { (s.releaseEveryClaim.flushLocator).setPinMode false with duties := .none }

theorem State.resetClaims_claim (s : State) (n : Nat) : (s.resetClaims.slot n).claim = none := by
  have hslots : s.resetClaims.slots = s.slots.map fun r => { r with claim := none } := rfl
  rw [State.slot, hslots, List.getD_eq_getElem?_getD, List.getElem?_map]
  cases s.slots[n]? <;> rfl

theorem State.Stocked.resetClaims {s : State} (h : s.Stocked) : s.resetClaims.Stocked := by
  have hstacks : s.resetClaims.slots.map Slot.stack = s.slots.map Slot.stack := List.map_map
  exact h.congr rfl rfl rfl rfl hstacks (fun _ => rfl) fun _ => rfl

/-- The gantries reset, what remains leaves everything in order. -/
theorem State.Stocked.resetSteady {s : State} (h : s.Stocked) (hc : ¬s.Working) (hr : ∀ g, (s.gantry g).Sound)
    (ht : ∀ g, (s.gantry g).task = none) : s.resetSaws.resetClaims.Steady := by
  have hl := s.losesLists_resetSaws
  have hlists := s.resetSaws_lists
  generalize s.resetSaws = t at *
  have hg (g : Gantry) : t.resetClaims.gantry g = s.gantry g := hl.gantry g
  refine State.Taskless.steady ⟨fun g => by rw [hg]; exact hr g, fun g => by rw [hg]; exact ht g, t.resetClaims_claim,
    fun w g tag => ?_, fun w g => ?_⟩ ?_ (fun w => ?_) (hl.stocked h).resetClaims
  · show ¬Assembles (t.saw w).books g tag
    rw [(hlists w).1]
    simp [Assembles]
  · show ¬HoldsOffer (t.saw w).offers g
    rw [(hlists w).2]
    simp [HoldsOffer]
  · show ¬(t.cell = .opened ∨ t.cell = .halted)
    rw [hl.cell]
    exact hc
  · show ShelfSound (t.saw w).books
    rw [(hlists w).1]
    exact ⟨List.nodup_nil, by simp⟩

theorem State.cellReset_eq (s : State) :
    s.cellReset = (((s.setCell s.cell.afterReset).resetGantry .west).resetGantry .east).resetSaws.resetClaims :=
  rfl

theorem State.not_working_afterReset (s : State) : ¬(s.setCell s.cell.afterReset).Working := by
  show ¬(s.cell.afterReset = .opened ∨ s.cell.afterReset = .halted)
  unfold CellState.afterReset
  split <;> simp

theorem State.Sound.cellReset {s : State} (h : s.Sound) : s.cellReset.Steady := by
  have hstocked : (s.setCell s.cell.afterReset).Stocked := h.store.stocked.congr rfl rfl rfl rfl rfl (fun _ => rfl) fun _ => rfl
  have hwest := State.gantryReset_resetGantry (s := s.setCell s.cell.afterReset) (g := .west) (h.work.gantry .west) hstocked
  rw [State.cellReset_eq]
  have hnot := s.not_working_afterReset
  generalize State.resetGantry (s.setCell s.cell.afterReset) .west = t at *
  have heast : t.GantryReset (t.resetGantry .east) .east :=
    State.gantryReset_resetGantry (by rw [show t.gantry .east = _ from hwest.other]; exact h.work.gantry .east) hwest.stocked
  generalize State.resetGantry t .east = u at *
  have huwest : u.gantry .west = t.gantry .west := heast.other
  refine heast.stocked.resetSteady ?_ (both_gantries .east heast.record ?_) (both_gantries .east heast.task ?_)
  · rw [State.Working, heast.cell, hwest.cell]
    exact hnot
  · show (u.gantry .west).Sound
    rw [huwest]
    exact hwest.record
  · show (u.gantry .west).task = none
    rw [huwest]
    exact hwest.task

end Sys2Proof.Machine
end

section
/-! PROOFS. Every command keeps the work of the gantries and the store sound (R20 to R26, R102, R127, R139, R147, R153, R163, R166). -/

namespace Sys2Proof.Machine

theorem State.Steady.setPort {s : State} (h : s.Steady) (p : Port) (r : PortRecord) : (s.setPort p r).Steady :=
  (s.sameWork_setPort p r).steady h

theorem State.Steady.powerOn (s : State) (n : Nat) : (s.powerOn n).Steady := by
  refine State.SameWork.steady ?_ (State.atPowerOn_sound (s.memoryAtLoss n)).steady
  exact ⟨rfl, rfl, rfl, rfl, rfl, rfl, rfl, fun _ => ⟨rfl, rfl⟩⟩

theorem State.Steady.writeEnd {s : State} (h : s.Steady) (answers : Bool) (left : List Word) : (s.writeEnd answers left).Steady := by
  unfold State.writeEnd
  split
  · refine State.SameWork.steady ?_ h
    exact ⟨rfl, rfl, rfl, rfl, rfl, rfl, rfl, fun _ => ⟨rfl, rfl⟩⟩
  · exact h

theorem State.Steady.kindQuery {s : State} (h : s.Steady) (ws : List Word) : (s.kindQuery ws).1.Steady := by
  unfold State.kindQuery
  split
  · exact h.refuseFree _ _
  · exact h

theorem State.Steady.slotQuery {s : State} (h : s.Steady) (ws : List Word) : (s.slotQuery ws).1.Steady := by
  unfold State.slotQuery
  repeat' split
  all_goals exact h

theorem State.Steady.areaSet {s : State} (h : s.Steady) (ws : List Word) : (s.areaSet ws).1.Steady := by
  refine State.unless_keeps h fun _ => State.SameWork.steady ?_ h
  exact ⟨rfl, rfl, rfl, rfl, rfl, rfl, rfl, fun _ => ⟨rfl, rfl⟩⟩

theorem State.Steady.pacingReached {s : State} (h : s.Steady) (w : Saw) : (s.pacingReached w).Steady := by
  unfold State.pacingReached
  split
  · exact ((State.sameWork_opportunity _).steady ((s.sameWork_setSaw (by rfl) (by rfl)).steady h)).settle
  · exact h

theorem State.Steady.repace {s : State} (h : s.Steady) (w : Saw) : (s.repace w).Steady := by
  unfold State.repace
  split
  · exact h
  · exact (s.sameWork_setSaw (by rfl) (by rfl)).steady h

theorem State.Steady.stepTimer {s : State} (h : s.Steady) (w : Saw) (k : SawTimer) : (s.stepTimer w k).Steady := by
  cases k <;> exact (s.sameWork_setSaw (by rfl) (by rfl)).steady h

/-- Every command leaves everything in order. -/
theorem State.Sound.exec {s t : State} (h : s.Sound) (c : Instr) (ht : exec c s = .next t) : t.Steady := by
  have key := steady_settling
  have hs := h.steady
  cases c <;> obtain ⟨rfl⟩ := ht
  case powerOn => exact State.Steady.powerOn s _
  case layoutReadEnd => exact h.readEnd _
  case layoutWriteEnd => exact hs.writeEnd _ _
  case frameReceived | receiveBufferFull | flowStop | flowGo | frameSent | nextEndMarkedWord => exact hs.setPort _ _
  case carrierLoss => exact hs.carrierLoss _
  case carrierReturn => exact hs.carrierReturn _
  case unknownMessage =>
    split
    · exact hs
    · exact key.process h fun _ h => h.steady
  case layoutSet => exact key.message h fun _ h _ ha => h.layoutSet ((of_decide_eq_true ha).symm) _
  case layoutQuery | areaQuery | countsQuery | statusPeek => exact key.message h fun _ h _ _ => h.steady
  case kindSet => exact key.message h fun _ h _ ha => h.kindSet (of_decide_eq_true ha) _
  case kindQuery => exact key.message h fun _ h _ _ => h.steady.kindQuery _
  case areaSet => exact key.message h fun _ h _ _ => h.steady.areaSet _
  case stackRegister => exact key.message h fun _ h _ ha => h.stackRegister (of_decide_eq_true ha) _
  case stackWithdraw => exact key.message h fun _ h _ ha => h.stackWithdraw (of_decide_eq_true ha) _
  case slotRelease => exact key.message h fun _ h _ _ => h.slotRelease _
  case slotQuery => exact key.message h fun _ h _ _ => h.steady.slotQuery _
  case sawSet => exact key.message h fun _ h _ _ => h.sawSet _
  case sawQuery => exact key.message h fun _ h _ _ => h.sawQuery _
  case gantryPark => exact key.message h fun _ h _ _ => h.steady.gantryPark _
  case gantryRestore => exact key.message h fun _ h _ ha => h.gantryRestore (of_decide_eq_true ha) _ _
  case openCell | resumeCell =>
    refine key.command h fun t h ha => (State.sameWork_opportunity _).steady (h.setCell ?_ fun _ _ => .inl rfl)
    rw [of_decide_eq_true ha]
    decide
  case haltCell =>
    refine key.command h fun t h ha => h.setCell ?_ fun _ _ => .inr rfl
    rw [of_decide_eq_true ha]
    decide
  case closeCell =>
    refine key.command h fun t h ha => h.close ?_
    rcases of_decide_eq_true ha with hc | hc <;> rw [hc] <;> decide
  case latchCounts => exact key.command h fun _ h _ => h.steady.mapCounters Counter.latch Timer.latch
  case clearCounts => exact key.command h fun _ h _ => h.steady.mapCounters (fun _ => .zero) fun _ => .zero
  case locatorFlush => exact key.command h fun _ h _ => (State.sameWork_flushLocator _).steady h.steady
  case pinOn | pinOff =>
    refine key.command h fun _ h _ => State.SameWork.steady ?_ h.steady
    exact ⟨rfl, rfl, rfl, rfl, rfl, rfl, rfl, fun _ => ⟨rfl, rfl⟩⟩
  case cellReset => exact key.command h fun _ h _ => h.cellReset
  case bookRequest => exact key.message h fun _ h _ _ => h.bookRequest _ _
  case bookAbort => exact key.message h fun _ h _ _ => h.steady.bookAbort _ _
  case bookTaken => exact key.message h fun _ h _ _ => h.steady.bookTaken _ _
  case tableState => exact key.message h fun _ h _ _ => h.steady.tableState _ _
  case remnantOffer => exact key.message h fun _ h _ _ => h.steady.remnantOffer _ _
  case gantryReady => exact key.message h fun _ h _ _ => h.steady.gantryReady _ _
  case stepDone => exact key.message h fun _ h _ _ => h.stepDone _ _
  case gantryFault => exact key.message h fun _ h _ _ => h.steady.gantryFault _ _
  case statusQuery => exact key.message h fun _ h _ _ => h.steady.setPort _ _
  case overrun =>
    split
    · next ho => exact hs.overrun ho
    · exact hs
  case dwellEnd =>
    split
    · next hd => exact h.endDwell hd
    · exact hs
  case hoverTimeout =>
    split
    · next ho => exact hs.timeOutHold ho
    · exact hs
  case pacingEnd => exact hs.pacingReached _
  case pacingRuleUnsatisfied => exact hs.repace _
  case sawTimerStep => exact hs.stepTimer _ _
  case cellClockTick => exact hs.tick
  case cellCommand =>
    split
    · exact hs
    · exact key.message h fun _ h _ _ => h.steady

/-- A step from a sound state leaves everything in order. -/
theorem State.Sound.step {s t : State} (h : s.Sound) (ht : step s = .next t) : t.Steady := by
  unfold Sys2Proof.Machine.step at ht
  split at ht
  · next c rest _ => exact State.Sound.exec (s := { s with pending := rest }) (h.withPorts s.ports rest) c ht
  · cases ht
    exact h.steady

/-- Settles O8: the work is a part of `State.Steady`, which each operation keeps with one gantry set aside. -/
theorem soundWorkKept : Obligations.SoundWorkKept := fun _ _ h ht => (h.step ht).workSound

/-- Settles O9: the store is a part of `State.Steady`. -/
theorem soundStoreKept : Obligations.SoundStoreKept := fun _ _ h ht => (h.step ht).storeSound

end Sys2Proof.Machine
end

section
/-! PROOFS. The Area Decoder: the pick area and the put area of a slot (R40, R41), and AREA_SET (R39, R45, R46), whose entries fail one
after another and, where none fails, are written one after another. -/

namespace Sys2Proof.Machine

/-! ## The pick area and the put area -/

/-- The lowest index at which a list meets a condition, the members read through a default. -/
theorem findIdx?_eq_some_iff_getD {α : Type} {c : α → Bool} {xs : List α} {d : α} {i : Nat} :
    xs.findIdx? c = some i ↔ (i < xs.length ∧ c (xs.getD i d) = true) ∧
      ∀ j, j < i → ¬(j < xs.length ∧ c (xs.getD j d) = true) := by
  rw [List.findIdx?_eq_some_iff_getElem]
  constructor
  · rintro ⟨hi, hc, hj⟩
    refine ⟨⟨hi, by simpa [hi] using hc⟩, fun j hji => ?_⟩
    have hj' := hj j hji
    simpa [hji.trans hi] using hj'
  · rintro ⟨⟨hi, hc⟩, hj⟩
    refine ⟨hi, by simpa [hi] using hc, fun j hji => ?_⟩
    have hj' := hj j hji
    simpa [hji.trans hi] using hj'

theorem findIdx?_eq_none_iff_getD {α : Type} {c : α → Bool} {xs : List α} {d : α} :
    xs.findIdx? c = none ↔ ∀ i, ¬(i < xs.length ∧ c (xs.getD i d) = true) := by
  rw [List.findIdx?_eq_none_iff, List.forall_mem_iff_getElem]
  refine forall_congr' fun i => ⟨fun h hc => ?_, fun h hi => ?_⟩
  · simpa [hc.1, h hc.1] using hc.2
  · simpa [hi] using h

/-- A window contains the 2^k slots from its base on, when it is enabled (R39). -/
theorem Window.contains_iff (w : Window) (n : Nat) :
    w.contains n = true ↔ w.enabled = true ∧ w.base ≤ n ∧ n ≤ w.base + 2 ^ w.k - 1 := by
  have hsize : 0 < 2 ^ w.k := Nat.two_pow_pos _
  have hlast : n < w.base + 2 ^ w.k ↔ n ≤ w.base + 2 ^ w.k - 1 := by omega
  rw [Window.contains, Bool.and_eq_true, decide_eq_true_iff, hlast]

/-- The window of an index contains a slot. -/
def State.AreaHolds (s : State) (n i : Nat) : Prop := i < s.windows.length ∧ (s.window i).contains n = true

theorem State.areaHolds_iff (s : State) (n i : Nat) : s.AreaHolds n i ↔ i < s.windows.length ∧
    (s.window i).enabled = true ∧ (s.window i).base ≤ n ∧ n ≤ (s.window i).base + 2 ^ (s.window i).k - 1 :=
  and_congr_right fun _ => (s.window i).contains_iff n

theorem State.pickArea_eq_some_iff (s : State) (n i : Nat) :
    s.pickArea n = some i ↔ s.AreaHolds n i ∧ ∀ j, j < i → ¬s.AreaHolds n j := findIdx?_eq_some_iff_getD

theorem State.pickArea_eq_none_iff (s : State) (n : Nat) : s.pickArea n = none ↔ ∀ i, ¬s.AreaHolds n i :=
  findIdx?_eq_none_iff_getD

/-- The windows that count for a put area: those that contain the slot and are not pick_only (R41). -/
theorem State.areaHolds_and_put_iff (s : State) (n i : Nat) : s.AreaHolds n i ∧ (s.window i).pickOnly = false ↔
    i < s.windows.length ∧ ((s.window i).contains n && !(s.window i).pickOnly) = true := by
  rw [State.AreaHolds, Bool.and_eq_true, Bool.not_eq_true', and_assoc]

theorem State.putArea_eq_some_iff (s : State) (n i : Nat) : s.putArea n = some i ↔
    (s.AreaHolds n i ∧ (s.window i).pickOnly = false) ∧ ∀ j, j < i → ¬(s.AreaHolds n j ∧ (s.window j).pickOnly = false) := by
  simp only [State.areaHolds_and_put_iff]
  exact findIdx?_eq_some_iff_getD

theorem State.putArea_eq_none_iff (s : State) (n : Nat) :
    s.putArea n = none ↔ ∀ i, s.AreaHolds n i → (s.window i).pickOnly = true := by
  have hnone : s.putArea n = none ↔ ∀ i, ¬(s.AreaHolds n i ∧ (s.window i).pickOnly = false) := by
    simp only [State.areaHolds_and_put_iff]
    exact findIdx?_eq_none_iff_getD
  simp only [hnone, not_and, Bool.not_eq_false]

/-- The window that is a slot's put area contains the slot, so that its pick area stands no higher. -/
theorem State.pickArea_of_putArea {s : State} {n i : Nat} (h : s.putArea n = some i) :
    ∃ j, s.pickArea n = some j ∧ j ≤ i ∧ ((s.window j).pickOnly = false → j = i) := by
  obtain ⟨⟨hi, _⟩, hfirst⟩ := (s.putArea_eq_some_iff n i).mp h
  cases hp : s.pickArea n with
  | none => exact absurd hi ((s.pickArea_eq_none_iff n).mp hp i)
  | some j =>
    obtain ⟨hj, hlower⟩ := (s.pickArea_eq_some_iff n j).mp hp
    have hle : j ≤ i := Nat.le_of_not_lt fun hij => hlower i hij hi
    exact ⟨j, rfl, hle, fun hput => hle.eq_of_not_lt fun hji => hfirst j hji ⟨hj, hput⟩⟩

/-- Settles O31: both areas are first indexes over the windows, and the put area's window is one of those the pick area is first of. -/
theorem pickAndPutAreas : Obligations.PickAndPutAreas := by
  intro s n
  simp only [← State.areaHolds_iff]
  exact ⟨s.pickArea_eq_some_iff n, s.pickArea_eq_none_iff n, s.putArea_eq_some_iff n, s.putArea_eq_none_iff n,
    fun _ => State.pickArea_of_putArea⟩

/-! ## AREA_SET: the checks of the entries -/

/-- Entry `i` of an AREA_SET fails checks 2 to 4 of TABLE 3.3. -/
abbrev AreaEntryBad (ws : List Word) (i : Nat) : Prop :=
  7 < (areaWriteAt ws i).index ∨ (∃ j, j < i ∧ (areaWriteAt ws j).index = (areaWriteAt ws i).index) ∨
    8 < (areaWriteAt ws i).k ∨ 1 < (areaWriteAt ws i).enabled ∨ 1 < (areaWriteAt ws i).pickOnly ∨
    1 < (areaWriteAt ws i).remnant

/-- The failure of entry `i` of an AREA_SET, the entries before it having passed (TABLE 3.3). -/
def State.areaFailureAt (s : State) (ws : List Word) (i : Nat) : Option Failure :=
  if AreaEntryBad ws i then some (.badField, i + 1)
  else if s.addressed (areaWriteAt ws i).base = none then some (.badSlot, (areaWriteAt ws i).base)
  else none

section
variable {s : State} {ws : List Word} {i : Nat}

theorem State.areaFailureAt_of_bad (hb : AreaEntryBad ws i) : s.areaFailureAt ws i = some (.badField, i + 1) := if_pos hb

theorem State.areaFailureAt_of_off (hb : ¬AreaEntryBad ws i) (ho : s.addressed (areaWriteAt ws i).base = none) :
    s.areaFailureAt ws i = some (.badSlot, (areaWriteAt ws i).base) := (if_neg hb).trans (if_pos ho)

theorem State.areaFailureAt_of_pass (hb : ¬AreaEntryBad ws i) (ho : s.addressed (areaWriteAt ws i).base ≠ none) :
    s.areaFailureAt ws i = none := (if_neg hb).trans (if_neg ho)

end

/-- The model's checks of entry `i`, against the list of the indexes named before it. -/
theorem State.areaWriteFailure_areaWriteAt (s : State) (ws : List Word) {earlier : List Nat} {i : Nat}
    (he : ∀ c, c ∈ earlier ↔ ∃ j, j < i ∧ (areaWriteAt ws j).index = c) :
    s.areaWriteFailure earlier (i + 1) (areaWriteAt ws i) = s.areaFailureAt ws i := by
  have hnamed : earlier.contains (areaWriteAt ws i).index = true ↔
      ∃ j, j < i ∧ (areaWriteAt ws j).index = (areaWriteAt ws i).index := List.contains_iff_mem.trans (he _)
  simp only [State.areaWriteFailure, State.areaFailureAt, AreaEntryBad, hnamed, ite_or]

/-- The checks of the entries from entry `i` on. -/
theorem State.areaEntriesFailure_from (s : State) (ws : List Word) (m : Nat) {earlier : List Nat} {i : Nat}
    (he : ∀ c, c ∈ earlier ↔ ∃ j, j < i ∧ (areaWriteAt ws j).index = c) :
    s.areaEntriesFailure earlier (i + 1) ((List.range' i m).map (areaWriteAt ws)) =
      (List.range' i m).findSome? (s.areaFailureAt ws) := by
  induction m generalizing earlier i with
  | zero => rfl
  | succ m ih =>
    have he' : ∀ c, c ∈ (areaWriteAt ws i).index :: earlier ↔ ∃ j, j < i + 1 ∧ (areaWriteAt ws j).index = c := fun c => by
      rw [List.mem_cons, he, Nat.exists_lt_succ_right, or_comm, eq_comm]
    simp only [List.range'_succ, List.map_cons, State.areaEntriesFailure, List.findSome?_cons,
      s.areaWriteFailure_areaWriteAt ws he, ih he']
    cases s.areaFailureAt ws i <;> rfl

/-- With 1 to 8 entries an AREA_SET fails with the failure of its first entry that fails (R45). -/
theorem State.areaSetFailure_eq (s : State) {ws : List Word} (h1 : 1 ≤ word ws 0) (h8 : word ws 0 ≤ 8) :
    s.areaSetFailure ws = (List.range (word ws 0)).findSome? (s.areaFailureAt ws) := by
  rw [State.areaSetFailure, if_neg (by omega), areaWrites, List.range_eq_range']
  exact s.areaEntriesFailure_from ws _ fun c => by simp

/-- What a search over a range finds is what it finds at the first number that gives anything. -/
theorem findSome?_range_of_first {α : Type} {f : Nat → Option α} {n i : Nat} {a : α} (hi : i < n) (ha : f i = some a)
    (hj : ∀ j, j < i → f j = none) : (List.range n).findSome? f = some a := by
  obtain ⟨m, rfl⟩ := Nat.exists_eq_add_of_lt hi
  rw [List.findSome?_eq_some_iff]
  exact ⟨List.range i, i, List.range' (i + 1) m, by
    rw [List.range_eq_range', List.range_eq_range', Nat.add_assoc, ← List.range'_append_1, Nat.zero_add,
      List.range'_succ], ha, fun j h => hj j (List.mem_range.mp h)⟩

/-- The checks of an AREA_SET read nothing of the ports. -/
theorem State.areaSetFailure_taken (s : State) (p : Port) (ws : List Word) :
    (s.taken p).areaSetFailure ws = s.areaSetFailure ws := by
  by_cases hw : word ws 0 < 1 ∨ 8 < word ws 0
  · rw [State.areaSetFailure, State.areaSetFailure, if_pos hw, if_pos hw]
  · rw [State.areaSetFailure_eq _ (by omega) (by omega), State.areaSetFailure_eq _ (by omega) (by omega)]
    rfl

/-! ## AREA_SET: the windows written -/

theorem State.writeAreas_cons (s : State) (e : AreaWrite) (es : List AreaWrite) :
    s.writeAreas (e :: es) = (s.writeAreas [e]).writeAreas es := rfl

@[simp] theorem State.writeAreas_windows_length (s : State) (es : List AreaWrite) :
    (s.writeAreas es).windows.length = s.windows.length := by
  induction es generalizing s with
  | nil => rfl
  | cons e es ih => rw [State.writeAreas_cons, ih]; exact List.length_set

/-- Writing an entry changes the window of its own index alone. -/
theorem State.window_writeAreas_singleton (s : State) (e : AreaWrite) (j : Nat) :
    (s.writeAreas [e]).window j = if e.index = j ∧ j < s.windows.length then s.windowOf e else s.window j := by
  have hset : (s.writeAreas [e]).window j = (s.windows.set e.index (s.windowOf e)).getD j .initial := rfl
  rw [hset, State.window, List.getD_eq_getElem?_getD, List.getD_eq_getElem?_getD, List.getElem?_set]
  by_cases hj : e.index = j <;> by_cases hl : j < s.windows.length <;> simp [hj, hl]

/-- A window that no entry of an AREA_SET names stands (R46). -/
theorem State.window_writeAreas_of_forall_ne (s : State) (es : List AreaWrite) (j : Nat) (h : ∀ e ∈ es, e.index ≠ j) :
    (s.writeAreas es).window j = s.window j := by
  induction es generalizing s with
  | nil => rfl
  | cons e es ih =>
    rw [State.writeAreas_cons, ih _ fun e' he => h e' (List.mem_cons_of_mem _ he), State.window_writeAreas_singleton,
      if_neg fun hj => h e List.mem_cons_self hj.1]

/-- Of entries that name different windows each is written (R46). -/
theorem State.window_writeAreas_of_mem (s : State) {es : List AreaWrite} (hd : (es.map AreaWrite.index).Nodup) {e : AreaWrite}
    (he : e ∈ es) (hl : e.index < s.windows.length) : (s.writeAreas es).window e.index = s.windowOf e := by
  induction es generalizing s with
  | nil => cases he
  | cons e' es ih =>
    obtain ⟨hn, hd'⟩ := List.nodup_cons.mp hd
    rw [State.writeAreas_cons]
    rcases List.mem_cons.mp he with rfl | he
    · rw [State.window_writeAreas_of_forall_ne _ _ _ fun e' he' hc => hn (List.mem_map.mpr ⟨e', he', hc⟩),
        State.window_writeAreas_singleton, if_pos ⟨rfl, hl⟩]
    · exact ih _ hd' he (by simpa using hl)

/-- The entries of an AREA_SET name different windows where none of them repeats the index of an earlier one. -/
theorem areaWrites_index_nodup {ws : List Word}
    (h : ∀ i, i < word ws 0 → ∀ j, j < i → (areaWriteAt ws j).index ≠ (areaWriteAt ws i).index) :
    ((areaWrites ws).map AreaWrite.index).Nodup := by
  rw [areaWrites, List.map_map, List.Nodup, List.pairwise_map]
  exact List.pairwise_lt_range.imp_of_mem fun _ hi hji => h _ (List.mem_range.mp hi) _ hji

/-- The windows after an AREA_SET whose entries name different windows of the eight (R39, R46). -/
theorem State.window_writeAreas_areaWrites {s : State} {ws : List Word} (hw : s.windows.length = 8)
    (hindex : ∀ i, i < word ws 0 → (areaWriteAt ws i).index ≤ 7)
    (hnew : ∀ i, i < word ws 0 → ∀ j, j < i → (areaWriteAt ws j).index ≠ (areaWriteAt ws i).index) :
    (∀ i n, i < word ws 0 → s.addressed (areaWriteAt ws i).base = some n →
      (s.writeAreas (areaWrites ws)).window (areaWriteAt ws i).index =
        { enabled := decide ((areaWriteAt ws i).enabled = 1)
          base := n - n % 2 ^ (areaWriteAt ws i).k
          k := (areaWriteAt ws i).k
          pickOnly := decide ((areaWriteAt ws i).pickOnly = 1)
          remnant := decide ((areaWriteAt ws i).remnant = 1) }) ∧
    ∀ j, (∀ i, i < word ws 0 → (areaWriteAt ws i).index ≠ j) → (s.writeAreas (areaWrites ws)).window j = s.window j := by
  refine ⟨fun i n hi hn => ?_, fun j hj => ?_⟩
  · have hmem : areaWriteAt ws i ∈ areaWrites ws := List.mem_map.mpr ⟨i, List.mem_range.mpr hi, rfl⟩
    have hi7 := hindex i hi
    rw [s.window_writeAreas_of_mem (areaWrites_index_nodup hnew) hmem (by omega), State.windowOf, hn, effectiveBase]
    rfl
  · refine s.window_writeAreas_of_forall_ne _ j fun e he => ?_
    obtain ⟨i, hi, rfl⟩ := List.mem_map.mp he
    exact hj i (List.mem_range.mp hi)

/-! ## AREA_SET: the message -/

theorem areaSet_check {ws : List Word} (h : ws.length = 1 + 6 * word ws 0) : Message.areaSet.check .planner ws = none := by
  simp [Message.check, Message.onPort, Message.payloadLength, Message.checkedFields, h]

theorem State.exec_areaSet_refused {s : State} {ws : List Word} {c : RefusalCode} {d : Nat}
    (h : s.Ready .planner ⟨0x05, ws⟩ 1) (hl : ws.length = 1 + 6 * word ws 0) (hn : s.cell = .closed)
    (hf : s.areaSetFailure ws = some (c, d)) :
    exec (.areaSet .planner ws) s = .next (s.answered .planner (.refused 0x05 c (BitVec.ofNat 16 d))) := by
  have hf' : (s.taken .planner).areaSetFailure ws = some (c, d) := (s.areaSetFailure_taken _ _).trans hf
  refine congrArg Host.Outcome.next (State.message_refused h (areaSet_check hl) (by simpa [Message.accepts] using hn) ?_)
  simp only [State.areaSet, hf', State.unless]

theorem State.exec_areaSet_accepted {s : State} {ws : List Word} (h : s.Ready .planner ⟨0x05, ws⟩ 2)
    (hl : ws.length = 1 + 6 * word ws 0) (hn : s.cell = .closed) (hf : s.areaSetFailure ws = none) :
    exec (.areaSet .planner ws) s =
      .next ((s.writeAreas (areaWrites ws)).answered .planner (s.writeAreas (areaWrites ws)).areaReply) := by
  have hf' : (s.taken .planner).areaSetFailure ws = none := (s.areaSetFailure_taken _ _).trans hf
  have hb : (s.taken .planner).areaSet ws =
      ((s.writeAreas (areaWrites ws)).taken .planner, (s.writeAreas (areaWrites ws)).areaReply) := by
    simp only [State.areaSet, hf', State.unless]
    rfl
  refine congrArg Host.Outcome.next (State.message_effect h (areaSet_check hl) (by simpa [Message.accepts] using hn) rfl
    (by rw [hb]) ?_ rfl)
  rw [hb]
  exact State.settle_of_quiet _ h.settled

/-- Settles O30: the failure is that of the first entry that fails, and entries that pass name different windows. -/
theorem areaSetWritesWhole : Obligations.AreaSetWritesWhole := by
  constructor
  · intro s ws h hl hc hw h1 h8 index hpass
    have hpasses (i : Nat) (hi : i < word ws 0) : s.areaFailureAt ws i = none := by
      obtain ⟨hindex, hnew, hk, henabled, hpickOnly, hremnant, hslot⟩ := hpass i hi
      refine State.areaFailureAt_of_pass ?_ (Option.isSome_iff_ne_none.mp hslot)
      simp only [not_or]
      exact ⟨Nat.not_lt.mpr hindex, fun ⟨j, hj, he⟩ => hnew j hj he, Nat.not_lt.mpr hk, Nat.not_lt.mpr henabled,
        Nat.not_lt.mpr hpickOnly, Nat.not_lt.mpr hremnant⟩
    have hf : s.areaSetFailure ws = none := by
      rw [s.areaSetFailure_eq h1 h8, List.findSome?_eq_none_iff]
      exact fun i hi => hpasses i (List.mem_range.mp hi)
    obtain ⟨hnamed, hothers⟩ := State.window_writeAreas_areaWrites hw (fun i hi => (hpass i hi).1) fun i hi => (hpass i hi).2.1
    exact ⟨(s.writeAreas (areaWrites ws)).windows, (s.writeAreas_windows_length _).trans hw, hnamed, hothers,
      State.exec_areaSet_accepted h hl hc hf⟩
  · intro s ws h hl hc refused index bad off
    have refuse {c : RefusalCode} {d : Nat} (hf : s.areaSetFailure ws = some (c, d)) :
        exec (.areaSet .planner ws) s = refused c d := State.exec_areaSet_refused h hl hc hf
    refine ⟨fun hcount => refuse (if_pos hcount), fun h1 h8 i hi hj => ?_⟩
    have first {f : Failure} (hf : s.areaFailureAt ws i = some f) : s.areaSetFailure ws = some f := by
      rw [s.areaSetFailure_eq h1 h8]
      exact findSome?_range_of_first hi hf fun j hji => State.areaFailureAt_of_pass (hj j hji).1 (hj j hji).2
    exact ⟨fun hb => refuse (first (State.areaFailureAt_of_bad hb)),
      fun hb ho => refuse (first (State.areaFailureAt_of_off hb ho))⟩

end Sys2Proof.Machine
end

section
/-! PROOFS. The Kind Locator's sets (R58 to R62): a set's ranks and tags do not depend on the order of its ways, so an update at one
way is read as that way before the others. -/

namespace Sys2Proof.Machine

/-! ## The ways of a set, in any order -/

/-- The ranks and the tags of a set's ways are sound (R58). -/
def SetSound (ws : List Way) : Prop := RanksSound ws ∧ (tagsOf ws).Nodup

section
variable {ws vs : List Way} {i : Nat}

theorem ranksOf_perm (h : ws.Perm vs) : (ranksOf ws).Perm (ranksOf vs) := h.filterMap _

theorem tagsOf_perm (h : ws.Perm vs) : (tagsOf ws).Perm (tagsOf vs) := h.filterMap _

theorem rankedCount_perm (h : ws.Perm vs) : rankedCount ws = rankedCount vs := (h.filter _).length_eq

theorem SetSound.of_perm (h : ws.Perm vs) (hw : SetSound ws) : SetSound vs := by
  obtain ⟨hranks, htags⟩ := hw
  refine ⟨(ranksOf_perm h).symm.trans ?_, (tagsOf_perm h).nodup_iff.mp htags⟩
  rw [← rankedCount_perm h]
  exact hranks

/-- A set as one of its ways and the others. -/
theorem perm_wayAt_cons_eraseIdx (hi : i < ws.length) : ws.Perm (wayAt ws i :: ws.eraseIdx i) := by
  rw [wayAt, List.getD_eq_getElem ws Way.invalid hi]
  exact (List.getElem_cons_eraseIdx_perm hi).symm

theorem lt_length_of_wayAt_ne (h : wayAt ws i ≠ .invalid) : i < ws.length := by
  by_contra hn
  exact h (List.getD_eq_default ws Way.invalid (Nat.le_of_not_lt hn))

theorem wayAt_set (ws : List Way) (i j : Nat) (x : Way) :
    wayAt (ws.set i x) j = if i = j ∧ j < ws.length then x else wayAt ws j := by
  simp only [wayAt, List.getD_eq_getElem?_getD, List.getElem?_set]
  by_cases hij : i = j <;> by_cases hj : j < ws.length <;> simp [hij, hj]

theorem wayAt_map_lower (ws : List Way) (r j : Nat) : wayAt (ws.map (Way.lower r)) j = (wayAt ws j).lower r := by
  simp only [wayAt, List.getD_eq_getElem?_getD, List.getElem?_map]
  cases ws[j]? <;> rfl

end

/-! ## The ranks -/

section
variable {ws : List Way} {r t n : Nat}

@[simp] theorem rankedCount_invalid_cons : rankedCount (.invalid :: ws) = rankedCount ws := rfl
@[simp] theorem rankedCount_pinned_cons : rankedCount (.pinned t n :: ws) = rankedCount ws := rfl
@[simp] theorem rankedCount_ranked_cons : rankedCount (.ranked r t n :: ws) = rankedCount ws + 1 := rfl

@[simp] theorem Way.tag?_lower (w : Way) : (w.lower r).tag? = w.tag? := by cases w <;> rfl
@[simp] theorem Way.isRanked_lower (w : Way) : (w.lower r).isRanked = w.isRanked := by cases w <;> rfl

@[simp] theorem tagsOf_map_lower : tagsOf (ws.map (Way.lower r)) = tagsOf ws := by
  simp [tagsOf, List.filterMap_map]

@[simp] theorem rankedCount_map_lower : rankedCount (ws.map (Way.lower r)) = rankedCount ws := by
  simp [rankedCount, List.filter_map, Function.comp_def]

theorem ranksOf_map_lower : ranksOf (ws.map (Way.lower r)) = (ranksOf ws).map fun q => if r < q then q - 1 else q := by
  rw [ranksOf, ranksOf, List.filterMap_map, List.map_filterMap]
  congr 1
  funext w
  cases w <;> rfl

/-- The ranks 1 to n + 1 but for one of them close up to the ranks 1 to n (R59). -/
theorem lowered_ranks {l : List Nat} {n r : Nat} (h : (r :: l).Perm (List.range' 1 (n + 1))) :
    (l.map fun q => if r < q then q - 1 else q).Perm (List.range' 1 n) := by
  obtain ⟨a, rfl⟩ : ∃ a, r = a + 1 := by
    have := List.mem_range'_1.mp (h.subset List.mem_cons_self)
    exact ⟨r - 1, by omega⟩
  obtain ⟨b, rfl⟩ : ∃ b, n = a + b := by
    have := List.mem_range'_1.mp (h.subset List.mem_cons_self)
    exact ⟨n - a, by omega⟩
  have hsplit : List.range' 1 (a + b + 1) = List.range' 1 a ++ (a + 1) :: List.range' (a + 2) b := by
    rw [Nat.add_assoc, ← List.range'_append_1, List.range'_succ, Nat.add_comm 1 a]
  rw [hsplit] at h
  have hl : l.Perm (List.range' 1 a ++ List.range' (a + 2) b) := (h.trans List.perm_middle).cons_inv
  have hlow : (List.range' 1 a).map (fun q => if a + 1 < q then q - 1 else q) = List.range' 1 a := by
    refine (List.map_congr_left fun q hq => ?_).trans (List.map_id _)
    exact if_neg (by have := List.mem_range'_1.mp hq; omega)
  have hhigh : (List.range' (a + 2) b).map (fun q => if a + 1 < q then q - 1 else q) = List.range' (a + 1) b := by
    refine (List.map_congr_left fun q hq => ?_).trans (List.map_sub_range' (Nat.le_add_left 1 (a + 1)) b)
    exact if_pos (by have := List.mem_range'_1.mp hq; omega)
  have hmap := hl.map fun q => if a + 1 < q then q - 1 else q
  have hjoin : List.range' 1 a ++ List.range' (a + 1) b = List.range' 1 (a + b) := by
    rw [Nat.add_comm a 1, List.range'_append_1]
  rwa [List.map_append, hlow, hhigh, hjoin] at hmap

end

/-! ## Sound sets -/

section
variable {ws : List Way} {r t n : Nat}

theorem setSound_invalid_cons : SetSound (.invalid :: ws) ↔ SetSound ws := Iff.rfl

theorem setSound_pinned_cons : SetSound (.pinned t n :: ws) ↔ t ∉ tagsOf ws ∧ SetSound ws :=
  (and_congr_right fun _ => List.nodup_cons).trans and_left_comm

/-- The other ways of a set in which a way is ranked: they close up (R59), and none of them has its tag. -/
theorem SetSound.lower (h : SetSound (.ranked r t n :: ws)) : t ∉ tagsOf ws ∧ SetSound (ws.map (Way.lower r)) := by
  obtain ⟨hranks, htags⟩ := h
  obtain ⟨ht, htags⟩ := List.nodup_cons.mp htags
  refine ⟨ht, ?_, by rwa [tagsOf_map_lower]⟩
  rw [RanksSound, ranksOf_map_lower, rankedCount_map_lower]
  exact lowered_ranks hranks

/-- A way that joins the others is the most recent of them (R59). -/
theorem SetSound.ranked_cons (h : SetSound ws) (ht : t ∉ tagsOf ws) : SetSound (.ranked (rankedCount ws + 1) t n :: ws) := by
  obtain ⟨hranks, htags⟩ := h
  refine ⟨?_, List.nodup_cons.mpr ⟨ht, htags⟩⟩
  rw [RanksSound, rankedCount_ranked_cons, List.range'_1_concat, Nat.add_comm 1]
  exact (hranks.cons _).trans (List.perm_append_singleton _ _).symm

end

/-! ## The three rank operations (R59) and the updates (R60 to R62) -/

section
variable {ws : List Way} {i r t n : Nat}

theorem tag_mem_tagsOf (h : (wayAt ws i).tag? = some t) : t ∈ tagsOf ws := by
  have hi : i < ws.length := lt_length_of_wayAt_ne fun hn => by rw [hn] at h; cases h
  rw [(tagsOf_perm (perm_wayAt_cons_eraseIdx hi)).mem_iff]
  exact List.mem_filterMap.mpr ⟨_, List.mem_cons_self, h⟩

theorem perm_set_map_lower {x : Way} (hi : i < ws.length) :
    (x :: (ws.eraseIdx i).map (Way.lower r)).Perm ((ws.map (Way.lower r)).set i x) := by
  rw [← List.eraseIdx_map]
  exact (List.set_perm_cons_eraseIdx (by simpa using hi) x).symm

/-- A set with a ranked way, as that way and the others. -/
theorem SetSound.ranked_eraseIdx (h : SetSound ws) (hi : wayAt ws i = .ranked r t n) :
    i < ws.length ∧ SetSound (.ranked r t n :: ws.eraseIdx i) ∧ rankedCount ws = rankedCount (ws.eraseIdx i) + 1 := by
  have hlt : i < ws.length := lt_length_of_wayAt_ne (by rw [hi]; nofun)
  have hperm := perm_wayAt_cons_eraseIdx hlt
  rw [hi] at hperm
  exact ⟨hlt, h.of_perm hperm, rankedCount_perm hperm⟩

theorem SetSound.raiseWay (h : SetSound ws) (hi : wayAt ws i = .ranked r t n) (m : Nat) : SetSound (raiseWay ws i r t m) := by
  obtain ⟨hlt, hsound, hcount⟩ := h.ranked_eraseIdx hi
  obtain ⟨ht, hothers⟩ := hsound.lower
  rw [Machine.raiseWay, hcount, ← rankedCount_map_lower (r := r)]
  exact (hothers.ranked_cons (by rwa [tagsOf_map_lower])).of_perm (perm_set_map_lower hlt)

/-- A removed way leaves the other tags and one rank less (R59). -/
theorem SetSound.removeWay (h : SetSound ws) (hi : wayAt ws i = .ranked r t n) :
    SetSound (removeWay ws i r) ∧ rankedCount ws = rankedCount (removeWay ws i r) + 1 ∧
      ∀ a, a ∈ tagsOf (removeWay ws i r) → a ∈ tagsOf ws := by
  obtain ⟨hlt, hsound, hcount⟩ := h.ranked_eraseIdx hi
  have hperm := perm_set_map_lower (r := r) (x := .invalid) hlt
  refine ⟨hsound.lower.2.of_perm hperm, ?_, fun a ha => ?_⟩
  · rw [Machine.removeWay, ← rankedCount_perm hperm, rankedCount_invalid_cons, rankedCount_map_lower, hcount]
  · rw [Machine.removeWay, ← (tagsOf_perm hperm).mem_iff] at ha
    rw [(tagsOf_perm (perm_wayAt_cons_eraseIdx hlt)).mem_iff]
    have ha' : a ∈ tagsOf (ws.eraseIdx i) := by rwa [← tagsOf_map_lower (r := r)]
    rw [hi]
    exact List.mem_cons_of_mem _ ha'

/-- A PINNED way takes another slot (R61). -/
theorem SetSound.setPinned (h : SetSound ws) (hi : wayAt ws i = .pinned t n) (m : Nat) : SetSound (ws.set i (.pinned t m)) := by
  have hlt : i < ws.length := lt_length_of_wayAt_ne (by rw [hi]; nofun)
  have hold := h.of_perm (perm_wayAt_cons_eraseIdx hlt)
  rw [hi] at hold
  exact SetSound.of_perm (List.set_perm_cons_eraseIdx hlt _).symm (setSound_pinned_cons.mpr (setSound_pinned_cons.mp hold))

/-- An INVALID way takes a tag that the set does not hold (R62). -/
theorem SetSound.insert (h : SetSound ws) (hi : wayAt ws i = .invalid) (hlt : i < ws.length) (ht : t ∉ tagsOf ws) (pin : Bool) :
    SetSound (ws.set i (if pin then .pinned t n else .ranked (rankedCount ws + 1) t n)) := by
  have hperm := perm_wayAt_cons_eraseIdx hlt
  rw [hi] at hperm
  have hothers : SetSound (ws.eraseIdx i) := setSound_invalid_cons.mp (h.of_perm hperm)
  have hfresh : t ∉ tagsOf (ws.eraseIdx i) := fun hm => ht ((tagsOf_perm hperm).mem_iff.mpr hm)
  refine SetSound.of_perm (List.set_perm_cons_eraseIdx hlt _).symm ?_
  rw [(rankedCount_perm hperm).trans rankedCount_invalid_cons]
  cases pin with
  | true => exact setSound_pinned_cons.mpr ⟨hfresh, hothers⟩
  | false => exact hothers.ranked_cons hfresh

theorem SetSound.afterVerifiedHit (h : SetSound ws) (i : Nat) : SetSound (afterVerifiedHit ws i) := by
  unfold Machine.afterVerifiedHit
  split
  · next hi => exact h.raiseWay hi _
  · exact h

theorem SetSound.afterFailedHit (h : SetSound ws) (i : Nat) (scan : Option Nat) : SetSound (afterFailedHit ws i scan) := by
  unfold Machine.afterFailedHit
  split
  · next hi => exact h.raiseWay hi _
  · next hi => exact (h.removeWay hi).1
  · next hi => exact h.setPinned hi _
  · exact h

theorem Way.isInvalid_iff {x : Way} : x.isInvalid = true ↔ x = .invalid := by cases x <;> simp [Way.isInvalid]

theorem Way.isLeastRecent_iff {x : Way} : x.isLeastRecent = true ↔ ∃ t n, x = .ranked 1 t n := by
  cases x <;> simp [Way.isLeastRecent]

/-- The way that an insertion takes is INVALID or of rank 1 (R62). -/
theorem insertionWay_cases (h : insertionWay ws = some i) :
    i < ws.length ∧ (wayAt ws i = .invalid ∨ ∃ t n, wayAt ws i = .ranked 1 t n) := by
  unfold insertionWay at h
  split at h
  · next j hj =>
    cases h
    obtain ⟨⟨hlt, hi⟩, -⟩ := (findIdx?_eq_some_iff_getD (d := Way.invalid)).mp hj
    exact ⟨hlt, .inl (Way.isInvalid_iff.mp hi)⟩
  · obtain ⟨⟨hlt, hi⟩, -⟩ := (findIdx?_eq_some_iff_getD (d := Way.invalid)).mp h
    exact ⟨hlt, .inr (Way.isLeastRecent_iff.mp hi)⟩

theorem clearedFor_of_invalid (h : wayAt ws i = .invalid) : clearedFor ws i = ws := by rw [clearedFor, h]

theorem clearedFor_of_ranked (h : wayAt ws i = .ranked r t n) : clearedFor ws i = removeWay ws i r := by rw [clearedFor, h]

theorem length_removeWay : (removeWay ws i r).length = ws.length := by simp [removeWay]

theorem wayAt_removeWay_self (hlt : i < ws.length) : wayAt (removeWay ws i r) i = .invalid := by
  rw [removeWay, wayAt_set, if_pos ⟨rfl, by simpa using hlt⟩]

theorem SetSound.afterMiss (h : SetSound ws) (pin : Bool) (ht : t ∉ tagsOf ws) : SetSound (afterMiss ws pin t n) := by
  unfold Machine.afterMiss
  split
  · exact h
  · next i hi =>
    obtain ⟨hlt, hway | ⟨a, m, hway⟩⟩ := insertionWay_cases hi
    · rw [clearedFor_of_invalid hway]
      exact h.insert hway hlt ht pin
    · obtain ⟨hsound, -, htags⟩ := h.removeWay hway
      rw [clearedFor_of_ranked hway]
      exact hsound.insert (wayAt_removeWay_self hlt) (length_removeWay.symm ▸ hlt) (fun hm => ht (htags _ hm)) pin

end

/-! ## The number of ways -/

theorem length_afterVerifiedHit (ws : List Way) (i : Nat) : (afterVerifiedHit ws i).length = ws.length := by
  unfold afterVerifiedHit raiseWay
  split <;> simp

theorem length_afterFailedHit (ws : List Way) (i : Nat) (scan : Option Nat) :
    (afterFailedHit ws i scan).length = ws.length := by
  unfold afterFailedHit raiseWay removeWay
  split <;> simp

theorem length_afterMiss (ws : List Way) (pin : Bool) (t n : Nat) : (afterMiss ws pin t n).length = ws.length := by
  unfold afterMiss clearedFor removeWay
  repeat' split
  all_goals simp

end Sys2Proof.Machine
end

section
/-! PROOFS. Every command keeps the Kind Locator sound (R58): a source search alone changes its ways, and AREA_SET, LAYOUT_SET,
CELL_RESET, LOCATOR_FLUSH and POWER_ON make every way INVALID (R46, R65, R182, R184). -/

namespace Sys2Proof.Machine

/-! ## The state's sets -/

theorem State.LocatorSound.congr {s t : State} (hs : s.LocatorSound) (h : t.locator = s.locator) : t.LocatorSound := by
  unfold State.LocatorSound
  rw [h]
  exact hs

theorem State.LocatorSound.ways {s : State} (hs : s.LocatorSound) (kind : Nat) :
    (s.locatorWays kind).length = 4 ∧ SetSound (s.locatorWays kind) := by
  obtain ⟨hlength, hsets⟩ := hs
  have hset : locatorSet kind < s.locator.length := by rw [hlength]; exact Nat.mod_lt _ (by decide)
  refine hsets _ ?_
  rw [State.locatorWays, List.getD_eq_getElem _ _ hset]
  exact List.getElem_mem hset

theorem State.LocatorSound.setLocatorWays {s : State} (hs : s.LocatorSound) (kind : Nat) {ws : List Way} (h4 : ws.length = 4)
    (hw : SetSound ws) : (s.setLocatorWays kind ws).LocatorSound := by
  obtain ⟨hlength, hsets⟩ := hs
  refine ⟨by simpa [State.setLocatorWays] using hlength, fun vs hv => ?_⟩
  rcases List.mem_or_eq_of_mem_set hv with hv | rfl
  · exact hsets vs hv
  · exact ⟨h4, hw⟩

/-- A locator with every way INVALID is sound (R65). -/
theorem State.LocatorSound.of_empty {s : State} (h : s.locator = emptyLocator) : s.LocatorSound :=
  State.LocatorSound.congr (State.atPowerOn_locatorSound (memory := [])) h

/-! ## The source search -/

theorem State.tag_not_mem_of_lookup {s : State} {kind : Nat} (h : s.lookup kind = none) :
    locatorTag kind ∉ tagsOf (s.locatorWays kind) := by
  intro hm
  obtain ⟨w, hw, ht⟩ := List.mem_filterMap.mp hm
  have := List.findIdx?_eq_none_iff.mp h w hw
  simp [ht] at this

/-- A source search keeps the Kind Locator sound (R60 to R62). -/
theorem State.LocatorSound.locatorStep {s : State} (hs : s.LocatorSound) (g : Gantry) (w : Saw) (e : BookEntry) :
    (s.locatorStep g w e).2.LocatorSound := by
  obtain ⟨h4, hsound⟩ := hs.ways e.kind
  unfold State.locatorStep
  split
  · next i _ =>
    split
    · split
      · exact (hs.setLocatorWays e.kind ((length_afterVerifiedHit _ i).trans h4) (hsound.afterVerifiedHit i)).congr rfl
      · exact (hs.setLocatorWays e.kind ((length_afterFailedHit _ i _).trans h4) (hsound.afterFailedHit i _)).congr rfl
    · exact hs
  · next hmiss =>
    split
    · exact (hs.setLocatorWays e.kind ((length_afterMiss _ _ _ _).trans h4)
        (hsound.afterMiss _ (State.tag_not_mem_of_lookup hmiss))).congr rfl
    · exact hs.congr rfl

theorem State.claim_locator (s : State) (n : Nat) (g : Gantry) (k : Purpose) : (s.claim n g k).locator = s.locator := by
  unfold State.claim
  split <;> rfl

theorem locatorSound_carrying : Carrying State.LocatorSound where
  gantry _ _ _ _ hs := hs.congr rfl
  saw _ _ _ _ hs := hs.congr rfl
  push _ _ _ hs := hs.congr rfl
  latch _ _ _ hs := hs.congr rfl
  duties _ _ hs := hs.congr rfl
  freeNext _ _ hs := hs.congr rfl
  pointer _ _ hs := hs.congr rfl
  free _ _ hs := hs.congr rfl
  serial _ _ hs := hs.congr rfl
  search _ g w e hs := hs.locatorStep g w e
  claim s n g k hs := hs.congr (s.claim_locator n g k)
  unclaim _ _ hs := hs.congr rfl
  suspect _ _ hs _ := hs.congr rfl
  head _ _ _ _ hs := hs.congr rfl
  place _ _ hs := hs.congr rfl
  lay _ _ _ hs := hs.congr rfl
  unlay _ _ _ hs := hs.congr rfl

theorem locatorSound_settling : Settling State.LocatorSound State.LocatorSound :=
  ⟨fun _ _ _ hs => hs.congr rfl, fun _ _ _ hs => hs.congr rfl, fun _ hs => locatorSound_carrying.settle hs, fun _ hs => hs⟩

/-! ## The store -/

theorem State.freePanels_locator (s : State) (ps : List Panel) : (s.freePanels ps).locator = s.locator := by
  unfold State.freePanels
  induction ps generalizing s with
  | nil => rfl
  | cons p ps ih => exact ih (s.freeRecord p.record)

theorem State.registerAll_locator (s : State) (n : Nat) (es : List StackEntry) : (s.registerAll n es).locator = s.locator := by
  unfold State.registerAll
  induction es generalizing s with
  | nil => rfl
  | cons e es ih => exact ih _

theorem State.retry_locator (s : State) (g : Gantry) : (s.retry g).locator = s.locator := by
  unfold State.retry
  split <;> rfl

theorem State.storeChange_locator (s : State) : s.storeChange.locator = s.locator := by
  rw [State.storeChange, State.retry_locator, State.retry_locator]

theorem State.withdraw_locator (s : State) (n k : Nat) : (s.withdraw n k).locator = s.locator := by
  unfold State.withdraw
  split
  · rfl
  · rw [State.storeChange_locator, State.freePanels_locator]
    rfl

theorem State.slotRelease_locator (s : State) (ws : List Word) : (s.slotRelease ws).1.locator = s.locator := by
  unfold State.slotRelease State.releaseSlot
  split
  · rfl
  · dsimp only
    split
    · exact State.storeChange_locator _
    · rfl

theorem State.restore_locator (s : State) (g : Gantry) (ws : List Word) : (s.restore g ws).locator = s.locator := by
  have hdispose : (s.disposePanel g ws).locator = s.locator := by
    unfold State.disposePanel
    split <;> rfl
  have hend : ((s.disposePanel g ws).endStrandedTask g).locator = s.locator := by
    unfold State.endStrandedTask
    split <;> exact hdispose
  unfold State.restore
  rw [State.retry_locator]
  exact hend

/-! ## The layout -/

theorem State.loseSaw_locator (s : State) (l : Layout) (w : Saw) : (s.loseSaw l w).locator = s.locator := by
  unfold State.loseSaw
  split <;> rfl

theorem State.LocatorSound.nextLayout {s : State} (hs : s.LocatorSound) (l : Layout) : (s.nextLayout l).LocatorSound := by
  have hsaws : ((((s.loseSaw l .saw1).loseSaw l .saw2).loseSaw l .saw3).loseSaw l .saw4).LocatorSound :=
    hs.congr (by simp only [State.loseSaw_locator])
  unfold State.nextLayout
  generalize State.loseSaw _ l .saw4 = t at *
  have hgrid : (t.renumber l).LocatorSound := by
    unfold State.renumber
    split
    · exact hsaws
    · exact .of_empty rfl
  exact hgrid.congr rfl

theorem State.LocatorSound.layoutSet {s : State} (hs : s.LocatorSound) (ws : List Word) : (s.layoutSet ws).1.LocatorSound := by
  have hactive : (s.activate (carriedLayout ws)).LocatorSound := by
    unfold State.activate
    split
    · exact hs.nextLayout _
    · exact hs.congr rfl
  unfold State.layoutSet
  split
  · exact hs
  · dsimp only
    split
    · exact hactive.congr rfl
    · exact hactive

theorem State.LocatorSound.readEnd {s : State} (hs : s.LocatorSound) (b : Bool) : (s.readEnd b).LocatorSound := by
  unfold State.readEnd
  split
  · refine locatorSound_carrying.settle ?_
    unfold State.judgeMemory
    repeat' split
    all_goals exact hs.congr rfl
  · exact hs

theorem State.writeEnd_locator (s : State) (answers : Bool) (left : List Word) :
    (s.writeEnd answers left).locator = s.locator := by
  unfold State.writeEnd
  split <;> rfl

/-! ## Queries, settings and the saws' messages -/

theorem State.kindQuery_locator (s : State) (ws : List Word) : (s.kindQuery ws).1.locator = s.locator := by
  unfold State.kindQuery
  split <;> rfl

theorem State.slotQuery_locator (s : State) (ws : List Word) : (s.slotQuery ws).1.locator = s.locator := by
  unfold State.slotQuery
  repeat' split
  all_goals rfl

theorem State.sawQuery_locator (s : State) (ws : List Word) : (s.sawQuery ws).1.locator = s.locator := by
  unfold State.sawQuery
  repeat' split
  all_goals rfl

theorem State.unless_locator {s : State} {m : Message} {f : Option Failure} {r : State × Reply}
    (hr : r.1.locator = s.locator) : (s.unless m f r).1.locator = s.locator :=
  State.unless_keeps (B := fun t => t.locator = s.locator) rfl fun _ => hr

theorem State.sawSet_locator (s : State) (ws : List Word) : (s.sawSet ws).1.locator = s.locator := by
  unfold State.sawSet
  split
  · rfl
  · refine State.unless_locator ?_
    unfold State.applySettings State.latchSettings
    split <;> rfl

theorem State.LocatorSound.bookAbort {s : State} (hs : s.LocatorSound) (w : Saw) (ws : List Word) :
    (s.bookAbort w ws).1.LocatorSound := by
  unfold State.bookAbort State.abortRecord State.actOnAbortBy
  repeat' split
  all_goals first
    | exact hs.congr rfl
    | exact locatorSound_carrying.actOnAbort (by exact hs.congr rfl) _

theorem State.bookTaken_locator (s : State) (w : Saw) (ws : List Word) : (s.bookTaken w ws).1.locator = s.locator := by
  unfold State.bookTaken
  repeat' split
  all_goals rfl

theorem State.LocatorSound.endHold {s : State} (hs : s.LocatorSound) (w : Saw) (g : Gantry) : (s.endHold w g).LocatorSound := by
  unfold State.endHold
  split
  · exact locatorSound_carrying.beginPlace (by exact hs.congr rfl) _ _
  · exact hs

theorem State.LocatorSound.tableState {s : State} (hs : s.LocatorSound) (w : Saw) (ws : List Word) :
    (s.tableState w ws).1.LocatorSound := by
  have hset : (s.setTable w (carriedTable ws)).LocatorSound := hs.congr rfl
  unfold State.tableState State.reportTable
  repeat' split
  · exact hs.congr rfl
  · exact (hset.endHold _ _).endHold _ _
  · exact hset

/-! ## The gantries -/

theorem State.gantryPark_locator (s : State) (g : Gantry) : (s.gantryPark g).1.locator = s.locator := by
  unfold State.gantryPark
  split <;> rfl

theorem State.LocatorSound.becomeFaulted {s : State} (hs : s.LocatorSound) (g : Gantry) (c : FaultCause) (n : BitVec 8)
    (silent : Bool) : (s.becomeFaulted g c n silent).LocatorSound :=
  locatorSound_carrying.becomeFaulted (fun _ _ h => h.congr rfl) hs g c n silent

theorem State.LocatorSound.stepDone {s : State} (hs : s.LocatorSound) (g : Gantry) (ws : List Word) :
    (s.stepDone g ws).1.LocatorSound := by
  unfold State.stepDone State.acceptStep
  repeat' split
  · exact locatorSound_carrying.stepCompleted (by exact hs.congr rfl) _ _ _
  · exact State.LocatorSound.becomeFaulted (by exact hs.congr rfl) _ _ _ _
  · exact hs

theorem State.LocatorSound.gantryFault {s : State} (hs : s.LocatorSound) (g : Gantry) (ws : List Word) :
    (s.gantryFault g ws).1.LocatorSound := by
  unfold State.gantryFault
  split
  · exact hs
  · exact State.LocatorSound.becomeFaulted (by exact hs.congr rfl) _ _ _ _

theorem State.LocatorSound.endDwell {s : State} (hs : s.LocatorSound) (g : Gantry) : (s.endDwell g).LocatorSound := by
  have closed := locatorSound_carrying
  unfold State.endDwell
  dsimp only
  split
  · exact closed.settle (closed.settleRequest (closed.request (by exact hs.congr rfl) _ _ _) _)
  · exact hs.congr rfl

theorem State.LocatorSound.carrierLoss {s : State} (hs : s.LocatorSound) (p : Port) : (s.carrierLoss p).LocatorSound := by
  have hlost : (s.setPort p (s.port p).lostCarrier).LocatorSound := hs.congr rfl
  unfold State.carrierLoss
  split
  · refine locatorSound_carrying.settle ?_
    cases p with
    | planner => exact hlost
    | saw w => exact hlost.congr rfl
    | gantry g =>
      unfold State.roleLinkLost State.gantryLinkLost
      dsimp only
      split
      · exact hlost
      · exact hlost
      · exact hlost.congr rfl
      · exact hlost.congr rfl
      all_goals first
        | exact hlost.becomeFaulted _ _ _ _
        | exact locatorSound_carrying.secondCause hlost _ _
  · exact hs

theorem State.LocatorSound.carrierReturn {s : State} (hs : s.LocatorSound) (p : Port) : (s.carrierReturn p).LocatorSound := by
  unfold State.carrierReturn
  split
  · exact hs
  · refine locatorSound_carrying.settle ?_
    unfold State.roleLinkBack
    split <;> exact hs.congr rfl

/-! ## The cell -/

theorem State.close_locator (s : State) : s.close.1.locator = s.locator := by
  unfold State.close
  split <;> rfl

theorem State.LocatorSound.pacingReached {s : State} (hs : s.LocatorSound) (w : Saw) : (s.pacingReached w).LocatorSound := by
  unfold State.pacingReached
  split
  · exact locatorSound_carrying.settle (by exact hs.congr rfl)
  · exact hs

theorem State.repace_locator (s : State) (w : Saw) : (s.repace w).locator = s.locator := by
  unfold State.repace
  split <;> rfl

/-- Every command keeps the Kind Locator sound. -/
theorem State.LocatorSound.exec {s t : State} (hs : s.LocatorSound) (c : Instr) (ht : exec c s = .next t) : t.LocatorSound := by
  have key := locatorSound_settling
  have closed := locatorSound_carrying
  cases c <;> obtain ⟨rfl⟩ := ht
  case powerOn => exact .of_empty rfl
  case layoutReadEnd => exact hs.readEnd _
  case layoutWriteEnd => exact hs.congr (s.writeEnd_locator _ _)
  case frameReceived | receiveBufferFull | flowStop | flowGo | frameSent | nextEndMarkedWord => exact hs.congr rfl
  case carrierLoss => exact hs.carrierLoss _
  case carrierReturn => exact hs.carrierReturn _
  case unknownMessage =>
    split
    · exact hs
    · exact key.process hs fun _ h => h
  case layoutSet => exact key.message hs fun _ h _ _ => h.layoutSet _
  case layoutQuery | areaQuery | countsQuery | statusPeek => exact key.message hs fun _ h _ _ => h
  case kindQuery => exact key.message hs fun t h _ _ => h.congr (t.kindQuery_locator _)
  case areaSet => exact key.message hs fun _ h _ _ => State.unless_keeps h fun _ => .of_empty rfl
  case stackRegister => exact key.message hs fun t h _ _ => h.congr (State.unless_locator (t.registerAll_locator _ _))
  case stackWithdraw => exact key.message hs fun t h _ _ => h.congr (State.unless_locator (t.withdraw_locator _ _))
  case slotRelease => exact key.message hs fun t h _ _ => h.congr (t.slotRelease_locator _)
  case slotQuery => exact key.message hs fun t h _ _ => h.congr (t.slotQuery_locator _)
  case sawSet => exact key.message hs fun t h _ _ => h.congr (t.sawSet_locator _)
  case sawQuery => exact key.message hs fun t h _ _ => h.congr (t.sawQuery_locator _)
  case gantryPark => exact key.message hs fun t h _ _ => h.congr (t.gantryPark_locator _)
  case gantryRestore => exact key.message hs fun t h _ _ => h.congr (State.unless_locator (t.restore_locator _ _))
  case openCell | haltCell | resumeCell | latchCounts | clearCounts | pinOn | pinOff =>
    exact key.command hs fun _ h _ => h.congr rfl
  case closeCell => exact key.command hs fun t h _ => h.congr t.close_locator
  case locatorFlush | cellReset => exact key.command hs fun _ _ _ => .of_empty rfl
  case kindSet | bookRequest | remnantOffer => exact key.message hs fun _ h _ _ => h.congr (State.unless_locator rfl)
  case bookAbort => exact key.message hs fun _ h _ _ => h.bookAbort _ _
  case bookTaken => exact key.message hs fun t h _ _ => h.congr (t.bookTaken_locator _ _)
  case tableState => exact key.message hs fun _ h _ _ => h.tableState _ _
  case gantryReady => exact key.message hs fun _ h _ _ => h.congr (State.unless_locator (State.retry_locator _ _))
  case stepDone => exact key.message hs fun _ h _ _ => h.stepDone _ _
  case gantryFault => exact key.message hs fun _ h _ _ => h.gantryFault _ _
  case statusQuery => exact key.message hs fun _ h _ _ => h.congr rfl
  case overrun =>
    split
    · exact closed.settle (State.LocatorSound.becomeFaulted (by exact hs.congr rfl) _ _ _ _)
    · exact hs
  case dwellEnd =>
    split
    · exact hs.endDwell _
    · exact hs
  case hoverTimeout =>
    split
    · exact closed.settle (closed.endBook (by exact hs.congr rfl) _ _)
    · exact hs
  case pacingEnd => exact hs.pacingReached _
  case pacingRuleUnsatisfied => exact hs.congr (s.repace_locator _)
  case sawTimerStep w k => cases k <;> exact hs.congr rfl
  case cellClockTick => exact hs.congr rfl
  case cellCommand =>
    split
    · exact hs
    · exact key.message hs fun _ h _ _ => h

/-- Settles O10: each update of a set keeps its ranks and tags sound, and no other operation touches the ways but to flush them. -/
theorem soundLocatorKept : Obligations.SoundLocatorKept := by
  intro s t hs ht
  unfold step at ht
  split at ht
  · next c rest _ => exact State.LocatorSound.exec (s := { s with pending := rest }) (by exact hs.congr rfl) c ht
  · cases ht
    exact hs

end Sys2Proof.Machine
end

section
/-! PROOFS. The choices of Selection (R52, R54, R56, R67 to R71): a search takes, of the slots that meet its conditions, the one whose
key comes first, and the lower slot number where the keys are equal. -/

namespace Sys2Proof.Machine

/-! ## Choosing -/

/-- `n` comes before `m` by the first key, then by the second, then by the number. -/
def Precedes (key : Nat → Nat × Nat) (n m : Nat) : Prop :=
  (key n).1 < (key m).1 ∨ ((key n).1 = (key m).1 ∧ ((key n).2 < (key m).2 ∨ ((key n).2 = (key m).2 ∧ n ≤ m)))

section
variable {key : Nat → Nat × Nat} {l : List Nat} {n m k : Nat}

theorem Precedes.trans (h : Precedes key n m) (h' : Precedes key m k) : Precedes key n k := by
  unfold Precedes at *
  omega

theorem Precedes.antisymm (h : Precedes key n m) (h' : Precedes key m n) : n = m := by
  unfold Precedes at *
  omega

theorem precedes_of_keyBefore (h : keyBefore (key n) (key m) = true) : Precedes key n m := by
  rw [keyBefore, decide_eq_true_iff] at h
  unfold Precedes
  omega

theorem precedes_of_not_keyBefore (h : ¬keyBefore (key m) (key n) = true) (hnm : n ≤ m) : Precedes key n m := by
  rw [keyBefore, decide_eq_true_iff] at h
  unfold Precedes
  omega

theorem precedes_one_key {f : Nat → Nat} : Precedes (fun n => (f n, 0)) n m ↔ f n < f m ∨ (f n = f m ∧ n ≤ m) := by
  simp [Precedes]

theorem leastBy_eq_none_iff : leastBy key l = none ↔ l = [] := by
  cases l with
  | nil => exact iff_of_true rfl rfl
  | cons a l =>
    refine iff_of_false (fun h => ?_) (List.cons_ne_nil a l)
    unfold leastBy at h
    split at h
    · cases h
    · split at h <;> cases h

theorem leastBy_precedes (hl : l.Pairwise (· < ·)) (h : leastBy key l = some n) : ∀ m ∈ l, Precedes key n m := by
  induction l generalizing n with
  | nil => cases h
  | cons a l ih =>
    obtain ⟨ha, hl⟩ := List.pairwise_cons.mp hl
    have hself : Precedes key a a := precedes_of_not_keyBefore (by simp [keyBefore]) (Nat.le_refl a)
    unfold leastBy at h
    split at h
    · next hnone =>
      cases h
      rw [leastBy_eq_none_iff.mp hnone]
      simpa using hself
    · next k hk =>
      have hrest := ih hl hk
      split at h <;> cases h
      · next hbefore => exact List.forall_mem_cons.mpr ⟨precedes_of_keyBefore hbefore, hrest⟩
      · next hafter =>
        have hak : Precedes key a k := precedes_of_not_keyBefore hafter (ha k (leastBy_mem hk)).le
        exact List.forall_mem_cons.mpr ⟨hself, fun m hm => hak.trans (hrest m hm)⟩

/-- The search over a rising list of the slots that meet a condition takes the first of them by its keys. -/
theorem leastBy_eq_some_iff {C : Nat → Prop} (hl : l.Pairwise (· < ·)) (hmem : ∀ n, n ∈ l ↔ C n) :
    leastBy key l = some n ↔ C n ∧ ∀ m, C m → Precedes key n m := by
  constructor
  · intro h
    exact ⟨(hmem n).mp (leastBy_mem h), fun m hm => leastBy_precedes hl h m ((hmem m).mpr hm)⟩
  · rintro ⟨hn, hfirst⟩
    cases hk : leastBy key l with
    | none =>
      have hin := (hmem n).mpr hn
      rw [leastBy_eq_none_iff.mp hk] at hin
      cases hin
    | some k =>
      have hkn := leastBy_precedes hl hk n ((hmem n).mpr hn)
      rw [hkn.antisymm (hfirst k ((hmem k).mp (leastBy_mem hk)))]

theorem leastBy_eq_none_iff_forall {C : Nat → Prop} (hmem : ∀ n, n ∈ l ↔ C n) : leastBy key l = none ↔ ∀ n, ¬C n := by
  simp only [leastBy_eq_none_iff, List.eq_nil_iff_forall_not_mem, hmem]

end

theorem State.slotNumbers_pairwise (s : State) : s.slotNumbers.Pairwise (· < ·) := List.pairwise_lt_range

/-! ## The conditions of the searches -/

section
variable {s : State} {g : Gantry} {w : Saw} {kind n : Nat} {p : Panel}

theorem State.unclaimed_iff : s.unclaimed n = true ↔ (s.slot n).claim = none := decide_eq_true_iff

theorem State.areaRemnant_eq_some_iff {a : Option Nat} {b : Bool} :
    s.areaRemnant a = some b ↔ ∃ i, a = some i ∧ (s.window i).remnant = b := Option.map_eq_some_iff

/-- The sources of a kind, condition by condition (R52). -/
theorem State.eligible_iff : s.eligible g kind n = true ↔ s.reachable g n = true ∧ (s.pickArea n).isSome ∧
    (s.slot n).suspect = false ∧ ∃ p, (s.slot n).stack.getLast? = some p ∧ p.origin = .raw ∧ p.kind = kind := by
  simp only [State.eligible, State.hasPickArea, Slot.top, Bool.and_eq_true, Bool.not_eq_true', Option.any_eq_true,
    decide_eq_true_iff, and_assoc]

theorem State.mem_sources_iff : n ∈ s.sources g kind ↔ n < s.slots.length ∧ s.reachable g n = true ∧
    (s.pickArea n).isSome ∧ (s.slot n).suspect = false ∧
    ∃ p, (s.slot n).stack.getLast? = some p ∧ p.origin = .raw ∧ p.kind = kind := by
  rw [State.sources, List.mem_filter, State.mem_slotNumbers, State.eligible_iff]

/-- The remnant-return candidates, condition by condition (R67). -/
theorem State.mem_remnantReturnCandidates_iff : n ∈ s.remnantReturnCandidates g w kind ↔ n < s.slots.length ∧
    (s.gantryGeom g).reaches (s.geom.sawPlace w).outfeedX = true ∧ s.reachable g n = true ∧
    (∃ i, s.putArea n = some i ∧ (s.window i).remnant = true) ∧ (s.slot n).suspect = false ∧ (s.slot n).claim = none ∧
    (s.slot n).stack.length < 40 ∧ s.height n + s.thickness kind ≤ s.geom.maxStackHeight := by
  simp only [State.remnantReturnCandidates, State.remnantReturnCandidate, List.mem_filter, State.mem_slotNumbers,
    State.hasRoomFor, Bool.and_eq_true, Bool.not_eq_true', decide_eq_true_iff, State.unclaimed_iff,
    State.areaRemnant_eq_some_iff, and_assoc]

/-- The conditions of a destination of a panel return, one by one (R70). -/
theorem State.putSound_iff : s.putSound g kind n = true ↔ n < s.slots.length ∧ s.reachable g n = true ∧
    (s.slot n).suspect = false ∧ (s.slot n).claim = none ∧
    (s.slot n).stack.length < 40 ∧ s.height n + s.thickness kind ≤ s.geom.maxStackHeight := by
  simp only [State.putSound, State.hasRoomFor, Bool.and_eq_true, Bool.not_eq_true', decide_eq_true_iff,
    State.unclaimed_iff, and_assoc]

/-- The put area of a panel-return candidate suits the panel's origin (R71). -/
theorem State.returnCandidate_iff : s.returnCandidate g p n = true ↔ s.putSound g p.kind n = true ∧
    ∃ i, s.putArea n = some i ∧ ((s.window i).remnant = true ↔ p.origin = .remnant) := by
  rw [State.returnCandidate, Bool.and_eq_true, decide_eq_true_iff, State.areaRemnant_eq_some_iff]
  refine and_congr_right fun _ => exists_congr fun i => and_congr_right fun _ => ?_
  rw [Bool.eq_iff_iff, decide_eq_true_iff]

/-- A slot whose top panel has the material and the thickness of a kind (R68). -/
def State.FirstTier (s : State) (kind n : Nat) : Prop :=
  ∃ p, (s.slot n).stack.getLast? = some p ∧ s.material p.kind = s.material kind ∧ s.thickness p.kind = s.thickness kind

theorem State.tier_eq_zero_iff : s.tier kind n = 0 ↔ s.FirstTier kind n := by
  simp only [State.tier, State.FirstTier, Slot.top, Option.any_eq_true, decide_eq_true_iff]
  split <;> simp_all

theorem State.tier_le_one (s : State) (kind n : Nat) : s.tier kind n ≤ 1 := by
  unfold State.tier
  split <;> decide

/-- The order of the remnant-return search (R68): the tier, then the distance, then the number. -/
theorem State.precedes_tier_iff {f : Nat → Nat} {m : Nat} : Precedes (fun n => (s.tier kind n, f n)) n m ↔
    (s.FirstTier kind m → s.FirstTier kind n) ∧
      ((s.FirstTier kind n ↔ s.FirstTier kind m) → f n < f m ∨ (f n = f m ∧ n ≤ m)) := by
  have hn := s.tier_le_one kind n
  have hm := s.tier_le_one kind m
  simp only [Precedes, ← State.tier_eq_zero_iff]
  omega

end

/-! ## The searches -/

/-- The scan takes the unclaimed source nearest the infeed (R56). -/
theorem State.scan_spec (s : State) (g : Gantry) (w : Saw) (kind : Nat) {C : Nat → Prop}
    (hmem : ∀ n, n ∈ s.sources g kind ∧ (s.slot n).claim = none ↔ C n) :
    (∀ n, s.scan g w kind = some n ↔
      C n ∧ ∀ m, C m → Precedes (fun n => (distance (s.geom.slotX n) (s.geom.sawPlace w).infeedX, 0)) n m) ∧
    (s.scan g w kind = none ↔ ∀ n, ¬C n) := by
  have hmem' : ∀ n, n ∈ (s.sources g kind).filter s.unclaimed ↔ C n := fun n => by
    rw [List.mem_filter, State.unclaimed_iff, hmem]
  exact ⟨fun n => leastBy_eq_some_iff ((s.slotNumbers_pairwise.filter _).filter _) hmem',
    leastBy_eq_none_iff_forall hmem'⟩

/-- Where the source slot does not do, the panel return searches among the candidates (R71). -/
theorem State.returnSearch_eq_leastBy {s : State} {g : Gantry} {p : Panel} {source : Option Nat}
    (h : ∀ n, source = some n → ¬(s.putSound g p.kind n = true ∧ (s.pickArea n).isSome)) :
    s.returnSearch g p source =
      leastBy (fun n => (distance (s.geom.slotX n) (s.pos g), 0)) (s.slotNumbers.filter (s.returnCandidate g p)) := by
  have hnone : (source.filter fun n => s.hasPickArea n && s.putSound g p.kind n) = none := by
    rw [Option.filter_eq_none_iff]
    intro n hn hok
    obtain ⟨hpick, hput⟩ := (Bool.and_eq_true _ _).mp hok
    exact h n hn ⟨hput, hpick⟩
  rw [State.returnSearch, hnone]

/-- The panel return takes its source slot where it can (R70). -/
theorem State.returnSearch_of_source {s : State} {g : Gantry} {p : Panel} {n : Nat} (hput : s.putSound g p.kind n = true)
    (hpick : (s.pickArea n).isSome) : s.returnSearch g p (some n) = some n := by
  have hsome : ((some n).filter fun n => s.hasPickArea n && s.putSound g p.kind n) = some n :=
    Option.filter_eq_some_iff.mpr ⟨rfl, (Bool.and_eq_true _ _).mpr ⟨hpick, hput⟩⟩
  rw [State.returnSearch, hsome]

/-- Settles O36: each search is a least member by its keys over a rising list of slots, which its conditions describe. -/
theorem searchesTakeNearest : Obligations.SearchesTakeNearest := by
  intro s g w kind hc source infeed room offcut first outfeed put fits near
  have hsource : ∀ n, n ∈ s.sources g kind ∧ (s.slot n).claim = none ↔ source n := fun n => by
    rw [State.mem_sources_iff, hc]
    simp only [and_assoc, source]
  have hoffcut : ∀ n, n ∈ s.remnantReturnCandidates g w kind ↔ offcut n := fun n => by
    rw [State.mem_remnantReturnCandidates_iff, hc]
  have hput : ∀ (p : Panel) n, s.putSound g p.kind n = true ↔ put p n := fun p n => by
    rw [State.putSound_iff, hc]
  have hfits : ∀ (p : Panel) n, n ∈ s.slotNumbers.filter (s.returnCandidate g p) ↔ fits p n := fun p n => by
    rw [List.mem_filter, State.returnCandidate_iff, State.mem_slotNumbers, hput, hc]
    exact ⟨fun h => h.2, fun h => ⟨h.1.1, h⟩⟩
  obtain ⟨hscan, hnone⟩ := s.scan_spec g w kind hsource
  have hrising := s.slotNumbers_pairwise
  refine ⟨fun n => ?_, hnone, fun n => ?_, leastBy_eq_none_iff_forall hoffcut, fun p n hp hpick => ?_, fun p from' hf => ?_⟩
  · refine (hscan n).trans ?_
    exact and_congr_right fun _ => forall_congr' fun m => imp_congr_right fun _ => precedes_one_key
  · refine (leastBy_eq_some_iff (hrising.filter _) hoffcut).trans ?_
    exact and_congr_right fun _ => forall_congr' fun m => imp_congr_right fun _ => State.precedes_tier_iff
  · exact State.returnSearch_of_source ((hput p n).mpr hp) hpick
  · rw [State.returnSearch_eq_leastBy fun n hn => by rw [hput]; exact hf n hn]
    refine ⟨fun n => ?_, leastBy_eq_none_iff_forall (hfits p)⟩
    refine (leastBy_eq_some_iff (hrising.filter _) (hfits p)).trans ?_
    exact and_congr_right fun _ => forall_congr' fun m => imp_congr_right fun _ => precedes_one_key

end Sys2Proof.Machine
end

section
/-! PROOFS. The source search of a book entry (R53 to R57, R60 to R62): what it finds in the Kind Locator, what it leaves there, and
what it answers. -/

namespace Sys2Proof.Machine

/-! ## Ways and their places -/

/-- Two places of a list that give the same value, of values that are given once each, are the same place. -/
theorem index_eq_of_nodup_filterMap {α β : Type} {f : α → Option β} {l : List α} {d : α} {b : β} {i j : Nat}
    (h : (l.filterMap f).Nodup) (hd : f d = none) (hi : f (l.getD i d) = some b) (hj : f (l.getD j d) = some b) : i = j := by
  have hlt {k : Nat} (hk : f (l.getD k d) = some b) : k < l.length := by
    by_contra hn
    rw [List.getD_eq_default l d (Nat.le_of_not_lt hn), hd] at hk
    cases hk
  have hpair := List.pairwise_iff_getElem.mp (List.pairwise_filterMap.mp h)
  have hne {k k' : Nat} (hk : f (l.getD k d) = some b) (hk' : f (l.getD k' d) = some b) : ¬k < k' := fun hlt' => by
    have hk₁ := hlt hk
    have hk₂ := hlt hk'
    rw [List.getD_eq_getElem l d hk₁] at hk
    rw [List.getD_eq_getElem l d hk₂] at hk'
    exact hpair k k' hk₁ hk₂ hlt' b hk b hk' rfl
  exact Nat.le_antisymm (Nat.le_of_not_lt (hne hj hi)) (Nat.le_of_not_lt (hne hi hj))

section
variable {ws : List Way} {i j r t n a m : Nat}

theorem SetSound.tag_unique (h : SetSound ws) (hi : (wayAt ws i).tag? = some t) (hj : (wayAt ws j).tag? = some t) : i = j :=
  index_eq_of_nodup_filterMap h.2 rfl hi hj

theorem SetSound.rank_unique (h : SetSound ws) (hi : wayAt ws i = .ranked r t n) (hj : wayAt ws j = .ranked r a m) : i = j := by
  have hnodup : (ranksOf ws).Nodup := h.1.nodup_iff.mpr List.nodup_range'
  exact index_eq_of_nodup_filterMap (b := r) (d := Way.invalid) hnodup rfl (by rw [wayAt] at hi; rw [hi])
    (by rw [wayAt] at hj; rw [hj])

theorem wayAt_set_self {x : Way} (h : i < ws.length) : wayAt (ws.set i x) i = x := by rw [wayAt_set, if_pos ⟨rfl, h⟩]

theorem wayAt_set_of_ne {x : Way} (h : j ≠ i) : wayAt (ws.set i x) j = wayAt ws j := by
  rw [wayAt_set, if_neg fun hij => h hij.1.symm]

/-- A raised way is the most recent; the ways above it come down (R59). -/
theorem wayAt_raiseWay (h : i < ws.length) :
    wayAt (raiseWay ws i r t n) i = .ranked (rankedCount ws) t n ∧
      ∀ j, j ≠ i → wayAt (raiseWay ws i r t n) j = (wayAt ws j).lower r :=
  ⟨wayAt_set_self (by simpa using h), fun j hj => (wayAt_set_of_ne hj).trans (wayAt_map_lower ws r j)⟩

/-- A removed way is INVALID; the ways above it come down (R59). -/
theorem wayAt_removeWay (h : i < ws.length) :
    wayAt (removeWay ws i r) i = .invalid ∧ ∀ j, j ≠ i → wayAt (removeWay ws i r) j = (wayAt ws j).lower r :=
  ⟨wayAt_removeWay_self h, fun j hj => (wayAt_set_of_ne hj).trans (wayAt_map_lower ws r j)⟩

/-! ## The updates, way by way -/

theorem afterVerifiedHit_of_ranked (h : wayAt ws i = .ranked r t n) : afterVerifiedHit ws i = raiseWay ws i r t n := by
  rw [afterVerifiedHit, h]

theorem afterVerifiedHit_of_pinned (h : wayAt ws i = .pinned t n) : afterVerifiedHit ws i = ws := by rw [afterVerifiedHit, h]

theorem afterFailedHit_of_ranked_some (h : wayAt ws i = .ranked r t m) : afterFailedHit ws i (some n) = raiseWay ws i r t n := by
  simp only [afterFailedHit, h]

theorem afterFailedHit_of_ranked_none (h : wayAt ws i = .ranked r t m) : afterFailedHit ws i none = removeWay ws i r := by
  simp only [afterFailedHit, h]

theorem afterFailedHit_of_pinned_some (h : wayAt ws i = .pinned t m) :
    afterFailedHit ws i (some n) = ws.set i (.pinned t n) := by simp only [afterFailedHit, h]

theorem afterFailedHit_of_pinned_none (h : wayAt ws i = .pinned t m) : afterFailedHit ws i none = ws := by
  simp only [afterFailedHit, h]

/-- An insertion takes the lowest INVALID way (R62). -/
theorem afterMiss_of_invalid (pin : Bool) (hlt : i < ws.length) (hi : wayAt ws i = .invalid)
    (hlower : ∀ j, j < i → wayAt ws j ≠ .invalid) :
    afterMiss ws pin t n = ws.set i (if pin then .pinned t n else .ranked (rankedCount ws + 1) t n) := by
  have hfind : ws.findIdx? Way.isInvalid = some i := (findIdx?_eq_some_iff_getD (d := Way.invalid)).mpr
    ⟨⟨hlt, Way.isInvalid_iff.mpr hi⟩, fun j hj hc => hlower j hj (Way.isInvalid_iff.mp hc.2)⟩
  have hway : insertionWay ws = some i := by rw [insertionWay, hfind]
  simp only [afterMiss, hway, clearedFor_of_invalid hi]

theorem findIdx?_isInvalid_eq_none (h : ∀ j, j < ws.length → wayAt ws j ≠ .invalid) : ws.findIdx? Way.isInvalid = none :=
  (findIdx?_eq_none_iff_getD (d := Way.invalid)).mpr fun j hj => h j hj.1 (Way.isInvalid_iff.mp hj.2)

/-- Without an INVALID way an insertion takes the way of rank 1 (R62). -/
theorem SetSound.afterMiss_of_leastRecent (h : SetSound ws) (pin : Bool) (hfull : ∀ j, j < ws.length → wayAt ws j ≠ .invalid)
    (hi : wayAt ws i = .ranked 1 a m) : Machine.afterMiss ws pin t n =
      (Machine.removeWay ws i 1).set i (if pin then .pinned t n else .ranked (rankedCount ws) t n) := by
  have hlt : i < ws.length := lt_length_of_wayAt_ne (by rw [hi]; nofun)
  have hfind : ws.findIdx? Way.isLeastRecent = some i := by
    refine (findIdx?_eq_some_iff_getD (d := Way.invalid)).mpr ⟨⟨hlt, Way.isLeastRecent_iff.mpr ⟨a, m, hi⟩⟩, fun j hj hc => ?_⟩
    obtain ⟨a', m', hj'⟩ := Way.isLeastRecent_iff.mp hc.2
    exact hj.ne (h.rank_unique hj' hi)
  have hway : insertionWay ws = some i := by rw [insertionWay, findIdx?_isInvalid_eq_none hfull]; exact hfind
  have hcount := (h.removeWay hi).2.1
  simp only [Machine.afterMiss, hway, clearedFor_of_ranked hi, hcount]

/-- Where every way is PINNED an insertion takes none (R62). -/
theorem afterMiss_of_pinned (pin : Bool) (h : ∀ j, j < ws.length → ∃ a m, wayAt ws j = .pinned a m) :
    afterMiss ws pin t n = ws := by
  have hinvalid : ws.findIdx? Way.isInvalid = none := findIdx?_isInvalid_eq_none fun j hj hc => by
    obtain ⟨a, m, hp⟩ := h j hj
    rw [hp] at hc
    cases hc
  have hleast : ws.findIdx? Way.isLeastRecent = none := (findIdx?_eq_none_iff_getD (d := Way.invalid)).mpr fun j hj => by
    obtain ⟨a, m, hp⟩ := h j hj.1
    obtain ⟨a', m', hr⟩ := Way.isLeastRecent_iff.mp hj.2
    cases hp.symm.trans hr
  have hway : insertionWay ws = none := by rw [insertionWay, hinvalid]; exact hleast
  rw [afterMiss, hway]

end

/-! ## The lookup -/

section
variable {s : State} {g : Gantry} {w : Saw} {e : BookEntry} {kind i n : Nat}

theorem State.lookup_eq_some (hs : s.LocatorSound) (hi : (wayAt (s.locatorWays kind) i).tag? = some (locatorTag kind)) :
    s.lookup kind = some i := by
  have hlt : i < (s.locatorWays kind).length := lt_length_of_wayAt_ne fun hn => by rw [hn] at hi; cases hi
  refine (findIdx?_eq_some_iff_getD (d := Way.invalid)).mpr ⟨⟨hlt, decide_eq_true hi⟩, fun j hj hc => ?_⟩
  exact hj.ne ((hs.ways kind).2.tag_unique (of_decide_eq_true hc.2) hi)

theorem State.lookup_eq_none (h : ∀ j, (wayAt (s.locatorWays kind) j).tag? ≠ some (locatorTag kind)) :
    s.lookup kind = none :=
  (findIdx?_eq_none_iff_getD (d := Way.invalid)).mpr fun j hj => h j (of_decide_eq_true hj.2)

theorem State.locatorWays_setLocatorWays_self (hs : s.LocatorSound) (ws : List Way) :
    (s.setLocatorWays kind ws).locatorWays kind = ws := by
  have hset : locatorSet kind < s.locator.length := by rw [hs.1]; exact Nat.mod_lt _ (by decide)
  simp [State.locatorWays, State.setLocatorWays, hset]

theorem State.locatorWays_setLocatorWays_of_ne {k : Nat} (h : locatorSet k ≠ locatorSet kind) (ws : List Way) :
    (s.setLocatorWays kind ws).locatorWays k = s.locatorWays k := by
  simp [State.locatorWays, State.setLocatorWays, List.getElem?_set_ne h.symm]

/-! ## The result -/

/-- A hit is verified on an unclaimed source of the kind (R55). -/
theorem State.verified_iff : s.verified g kind n = true ↔ n ∈ s.sources g kind ∧ (s.slot n).claim = none := by
  rw [State.verified, Bool.and_eq_true, Bool.and_eq_true, decide_eq_true_iff, State.unclaimed_iff, State.sources,
    List.mem_filter, State.mem_slotNumbers]

/-- The remnant candidates of an entry, condition by condition (R53, R54). -/
theorem State.mem_remnantCandidates_iff : n ∈ s.remnantCandidates g w e ↔
    n < s.slots.length ∧ (s.saw w).settings.remnantAllowed = true ∧ s.reachable g n = true ∧
      (∃ i, s.pickArea n = some i ∧ (s.window i).remnant = true) ∧ (s.slot n).suspect = false ∧
      ∃ l b p, e.required = some (l, b) ∧ (s.slot n).stack.getLast? = some p ∧ p.origin = .remnant ∧
        s.material p.kind = s.material e.kind ∧ s.thickness p.kind = s.thickness e.kind ∧ l ≤ p.length ∧ b ≤ p.width := by
  unfold State.remnantCandidates State.remnantRequirement
  by_cases ha : (s.saw w).settings.remnantAllowed = true
  · cases hr : e.required with
    | none => simp [ha]
    | some lb =>
      simp only [ha, if_true, List.mem_filter, State.mem_slotNumbers, State.remnantCandidate, Slot.top, Bool.and_eq_true,
        Bool.not_eq_true', Option.any_eq_true, decide_eq_true_iff, State.areaRemnant_eq_some_iff, and_assoc, true_and,
        Option.some.injEq, exists_and_left, exists_eq_left', Prod.ext_iff]
  · simp [ha]

theorem State.waitOrNone_eq_wait_iff : s.waitOrNone g w e = .wait ↔
    ∃ n, (n ∈ s.remnantCandidates g w e ∨ n ∈ s.sources g e.kind) ∧ ¬(s.slot n).claim = none := by
  have hany : ((s.remnantCandidates g w e ++ s.sources g e.kind).any fun n => !s.unclaimed n) = true ↔
      ∃ n, (n ∈ s.remnantCandidates g w e ∨ n ∈ s.sources g e.kind) ∧ ¬(s.slot n).claim = none := by
    simp only [List.any_eq_true, List.mem_append, Bool.not_eq_true', ← Bool.not_eq_true, State.unclaimed_iff]
  rw [State.waitOrNone, ← hany]
  split
  · next h => exact iff_of_true rfl h
  · next h => exact iff_of_false nofun h

theorem State.waitOrNone_ne_slot : s.waitOrNone g w e ≠ .slot n := by
  unfold State.waitOrNone
  split <;> nofun

/-- A search answers a slot, or what stands in the way of one (R57). -/
theorem State.sourceSearch_fst_cases (s : State) (g : Gantry) (w : Saw) (e : BookEntry) :
    (∃ n, (s.sourceSearch g w e).1 = .slot n) ∨ (s.sourceSearch g w e).1 = s.waitOrNone g w e := by
  have hresult (o : Option Nat) : (∃ n, s.resultOf g w e o = .slot n) ∨ s.resultOf g w e o = s.waitOrNone g w e := by
    cases o with
    | some n => exact .inl ⟨n, rfl⟩
    | none => exact .inr rfl
  have hstep : (∃ n, (s.locatorStep g w e).1 = .slot n) ∨ (s.locatorStep g w e).1 = s.waitOrNone g w e := by
    unfold State.locatorStep
    repeat' split
    · exact .inl ⟨_, rfl⟩
    all_goals exact hresult _
  unfold State.sourceSearch
  split
  · exact .inl ⟨_, rfl⟩
  · split
    · exact .inl ⟨_, rfl⟩
    · exact hstep

/-- The search answers WAIT where a claim alone stands in the way (R57). -/
theorem State.sourceSearch_wait_iff : (s.sourceSearch g w e).1 = .wait ↔ (∀ n, (s.sourceSearch g w e).1 ≠ .slot n) ∧
    ∃ n, (n ∈ s.remnantCandidates g w e ∨ n ∈ s.sources g e.kind) ∧ ¬(s.slot n).claim = none := by
  rw [← State.waitOrNone_eq_wait_iff]
  rcases s.sourceSearch_fst_cases g w e with ⟨n, hn⟩ | hn
  · exact iff_of_false (by rw [hn]; nofun) fun h => h.1 n hn
  · rw [hn]
    exact ⟨fun h => ⟨fun _ => State.waitOrNone_ne_slot, h⟩, fun h => h.2⟩

/-! ## What the search leaves in the Kind Locator -/

/-- The set of a kind and the three counters of a state's Kind Locator (R58, R66). -/
structure State.Locates (t : State) (kind : Nat) (ws : List Way) (hits failed misses : Counter) : Prop where
  ways : t.locatorWays kind = ws
  hits : t.verifiedHits = hits
  failed : t.failedHits = failed
  misses : t.misses = misses

/-- A claim leaves the Kind Locator as it is. -/
theorem State.claim_differs (s : State) (n : Nat) (g : Gantry) (k : Purpose) :
    (s.claim n g k) = { s with slots := (s.claim n g k).slots } := by
  unfold State.claim
  split <;> rfl

/-- Without a remnant the search ends as its locator step does. -/
theorem State.sourceSearch_of_locatorStep {r : SourceResult} {ws : List Way} {hits failed misses : Counter}
    (hr : s.remnantSearch g w e = none)
    (hstep : (s.locatorStep g w e).1 = r ∧ (s.locatorStep g w e).2.Locates kind ws hits failed misses) :
    (s.sourceSearch g w e).1 = r ∧ (s.sourceSearch g w e).2.Locates kind ws hits failed misses := by
  obtain ⟨hresult, hleft⟩ := hstep
  unfold State.sourceSearch
  rw [hr]
  dsimp only
  split
  · next hn =>
    refine ⟨hn.symm.trans hresult, ?_⟩
    rw [State.claim_differs]
    exact ⟨hleft.ways, hleft.hits, hleft.failed, hleft.misses⟩
  · exact ⟨hresult, hleft⟩

/-- The sets of other kinds stand. -/
theorem State.sourceSearch_locatorWays_of_ne {k : Nat} (h : locatorSet k ≠ locatorSet e.kind) :
    (s.sourceSearch g w e).2.locatorWays k = s.locatorWays k := by
  have hclaim (t : State) (n : Nat) : (t.claim n g .pick).locatorWays k = t.locatorWays k := by
    rw [State.claim_differs]
    rfl
  have hstep : (s.locatorStep g w e).2.locatorWays k = s.locatorWays k := by
    unfold State.locatorStep
    repeat' split
    all_goals first
      | rfl
      | exact State.locatorWays_setLocatorWays_of_ne h _
  unfold State.sourceSearch
  split
  · exact hclaim _ _
  · split
    · exact (hclaim _ _).trans hstep
    · exact hstep

section
variable (hs : s.LocatorSound) (hr : s.remnantSearch g w e = none)
include hs hr

/-- A lookup that hits a source steps the first counter and raises the way (R60). -/
theorem State.sourceSearch_verified (hl : s.lookup e.kind = some i)
    (hslot : (wayAt (s.locatorWays e.kind) i).slot? = some n) (hv : s.verified g e.kind n = true) :
    (s.sourceSearch g w e).1 = .slot n ∧ (s.sourceSearch g w e).2.Locates e.kind
      (afterVerifiedHit (s.locatorWays e.kind) i) s.verifiedHits.step s.failedHits s.misses := by
  refine State.sourceSearch_of_locatorStep hr ?_
  rw [State.locatorStep]
  simp only [hl, hslot, hv, if_true]
  exact ⟨trivial, State.locatorWays_setLocatorWays_self hs _, rfl, rfl, rfl⟩

/-- A lookup that hits a slot which is no source steps the second counter and gives the way the scan's slot (R61). -/
theorem State.sourceSearch_failed (hl : s.lookup e.kind = some i)
    (hslot : (wayAt (s.locatorWays e.kind) i).slot? = some n) (hv : ¬s.verified g e.kind n = true) :
    (s.sourceSearch g w e).1 = s.resultOf g w e (s.scan g w e.kind) ∧ (s.sourceSearch g w e).2.Locates e.kind
      (afterFailedHit (s.locatorWays e.kind) i (s.scan g w e.kind)) s.verifiedHits s.failedHits.step s.misses := by
  refine State.sourceSearch_of_locatorStep hr ?_
  rw [State.locatorStep]
  simp only [hl, hslot, if_neg hv]
  exact ⟨trivial, State.locatorWays_setLocatorWays_self hs _, rfl, rfl, rfl⟩

/-- A lookup that misses steps the third counter and inserts the scan's slot (R62). -/
theorem State.sourceSearch_missed (hl : s.lookup e.kind = none) (hscan : s.scan g w e.kind = some n) :
    (s.sourceSearch g w e).1 = .slot n ∧ (s.sourceSearch g w e).2.Locates e.kind
      (afterMiss (s.locatorWays e.kind) s.pinMode (locatorTag e.kind) n) s.verifiedHits s.failedHits s.misses.step := by
  refine State.sourceSearch_of_locatorStep hr ?_
  rw [State.locatorStep]
  simp only [hl, hscan, State.resultOf]
  exact ⟨trivial, State.locatorWays_setLocatorWays_self hs _, rfl, rfl, rfl⟩

omit hs in
/-- A lookup that misses where the scan finds nothing leaves the set as it is. -/
theorem State.sourceSearch_missed_none (hl : s.lookup e.kind = none) (hscan : s.scan g w e.kind = none) :
    (s.sourceSearch g w e).1 = s.waitOrNone g w e ∧ (s.sourceSearch g w e).2.Locates e.kind
      (s.locatorWays e.kind) s.verifiedHits s.failedHits s.misses.step := by
  refine State.sourceSearch_of_locatorStep hr ?_
  rw [State.locatorStep]
  simp only [hl, hscan, State.resultOf]
  exact ⟨trivial, rfl, rfl, rfl, rfl⟩

end

/-! ## The remnant search -/

/-- The remnant search takes the unclaimed candidate that comes first by its keys (R54). -/
theorem State.remnantSearch_spec (s : State) (g : Gantry) (w : Saw) (e : BookEntry) {C : Nat → Prop}
    (hmem : ∀ n, n ∈ s.remnantCandidates g w e ∧ (s.slot n).claim = none ↔ C n) :
    (∀ n, s.remnantSearch g w e = some n ↔ C n ∧
      ∀ m, C m → Precedes (fun n => (s.topArea n, distance (s.geom.slotX n) (s.geom.sawPlace w).infeedX)) n m) ∧
    (s.remnantSearch g w e = none ↔ ∀ n, ¬C n) := by
  have hmem' : ∀ n, n ∈ (s.remnantCandidates g w e).filter s.unclaimed ↔ C n := fun n => by
    rw [List.mem_filter, State.unclaimed_iff, hmem]
  have hrising : (s.remnantCandidates g w e).Pairwise (· < ·) := by
    unfold State.remnantCandidates
    split
    · exact s.slotNumbers_pairwise.filter _
    · exact List.Pairwise.nil
  exact ⟨fun n => leastBy_eq_some_iff (hrising.filter _) hmem', leastBy_eq_none_iff_forall hmem'⟩

theorem State.sourceSearch_of_remnant (h : s.remnantSearch g w e = some n) :
    s.sourceSearch g w e = (.slot n, s.claim n g .pick) := by rw [State.sourceSearch, h]

/-- The slot that a search chooses was unclaimed, and the gantry claims it for PICK (R25, R57). -/
theorem State.sourceSearch_claims (h : (s.sourceSearch g w e).1 = .slot n) :
    (s.slot n).claim = none ∧ ((s.sourceSearch g w e).2.slot n).claim = some ⟨g, .pick⟩ := by
  obtain ⟨hpick, t, hdiffers, heq⟩ := State.sourceSearch_slot h
  have hslots := hdiffers.slots
  have hslot : t.slot n = s.slot n := by rw [State.slot, hslots, State.slot]
  rw [heq, State.claim_eq (by rw [hslot]; exact hpick.unclaimed) (by rw [hslot]; exact hpick.clear), State.slot_setSlot,
    if_pos (by rw [hslots]; exact hpick.slot)]
  exact ⟨hpick.unclaimed, rfl⟩

end

/-- Settles O37: the lookup finds the one way with the kind's tag, and each outcome updates that set as its rule says. -/
theorem sourceSearchSteps : Obligations.SourceSearchSteps := by
  intro s g w e hc hs r t source offcut free area infeed tag old new ranked lowered raised counted chosen
  obtain ⟨h4, hsound⟩ := hs.ways e.kind
  have hsource : ∀ n, n ∈ s.sources g e.kind ↔ source n := fun n => by rw [State.mem_sources_iff, hc]
  have hoffcut : ∀ n, n ∈ s.remnantCandidates g w e ↔ offcut n := fun n => by rw [State.mem_remnantCandidates_iff, hc]
  have hlowered : ∀ q j, (wayAt (s.locatorWays e.kind) j).lower q = lowered q j := fun q j => by
    dsimp only [lowered, old, wayAt]
    cases (s.locatorWays e.kind).getD j .invalid <;> rfl
  obtain ⟨hremnant, hnone⟩ := s.remnantSearch_spec g w e fun n => and_congr_left' (hoffcut n)
  have hwait : r.1 = .wait ↔ (∀ n, r.1 ≠ .slot n) ∧ ∃ n, (offcut n ∨ source n) ∧ ¬free n := by
    simpa only [hoffcut, hsource] using s.sourceSearch_wait_iff (g := g) (w := w) (e := e)
  have hverified : ∀ n, s.verified g e.kind n = true ↔ source n ∧ free n := fun n => by rw [State.verified_iff, hsource]
  have hnoSlot : r.1 = s.waitOrNone g w e → ∀ n, r.1 ≠ .slot n := fun h n => by
    rw [h]
    exact State.waitOrNone_ne_slot
  have hraised : ∀ {i q n}, i < 4 → t.locatorWays e.kind = raiseWay (s.locatorWays e.kind) i q tag n → raised i q n :=
    fun {i q n} hi hways => by
      obtain ⟨hself, hothers⟩ := wayAt_raiseWay (r := q) (t := tag) (n := n) (h4.symm ▸ hi)
      rw [← hways] at hself hothers
      exact ⟨hself, fun j hj => (hothers j hj).trans (hlowered q j)⟩
  have hset : ∀ {i x} {ws : List Way}, i < ws.length → t.locatorWays e.kind = ws.set i x →
      new i = x ∧ ∀ j, j ≠ i → new j = wayAt ws j := fun hi hways => by
    dsimp only [new]
    rw [hways]
    exact ⟨wayAt_set_self hi, fun j hj => wayAt_set_of_ne hj⟩
  refine ⟨hnone, fun n hn => ?_, fun n hn => State.sourceSearch_claims hn, hwait,
    fun k hk => State.sourceSearch_locatorWays_of_ne hk, fun hr => ⟨fun hmiss => ?_, fun i hi htag => ?_⟩⟩
  · obtain ⟨⟨hcand, hfree⟩, hfirst⟩ := (hremnant n).mp hn
    exact ⟨hcand, hfree, State.sourceSearch_of_remnant hn, fun m hm hm' => hfirst m ⟨hm, hm'⟩⟩
  · have hl : s.lookup e.kind = none := State.lookup_eq_none hmiss
    cases hscan : s.scan g w e.kind with
    | none =>
      obtain ⟨hresult, hways, hhits, hfailed, hmisses⟩ := State.sourceSearch_missed_none hr hl hscan
      exact ⟨⟨hhits, hfailed, hmisses⟩, fun _ => ⟨hnoSlot hresult, hways⟩, fun n hn => nomatch hscan.symm.trans hn⟩
    | some n =>
      obtain ⟨hresult, hways, hhits, hfailed, hmisses⟩ := State.sourceSearch_missed hs hr hl hscan
      refine ⟨⟨hhits, hfailed, hmisses⟩, fun hn => (nomatch hscan.symm.trans hn), fun n' hn => ?_⟩
      obtain rfl : n = n' := Option.some.inj (hscan.symm.trans hn)
      refine ⟨hresult, fun i hi hinvalid hlower => ?_, fun i a m hfull hi hleast => ?_, fun hpinned => ?_⟩
      · exact hset (h4.symm ▸ hi) (hways.trans (afterMiss_of_invalid _ (h4.symm ▸ hi) hinvalid hlower))
      · obtain ⟨hself, hothers⟩ := hset (length_removeWay.trans h4 ▸ hi)
          (hways.trans (hsound.afterMiss_of_leastRecent _ (h4.symm ▸ hfull) hleast))
        exact ⟨hself, fun j hj => (hothers j hj).trans (((wayAt_removeWay (h4.symm ▸ hi)).2 j hj).trans (hlowered 1 j))⟩
      · exact hways.trans (afterMiss_of_pinned _ (h4.symm ▸ hpinned))
  · have hl : s.lookup e.kind = some i := State.lookup_eq_some hs htag
    refine ⟨fun m hslot hm hfree => ?_, fun m hslot hm => ?_⟩
    · obtain ⟨hresult, hways, hhits, hfailed, hmisses⟩ :=
        State.sourceSearch_verified hs hr hl hslot ((hverified m).mpr ⟨hm, hfree⟩)
      refine ⟨hresult, ⟨hhits, hfailed, hmisses⟩, fun q hq => ?_, fun hq => ?_⟩
      · exact hraised hi (hways.trans (afterVerifiedHit_of_ranked hq))
      · exact hways.trans (afterVerifiedHit_of_pinned hq)
    · obtain ⟨hresult, hways, hhits, hfailed, hmisses⟩ :=
        State.sourceSearch_failed hs hr hl hslot fun hv => hm ((hverified m).mp hv)
      refine ⟨⟨hhits, hfailed, hmisses⟩, fun n hn => ?_, fun hn => ?_⟩
      · rw [show s.scan g w e.kind = some n from hn] at hresult hways
        refine ⟨hresult, fun q hq => ?_, fun hq => ?_⟩
        · exact hraised hi (hways.trans (afterFailedHit_of_ranked_some hq))
        · exact hset (h4.symm ▸ hi) (hways.trans (afterFailedHit_of_pinned_some hq))
      · rw [show s.scan g w e.kind = none from hn] at hresult hways
        refine ⟨hnoSlot hresult, fun q hq => ?_, fun hq => ?_⟩
        · obtain ⟨hself, hothers⟩ := wayAt_removeWay (r := q) (h4.symm ▸ hi)
          rw [← afterFailedHit_of_ranked_none hq, ← hways] at hself hothers
          exact ⟨hself, fun j hj => (hothers j hj).trans (hlowered q j)⟩
        · exact hways.trans (afterFailedHit_of_pinned_none hq)

end Sys2Proof.Machine
end

section
/-! PROOFS. Spans of the runway (R73 to R75, R83): the standing and travel spans, and what the checks 103 to 106 of a layout say of
them. -/

namespace Sys2Proof.Machine

/-! ## Spans -/

theorem Layout.travel_self (l : Layout) (g : Gantry) (x : Nat) : l.travel g x x = l.standing g x := by
  rw [Layout.travel, Nat.min_self, Nat.max_self, Layout.standing]

/-- A travel span contains the standing span at every position between its ends (R74). -/
theorem Layout.standing_within_travel (l : Layout) (g : Gantry) {a b x : Nat} (hlo : min a b ≤ x) (hhi : x ≤ max a b) :
    (l.travel g a b).lo ≤ (l.standing g x).lo ∧ (l.standing g x).hi ≤ (l.travel g a b).hi := by
  refine ⟨Nat.sub_le_sub_right hlo _, ?_⟩
  show min l.runwayLength _ ≤ min l.runwayLength _
  omega

/-- Settles O21: a difference of natural numbers is the one of integers clamped at 0. -/
theorem spansClampedToRunway : Obligations.SpansClampedToRunway := by
  intro l g a b x h c
  refine ⟨?_, ?_, ?_, ?_, l.travel_self g a, fun hlo hhi => l.standing_within_travel g hlo hhi⟩
  · show ((x - ((l.gantries.get g).half + l.margin) : Nat) : Int) = max 0 (x - h - c)
    omega
  · show ((min l.runwayLength (x + (l.gantries.get g).half + l.margin) : Nat) : Int) = min (l.runwayLength : Int) (x + h + c)
    omega
  · show ((min a b - ((l.gantries.get g).half + l.margin) : Nat) : Int) = max 0 (min (a : Int) b - h - c)
    omega
  · show ((min l.runwayLength (max a b + (l.gantries.get g).half + l.margin) : Nat) : Int) =
      min (l.runwayLength : Int) (max (a : Int) b + h + c)
    omega

/-! ## Valid layouts -/

/-- Every check of the cross stage holds of a valid layout (R3, TABLE 1.4). -/
theorem Layout.crossCheck_of_valid {l : Layout} (h : l.firstFailure = none) (i : Nat) (hi : i < l.crossChecks.length) :
    (l.crossChecks[i]).2 = true := by
  have hnone := List.find?_eq_none.mp (Option.map_eq_none_iff.mp h) _ (List.mem_append_right _ (List.getElem_mem hi))
  simpa using hnone

/-- Checks 103 and 104 (TABLE 1.4). -/
theorem Layout.limits_of_valid {l : Layout} (h : l.firstFailure = none) (g : Gantry) :
    (l.gantries.get g).half ≤ (l.gantries.get g).limLo ∧ (l.gantries.get g).limLo < (l.gantries.get g).limHi ∧
      (l.gantries.get g).limHi + (l.gantries.get g).half ≤ l.runwayLength := by
  cases g with
  | west => exact of_decide_eq_true (l.crossCheck_of_valid h 2 (by show 2 < 8; decide))
  | east => exact of_decide_eq_true (l.crossCheck_of_valid h 3 (by show 3 < 8; decide))

/-- Checks 105 and 106 (TABLE 1.4). -/
theorem Layout.limits_apart_of_valid {l : Layout} (h : l.firstFailure = none) :
    l.gantries.west.limLo + l.gantries.west.half + l.margin + (l.gantries.east.half + l.margin) < l.gantries.east.limLo ∧
      l.gantries.west.limHi + l.gantries.west.half + l.margin + (l.gantries.east.half + l.margin) < l.gantries.east.limHi :=
  ⟨of_decide_eq_true (l.crossCheck_of_valid h 4 (by show 4 < 8; decide)),
    of_decide_eq_true (l.crossCheck_of_valid h 5 (by show 5 < 8; decide))⟩

theorem GantryGeometry.reaches_iff (k : GantryGeometry) (x : Nat) : k.reaches x = true ↔ k.limLo ≤ x ∧ x ≤ k.limHi :=
  decide_eq_true_iff

theorem Layout.home_reached {l : Layout} (h : l.firstFailure = none) (g : Gantry) : (l.gantries.get g).reaches (l.home g) = true := by
  have hlt := (l.limits_of_valid h g).2.1
  rw [GantryGeometry.reaches_iff]
  cases g with
  | west => exact ⟨Nat.le_refl _, hlt.le⟩
  | east => exact ⟨hlt.le, Nat.le_refl _⟩

/-- The standing spans at the two homes are disjoint (R73). -/
theorem Layout.homes_apart {l : Layout} (h : l.firstFailure = none) :
    (l.standing .west (l.home .west)).hi < (l.standing .east (l.home .east)).lo := by
  obtain ⟨h105, -⟩ := l.limits_apart_of_valid h
  obtain ⟨-, hlt, -⟩ := l.limits_of_valid h .east
  change l.gantries.east.limLo < l.gantries.east.limHi at hlt
  show min l.runwayLength (l.gantries.west.limLo + l.gantries.west.half + l.margin) <
    l.gantries.east.limHi - (l.gantries.east.half + l.margin)
  omega

/-- A gantry's yield before a travel of the other ends within its limits and clear of the travel (R83, TABLE 5.4). -/
theorem State.yieldTarget_possible {s : State} {l : Layout} (hl : s.layout = some l) (h : l.firstFailure = none) {g : Gantry}
    {a b : Nat} (hx : (l.gantries.get g).reaches (s.pos g) = true) (ha : (l.gantries.get (otherGantry g)).reaches a = true)
    (hb : (l.gantries.get (otherGantry g)).reaches b = true) :
    (l.gantries.get g).reaches (s.yieldTarget g (l.travel (otherGantry g) a b)) = true ∧
      clearOf g (l.standing g (s.yieldTarget g (l.travel (otherGantry g) a b))) (l.travel (otherGantry g) a b) = true := by
  have hgeom : s.geom = l := by rw [State.geom, hl]; rfl
  obtain ⟨h105, h106⟩ := l.limits_apart_of_valid h
  rw [GantryGeometry.reaches_iff] at *
  cases g with
  | west =>
    change l.gantries.west.limLo ≤ _ ∧ _ ≤ l.gantries.west.limHi at hx
    change l.gantries.east.limLo ≤ _ ∧ _ ≤ l.gantries.east.limHi at ha hb
    simp only [State.yieldTarget, State.gantryGeom, hgeom, clearOf, decide_eq_true_iff, Layout.standing, Layout.travel,
      otherGantry, PerGantry.get]
    omega
  | east =>
    change l.gantries.east.limLo ≤ _ ∧ _ ≤ l.gantries.east.limHi at hx
    change l.gantries.west.limLo ≤ _ ∧ _ ≤ l.gantries.west.limHi at ha hb
    simp only [State.yieldTarget, State.gantryGeom, hgeom, clearOf, decide_eq_true_iff, Layout.standing, Layout.travel,
      otherGantry, PerGantry.get]
    omega

/-- Settles O24: checks 103 to 106 leave the room that the homes and the yields need. -/
theorem yieldAlwaysPossible : Obligations.YieldAlwaysPossible :=
  fun _ l _ _ _ hl h => ⟨l.home_reached h, l.homes_apart h, fun hx ha hb => State.yieldTarget_possible hl h hx ha hb⟩

end Sys2Proof.Machine
end

section
/-! PROOFS. The travel time and the limit of a step (R91, R92). -/

namespace Sys2Proof.Machine

/-- ⌈a / b⌉ is the least multiplier that takes b up to a. -/
theorem ceilDiv_le_iff {b : Nat} (hb : 1 ≤ b) (a k : Nat) : ceilDiv a b ≤ k ↔ a ≤ k * b := by
  rw [ceilDiv, ← Nat.lt_succ_iff, Nat.div_lt_iff_lt_mul hb, Nat.succ_mul]
  omega

/-- A quotient that is rounded up covers the dividend, and no smaller number does. -/
theorem ceilDiv_least {b : Nat} (hb : 1 ≤ b) (a : Nat) : a ≤ ceilDiv a b * b ∧ ∀ k, a ≤ k * b → ceilDiv a b ≤ k :=
  ⟨(ceilDiv_le_iff hb a _).mp (Nat.le_refl _), fun k => (ceilDiv_le_iff hb a k).mpr⟩

theorem travelTime_cruise {d v a : Nat} (hd : 1 ≤ d) (h : v * v ≤ d * a) :
    travelTime d v a = ceilDiv (1000 * d) v + ceilDiv (1000 * v) a := by
  rw [travelTime, if_neg (by omega), if_pos h]

theorem travelTime_short {d v a : Nat} (hd : 1 ≤ d) (h : d * a < v * v) : travelTime d v a = shortTime d a := by
  rw [travelTime, if_neg (by omega), if_neg (by omega)]

/-- The number built bit by bit is the last one below the bound: where a number is below it, and the number 2^k further on is not,
the k lower bits lead to the last one. -/
theorem largestBelow_last (d a k u : Nat) (hlo : u * u * a < 4000000 * d)
    (hhi : 4000000 * d ≤ (u + 2 ^ k) * (u + 2 ^ k) * a) :
    let r := largestBelow d a (List.range k).reverse u
    r * r * a < 4000000 * d ∧ 4000000 * d ≤ (r + 1) * (r + 1) * a := by
  induction k generalizing u with
  | zero => exact ⟨hlo, hhi⟩
  | succ k ih =>
    rw [List.range_succ, List.reverse_append, List.reverse_singleton, List.singleton_append, largestBelow]
    split
    · next hbit => exact ih _ hbit (by rwa [Nat.add_assoc, ← Nat.two_mul, ← Nat.pow_succ'])
    · next hbit => exact ih _ hlo (Nat.le_of_not_lt hbit)

/-- The short case's time is the least one that is long enough (R91). -/
theorem shortTime_least {d a : Nat} (hd : 1 ≤ d) (hd' : d ≤ 60000) (ha : 1 ≤ a) :
    4000000 * d ≤ shortTime d a * shortTime d a * a ∧ ∀ k, 4000000 * d ≤ k * k * a → shortTime d a ≤ k := by
  have hbound : 4000000 * d ≤ (0 + 2 ^ 32) * (0 + 2 ^ 32) * a :=
    calc 4000000 * d ≤ (0 + 2 ^ 32) * (0 + 2 ^ 32) * 1 := by omega
      _ ≤ (0 + 2 ^ 32) * (0 + 2 ^ 32) * a := Nat.mul_le_mul_left _ ha
  obtain ⟨hbelow, hreached⟩ := largestBelow_last d a 32 0 (by omega) hbound
  refine ⟨hreached, fun k hk => ?_⟩
  by_contra hlt
  have hle : k ≤ largestBelow d a bitPlaces 0 := Nat.lt_succ_iff.mp (Nat.lt_of_not_le hlt)
  exact absurd (hk.trans (Nat.mul_le_mul_right a (Nat.mul_le_mul hle hle))) (Nat.not_le.mpr hbelow)

/-- Settles O38: the rounded quotients of the cruise case, the search bit by bit of the short case, and R92's formula. -/
theorem travelTimeAndLimit : Obligations.TravelTimeAndLimit := by
  refine ⟨fun v a => rfl, fun d v a hd hv ha h => ?_, fun d v a hd hd' ha h => ?_, fun l g kind d => ?_⟩
  · exact ⟨_, _, travelTime_cruise hd h, ceilDiv_least hv _, ceilDiv_least ha _⟩
  · rw [travelTime_short hd h]
    exact shortTime_least hd hd' ha
  · intro handling t
    obtain ⟨hcovers, hleast⟩ := ceilDiv_least (b := 2) (by decide) (3 * (t + handling))
    refine ⟨ceilDiv (3 * (t + handling)) 2, by omega, fun k hk => hleast k (by omega), ?_⟩
    cases kind <;> rfl

end Sys2Proof.Machine
end

section
/-! PROOFS. The runway taken gantry by gantry: what a gantry's record asks of its reservation, and that grants, waits and yields keep
it (R73 to R85, R101, R103). -/

namespace Sys2Proof.Machine

/-! ## What is kept -/

/-- A span holds a position and ends within a runway of the given length. -/
def Span.Covers (v : Span) (x n : Nat) : Prop := v.lo ≤ x ∧ x ≤ v.hi ∧ v.hi ≤ n

/-- A gantry's record agrees with a runway of the given length: the gantry stands within its reservation (R73, R88, R98), the step that
it waits with asks for a span that holds it (R77), and an outstanding step is a STEPPING gantry's, made within its reservation (R103). -/
structure GantryRecord.Reserves (r : GantryRecord) (n : Nat) : Prop where
  stands : ∃ x v, r.position = some x ∧ r.reservation = some v ∧ v.Covers x n
  asks : r.state = .waitGrant → ∀ c, r.current = some c → ∃ q, c.request = some q ∧ q.span.Covers (r.position.getD 0) n
  outstanding : ∀ i, r.issued = some i → r.state = .stepping ∧ r.reservation = some i.span

/-- The runway is sound under a layout: with what `State.RunwaySound` says, a step that waits holds its request. -/
structure State.Reserved (s : State) : Prop where
  cell : s.cell ≠ .noLayout
  loader : s.loader ≠ .reading
  layout : ∃ l, s.layout = some l ∧ l.firstFailure = none
  apart : (s.span .west).hi < (s.span .east).lo
  gantry : ∀ g, (s.gantry g).Reserves s.geom.runwayLength

/-- A change of anything but the cell, the loader, the layout and the gantries. -/
theorem State.Reserved.congr {s t : State} (h : s.Reserved) (hcell : t.cell = s.cell) (hloader : t.loader = s.loader)
    (hlayout : t.layout = s.layout) (hgantries : t.gantries = s.gantries) : t.Reserved := by
  have hg := State.gantry_of_gantries hgantries
  have hspan (g : Gantry) : t.span g = s.span g := by rw [State.span, hg, State.span]
  have hgeom : t.geom = s.geom := by rw [State.geom, hlayout, State.geom]
  exact ⟨by rw [hcell]; exact h.cell, by rw [hloader]; exact h.loader, by rw [hlayout]; exact h.layout,
    by rw [hspan, hspan]; exact h.apart, fun g => by rw [hg, hgeom]; exact h.gantry g⟩

/-! ## Spans -/

theorem GantryRecord.Reserves.covers {r : GantryRecord} {n : Nat} (h : r.Reserves n) :
    (r.reservation.getD ⟨0, 0⟩).Covers (r.position.getD 0) n := by
  obtain ⟨x, v, hx, hv, hc⟩ := h.stands
  rw [hx, hv]
  exact hc

theorem State.Reserved.covers {s : State} (h : s.Reserved) (g : Gantry) : (s.span g).Covers (s.pos g) s.geom.runwayLength :=
  (h.gantry g).covers

theorem State.Reserved.isClear_span {s : State} (h : s.Reserved) (g : Gantry) : s.isClear g (s.span g) = true := by
  rw [State.isClear_iff]
  cases g <;> exact h.apart

theorem Layout.travel_covers (l : Layout) (g : Gantry) {a : Nat} (b : Nat) (ha : a ≤ l.runwayLength) :
    (l.travel g a b).Covers a l.runwayLength := by
  simp only [Span.Covers, Layout.travel]
  omega

theorem Layout.standing_covers (l : Layout) (g : Gantry) {x : Nat} (hx : x ≤ l.runwayLength) :
    (l.standing g x).Covers x l.runwayLength := by
  rw [← l.travel_self]
  exact l.travel_covers g x hx

/-- What a step asks for holds the gantry (R77, R82). -/
theorem State.Reserved.requestedSpan_covers {s : State} (h : s.Reserved) (g : Gantry) (step : Step) :
    (s.requestedSpan g step).Covers (s.pos g) s.geom.runwayLength := by
  obtain ⟨hlo, hhi, hend⟩ := h.covers g
  obtain ⟨htlo, hthi, htend⟩ := s.geom.travel_covers g step.target (hhi.trans hend)
  unfold State.requestedSpan
  split
  · exact h.covers g
  · cases g with
    | west => exact ⟨htlo, hhi, hend⟩
    | east => exact ⟨hlo, hthi, htend⟩
  · exact ⟨htlo, hthi, htend⟩

/-! ## Records -/

section
variable {s : State} (h : s.Reserved) {g : Gantry} {r : GantryRecord}
include h

/-- A gantry's record is replaced by one that agrees with the runway and lies clear of the other gantry. -/
theorem State.Reserved.setGantry (hr : r.Reserves s.geom.runwayLength)
    (hclear : s.isClear g (r.reservation.getD ⟨0, 0⟩) = true) : (s.setGantry g r).Reserved := by
  refine ⟨h.cell, h.loader, h.layout, ?_, both_gantries g ?_ ?_⟩
  · rw [State.isClear_iff] at hclear
    rw [State.setGantry_span, State.setGantry_span]
    cases g <;> exact hclear
  · rw [State.setGantry_gantry_same]
    exact hr
  · rw [State.setGantry_gantry_other]
    exact h.gantry _

/-- A gantry keeps its position and its reservation. -/
theorem State.Reserved.keepSpan (hp : r.position = (s.gantry g).position) (hv : r.reservation = (s.gantry g).reservation)
    (asks : r.state = .waitGrant → ∀ c, r.current = some c → ∃ q, c.request = some q ∧ q.span.Covers (s.pos g) s.geom.runwayLength)
    (outstanding : ∀ i, r.issued = some i → r.state = .stepping ∧ (s.gantry g).reservation = some i.span) :
    (s.setGantry g r).Reserved := by
  refine h.setGantry ⟨?_, ?_, ?_⟩ ?_
  · rw [hp, hv]; exact (h.gantry g).stands
  · rw [hp]; exact asks
  · rw [hv]; exact outstanding
  · rw [hv]; exact h.isClear_span g

/-- It keeps its state and its step as well. -/
theorem State.Reserved.keepStep (hp : r.position = (s.gantry g).position) (hv : r.reservation = (s.gantry g).reservation)
    (hs : r.state = (s.gantry g).state) (hc : r.current = (s.gantry g).current) : (s.setGantry g r).Reserved := by
  refine h.keepSpan hp hv ?_ ?_
  · rw [hs, hc]; exact (h.gantry g).asks
  · rw [GantryRecord.issued, hs, hc]; exact (h.gantry g).outstanding

/-- It has no outstanding step, and waits with none. -/
theorem State.Reserved.noStep (hp : r.position = (s.gantry g).position) (hv : r.reservation = (s.gantry g).reservation)
    (hi : r.issued = none) (hw : r.state = .waitGrant → r.current = none) : (s.setGantry g r).Reserved := by
  refine h.keepSpan hp hv (fun hs c hc => ?_) fun i hi' => ?_
  · rw [hw hs] at hc; cases hc
  · rw [hi] at hi'; cases hi'
end

/-! ## Grants and waits -/

section
variable {s : State} (h : s.Reserved) {g : Gantry}
include h

theorem State.Reserved.push (p : Port) (m : Pushed) : (s.push p m).Reserved := h.congr rfl rfl rfl rfl

theorem State.Reserved.issue (step : Step) {v : Span} (hv : v.Covers (s.pos g) s.geom.runwayLength) (hclear : s.isClear g v = true) :
    (s.issue g step v).Reserved := by
  refine (h.setGantry ⟨?_, fun hs => ?_, fun i hi => ?_⟩ hclear).push _ _
  · obtain ⟨x, u, hx, -, -⟩ := (h.gantry g).stands
    rw [State.pos, hx] at hv
    exact ⟨x, v, hx, rfl, hv⟩
  · cases hs
  · cases hi
    exact ⟨rfl, rfl⟩

theorem State.Reserved.await (step : Step) {v : Span} (hv : v.Covers (s.pos g) s.geom.runwayLength) (k : Verdict) :
    (s.await g step v k).Reserved := by
  refine h.keepSpan rfl rfl (fun _ c hc => ?_) fun i hi => ?_
  · cases hc
    exact ⟨_, rfl, hv⟩
  · cases hi

theorem State.Reserved.dwellFor (step : Step) (m : Moment) : (s.dwellFor g step m).Reserved :=
  h.noStep rfl rfl rfl fun hs => by cases hs

theorem State.Reserved.requestYield (step : Step) {v : Span} (hv : v.Covers (s.pos g) s.geom.runwayLength) :
    (s.requestYield g step v).Reserved := by
  unfold State.requestYield
  split
  · next hclear => exact h.issue step hv hclear
  · exact h.await step hv _

theorem State.Reserved.prepareYield (step : Step) : (s.prepareYield g step).Reserved := by
  unfold State.prepareYield
  split
  · exact h.dwellFor step _
  · exact h.requestYield step (h.requestedSpan_covers g step)

theorem State.Reserved.orderYield (v : Span) (f : Option FormerState) : (s.orderYield g v f).Reserved :=
  (h.keepStep (r := { s.gantry g with former := f, yieldsMade := (s.gantry g).yieldsMade.step }) rfl rfl rfl rfl).prepareYield _

/-- A step is set aside for a yield (R85). -/
theorem State.Reserved.yieldAside (a : Option Step) (m : Option Moment) (v : Span) :
    ((s.setGantry g { s.gantry g with setAside := a, current := none, dwellEnd := m }).orderYield g v none).Reserved :=
  (h.noStep (r := { s.gantry g with setAside := a, current := none, dwellEnd := m }) rfl rfl rfl fun _ => rfl).orderYield v none

variable (step : Step) {v : Span} (hv : v.Covers (s.pos g) s.geom.runwayLength)
include hv

theorem State.Reserved.cross : (s.cross g step v).Reserved := by
  unfold State.cross
  split
  · exact h.yieldAside _ _ _
  · exact (h.await step hv _).yieldAside _ _ _

theorem State.Reserved.judge : (s.judge g step v).1.Reserved := by
  unfold State.judge
  split
  · next hclear => exact h.issue step hv hclear
  · split
    · exact (h.await step hv _).orderYield _ _
    · exact (h.await step hv _).orderYield _ _
    · split
      · exact h.await step hv _
      · exact h.cross step hv
    · exact h.await step hv _
    · exact h.await step hv _
    · exact h.await step hv _
    all_goals exact h.noStep rfl rfl rfl fun _ => rfl

theorem State.Reserved.request : (s.request g step v).1.Reserved := by
  unfold State.request
  split
  · exact h.issue step (h.covers g) (h.isClear_span g)
  · exact h.requestYield step hv
  · exact h.judge step hv
end

theorem State.Reserved.prepare {s : State} (h : s.Reserved) (g : Gantry) (step : Step) : (s.prepare g step).1.Reserved := by
  unfold State.prepare
  split
  · exact h.dwellFor step _
  · exact h.request step (h.requestedSpan_covers g step)

end Sys2Proof.Machine
end

section
/-! PROOFS. Lift Execution keeps the runway sound: each of its operations leaves a gantry's position and reservation to the grant of
its next step (R75 to R85, R153 to R168). -/

namespace Sys2Proof.Machine

/-! ## What the gantries do not show in -/

theorem State.LocatorDiffers.loader {s t : State} (h : s.LocatorDiffers t) : t.loader = s.loader := by
  rw [State.LocatorDiffers] at h; rw [h]

section
variable {s : State} (h : s.Reserved)
include h

theorem State.Reserved.latch (p : Port) (f : ChangeFlag) : (s.latch p f).Reserved := h.congr rfl rfl rfl rfl

theorem State.Reserved.opportunity : s.opportunity.Reserved := h.congr rfl rfl rfl rfl

theorem State.Reserved.setSaw (w : Saw) (r : SawRecord) : (s.setSaw w r).Reserved := h.congr rfl rfl rfl rfl

theorem State.Reserved.retry (g : Gantry) : (s.retry g).Reserved := by
  unfold State.retry
  split
  · exact h.congr rfl rfl rfl rfl
  · exact h

theorem State.Reserved.storeChange : s.storeChange.Reserved := (h.retry _).retry _

theorem State.Reserved.claim (n : Nat) (g : Gantry) (p : Purpose) : (s.claim n g p).Reserved := by
  unfold State.claim
  split
  · exact h.congr rfl rfl rfl rfl
  · exact h

theorem State.Reserved.releaseClaim (n : Nat) : (s.releaseClaim n).Reserved := by
  unfold State.releaseClaim
  split
  · exact h
  · exact State.Reserved.storeChange (h.congr rfl rfl rfl rfl)

theorem State.Reserved.markSuspect (n : Nat) : (s.markSuspect n).Reserved := (h.releaseClaim n).congr rfl rfl rfl rfl

theorem State.Reserved.lay (n : Nat) (p : Panel) : (s.lay n p).Reserved := h.congr rfl rfl rfl rfl

theorem State.Reserved.unlay (n k : Nat) : (s.unlay n k).Reserved := h.congr rfl rfl rfl rfl

theorem State.Reserved.freeRecord (n : Nat) : (s.freeRecord n).Reserved := h.congr rfl rfl rfl rfl

theorem State.Reserved.sourceSearch (g : Gantry) (w : Saw) (e : BookEntry) : (s.sourceSearch g w e).2.Reserved := by
  have hd := s.locatorStep_differs g w e
  have hstep : (s.locatorStep g w e).2.Reserved := h.congr hd.cell hd.loader hd.layout hd.gantries
  unfold State.sourceSearch
  split
  · exact h.claim _ _ _
  · split
    · exact hstep.claim _ _ _
    · exact hstep

theorem State.Reserved.abortBook (w : Saw) (b : Book) (c : BookFault) : (s.abortBook w b c).Reserved :=
  (h.setSaw _ _).push _ _

theorem State.Reserved.abortAssembling (w : Saw) (tag : Word) (c : BookFault) : (s.abortAssembling w tag c).Reserved := by
  unfold State.abortAssembling
  split
  · exact (h.abortBook w _ c).opportunity
  · exact h

theorem State.Reserved.releaseBook (w : Saw) (tag : Word) : (s.releaseBook w tag).Reserved := by
  unfold State.releaseBook
  split
  · exact ((h.setSaw _ _).push _ _).opportunity
  · exact h

theorem State.Reserved.endOffer (g : Gantry) (w : Saw) (o : OfferOutcome) (c : Option BookFault) (n : Nat) (v : Option SlotName) :
    (s.endOffer g w o c n v).Reserved := by
  unfold State.endOffer
  split
  · exact (h.setSaw _ _).push _ _
  · exact h

theorem State.Reserved.updateBookAt (g : Gantry) (f : Book → Book) : (s.updateBookAt g f).Reserved := by
  unfold State.updateBookAt
  split
  · exact h.setSaw _ _
  · exact h

/-! ## Tasks and returns -/

theorem State.Reserved.updateTask (g : Gantry) (f : Task → Task) : (s.updateTask g f).Reserved := h.keepStep rfl rfl rfl rfl

theorem State.Reserved.takeOnHead (g : Gantry) (p : Panel) : (s.takeOnHead g p).Reserved := h.keepStep rfl rfl rfl rfl

theorem State.Reserved.becomeIdle (g : Gantry) : (s.becomeIdle g).Reserved :=
  (h.noStep (r := (s.gantry g).idled) rfl rfl rfl fun _ => rfl).opportunity

theorem State.Reserved.strand (g : Gantry) : (s.strand g).Reserved := by
  refine State.Reserved.latch ?_ _ _
  exact h.noStep rfl rfl rfl fun _ => rfl

theorem State.Reserved.putTo (g : Gantry) (n : Nat) : (s.putTo g n).Reserved := by
  have hp := ((h.claim n g .put).updateTask g fun t => { t with phase := .putting, destination := some n }).prepare g (s.putStep n)
  unfold State.putTo State.beginPut
  split
  · next heq => rw [heq] at hp; exact hp
  · next heq => rw [heq] at hp; exact (hp.releaseClaim n).strand g

theorem State.Reserved.seekPut (g : Gantry) : (s.seekPut g).Reserved := by
  unfold State.seekPut
  split
  · exact h.putTo g _
  · exact h.strand g

theorem State.Reserved.seekAgain (g : Gantry) : (s.seekAgain g).Reserved := by
  unfold State.seekAgain
  split
  · exact h.putTo g _
  · exact h

theorem State.Reserved.beginReturn (g : Gantry) (n : Option Nat) : (s.beginReturn g n).Reserved := by
  refine State.Reserved.seekPut ?_ g
  exact h.noStep rfl rfl rfl fun _ => rfl

theorem State.Reserved.afterBook (g : Gantry) (n : Option Nat) : (s.afterBook g n).Reserved := by
  unfold State.afterBook
  split
  · exact h.becomeIdle g
  · exact h.beginReturn g n

theorem State.Reserved.endBook (g : Gantry) (c : BookFault) : (s.endBook g c).Reserved := by
  unfold State.endBook
  split
  · exact (h.abortAssembling _ _ c).afterBook g _
  · exact h

theorem State.Reserved.releasePick (g : Gantry) : (s.releasePick g).Reserved := by
  unfold State.releasePick
  split
  · split
    · exact h.releaseClaim _
    · exact h
  · exact h

theorem State.Reserved.releaseDestination (g : Gantry) : (s.releaseDestination g).Reserved := by
  unfold State.releaseDestination
  split
  · exact h.releaseClaim _
  · exact h

theorem State.Reserved.freeBlank (g : Gantry) : (s.freeBlank g).Reserved := by
  unfold State.freeBlank
  split
  · exact (h.freeRecord _).updateTask g _
  · exact h

theorem State.Reserved.discardPickup (g : Gantry) (w : Saw) (c : BookFault) : (s.discardPickup g w c).Reserved :=
  (((h.freeBlank g).releaseDestination g).endOffer g w _ _ _ _).becomeIdle g

/-! ## Handing over a step -/

theorem State.Reserved.blocked (g : Gantry) : (s.blocked g).Reserved := by
  unfold State.blocked
  split
  · split
    · exact (h.releasePick g).endBook g _
    · exact h.discardPickup g _ _
    · exact (h.releaseDestination g).seekPut g
  · exact h

omit h in
theorem State.Reserved.settleRequest {r : State × Bool} (h : r.1.Reserved) (g : Gantry) : (State.settleRequest r g).Reserved := by
  unfold State.settleRequest
  split
  · exact h.blocked g
  · exact h

theorem State.Reserved.handOver (g : Gantry) (step : Step) : (s.handOver g step).Reserved := (h.prepare g step).settleRequest g

/-! ## The lift of a book -/

theorem State.Reserved.openWait (g : Gantry) : (s.openWait g).Reserved := h.noStep rfl rfl rfl fun _ => rfl

theorem State.Reserved.startLift (g : Gantry) : (s.startLift g).Reserved := by
  unfold State.startLift
  split
  · next w e _ =>
    have hsearch := h.sourceSearch g w e
    split
    · next heq => rw [heq] at hsearch; exact (hsearch.updateTask g _).handOver g _
    · next heq => rw [heq] at hsearch; exact hsearch.openWait g
    · next heq => rw [heq] at hsearch; exact hsearch.endBook g _
  · exact h

theorem State.Reserved.pickPanel (g : Gantry) (n : Nat) : (s.pickPanel g n).Reserved := by
  unfold State.pickPanel
  split
  · exact ((h.takeOnHead g _).unlay n 1).releaseClaim n
  · exact h.releaseClaim n

theorem State.Reserved.pickOk (g : Gantry) (w : Saw) (n : Nat) : (s.pickOk g w n).Reserved := by
  unfold State.pickOk
  split
  · exact (h.pickPanel g n).endBook g _
  · exact ((h.pickPanel g n).updateTask g _).handOver g _

theorem State.Reserved.pickMiss (g : Gantry) (n : Nat) : (s.pickMiss g n).Reserved := by
  have hmark := (h.markSuspect n).updateBookAt g fun b => b.noteFault .pickMiss b.lift
  unfold State.pickMiss
  dsimp only
  split
  · exact hmark.endBook g _
  · split
    · exact hmark.endBook g _
    · exact (hmark.updateBookAt g _).startLift g

theorem State.Reserved.beginPlace (g : Gantry) (w : Saw) : (s.beginPlace g w).Reserved := (h.updateTask g _).handOver g _

/-- A hover that is done has no step outstanding, so that its gantry can hold over the table. -/
theorem State.Reserved.hoverDone {g : Gantry} (hc : (s.gantry g).current = none) (w : Saw) : (s.hoverDone g w).Reserved := by
  unfold State.hoverDone
  split
  · exact h.endBook g _
  · split
    · exact h.beginPlace g w
    · refine h.noStep rfl rfl ?_ fun hs => by cases hs
      show (s.gantry g).current.bind Step.issued = none
      rw [hc]
      rfl

theorem State.Reserved.placePanel (g : Gantry) (w : Saw) (p : Panel) : (s.placePanel g w p).Reserved := by
  refine State.Reserved.setSaw (State.Reserved.updateBookAt ?_ g _) w _
  exact (h.freeRecord p.record).keepStep rfl rfl rfl rfl

theorem State.Reserved.finishBook (g : Gantry) : (s.finishBook g).Reserved := by
  unfold State.finishBook
  split
  · exact (h.releaseBook _ _).becomeIdle g
  · exact h

theorem State.Reserved.placeOk (g : Gantry) (w : Saw) : (s.placeOk g w).Reserved := by
  unfold State.placeOk
  split
  · next p _ =>
    have hp := h.placePanel g w p
    split
    · exact hp.endBook g _
    · split
      · exact ((hp.updateBookAt g _).updateTask g _).startLift g
      · exact hp.finishBook g
  · exact h

/-! ## Puts, pickups and yields -/

theorem State.Reserved.putOk (g : Gantry) (n : Nat) : (s.putOk g n).Reserved := by
  unfold State.putOk
  split
  · next p _ =>
    have hempty : (s.setGantry g { s.gantry g with carried := none }).Reserved := h.keepStep rfl rfl rfl rfl
    have hlaid := (hempty.lay n p).releaseClaim n
    refine State.Reserved.becomeIdle ?_ g
    unfold State.putEnds
    split
    · exact hlaid.endOffer g _ _ _ _ _
    · exact hlaid
  · exact h

theorem State.Reserved.putFail (g : Gantry) (n : Nat) : (s.putFail g n).Reserved := by
  unfold State.putFail
  split
  · exact ((h.markSuspect n).updateTask g _).seekPut g
  · exact (h.markSuspect n).strand g

theorem State.Reserved.pickupOk (g : Gantry) (w : Saw) : (s.pickupOk g w).Reserved := by
  unfold State.pickupOk
  split
  · refine ((State.Reserved.takeOnHead ?_ g _).updateTask g _).handOver g _
    exact h.congr rfl rfl rfl rfl
  · exact h

theorem State.Reserved.yieldDone {g : Gantry} (hc : (s.gantry g).current = none) : (s.yieldDone g).Reserved := by
  unfold State.yieldDone
  split
  · exact h.becomeIdle g
  · refine State.Reserved.seekAgain ?_ g
    refine h.noStep rfl rfl ?_ fun hs => by cases hs
    show (s.gantry g).current.bind Step.issued = none
    rw [hc]
    rfl
  · refine State.Reserved.handOver ?_ g _
    exact h.keepStep rfl rfl rfl rfl
  · exact h.afterBook g _

/-- A step that has completed is no longer outstanding, and its task goes on (R106, R107). -/
theorem State.Reserved.stepCompleted {g : Gantry} (hc : (s.gantry g).current = none) (step : Step) (ok : Bool) :
    (s.stepCompleted g step ok).Reserved := by
  unfold State.stepCompleted
  split
  · exact h.pickOk g _ _
  · exact h.pickMiss g _
  · exact h.pickupOk g _
  · exact h.discardPickup g _ _
  · exact h.hoverDone hc _
  · exact h.placeOk g _
  · exact h.endBook g _
  · exact h.putOk g _
  · exact h.putFail g _
  · exact h.yieldDone hc
  · exact h

/-! ## Aborts and faults -/

theorem State.Reserved.actOnAbort (g : Gantry) : (s.actOnAbort g).Reserved := by
  unfold State.actOnAbort
  split
  · split
    · exact State.Reserved.keepStep ((h.releasePick g).abortAssembling _ _ _) rfl rfl rfl rfl
    · split
      · exact h
      · exact (h.releasePick g).endBook g _
  · exact h

theorem State.Reserved.releaseClaims (g : Gantry) : (s.releaseClaims g).Reserved := by
  unfold State.releaseClaims
  generalize s.claimedBy g = l
  induction l generalizing s with
  | nil => exact h
  | cons n l ih => exact ih (h.releaseClaim n)

theorem State.Reserved.freeRecordOpt (n : Option Nat) : (s.freeRecordOpt n).Reserved := by
  cases n with
  | none => exact h
  | some n => exact h.freeRecord n

theorem State.Reserved.markSuspectOpt (n : Option Nat) : (s.markSuspectOpt n).Reserved := by
  cases n with
  | none => exact h
  | some n => exact h.markSuspect n

theorem State.Reserved.endFaultedTask (g : Gantry) (k : Option TaskKind) (n : Nat) : (s.endFaultedTask g k n).Reserved := by
  unfold State.endFaultedTask
  split
  · exact h.abortAssembling _ _ _
  · exact h.endOffer g _ _ _ _ _
  · exact h

theorem State.Reserved.latchService (g : Gantry) (c : FaultCause) : (s.latchService g c).Reserved := by
  unfold State.latchService
  split
  · exact h
  · exact h.latch _ _

/-- A FAULTED gantry's reservation is frozen as it stands (R88). -/
theorem State.Reserved.becomeFaulted (g : Gantry) (c : FaultCause) (n : BitVec 8) (silent : Bool) :
    (s.becomeFaulted g c n silent).Reserved := by
  have hfrozen : (s.setGantry g (s.faultedRecord g c n)).Reserved := h.noStep rfl rfl rfl fun _ => rfl
  have hdisposed : (s.faultDisposed g c n).Reserved := ((hfrozen.freeRecordOpt _).markSuspectOpt _).releaseClaims g
  rw [State.becomeFaulted_eq]
  refine State.Reserved.congr (State.Reserved.latchService (State.Reserved.latch ?_ _ _) g c) rfl rfl rfl rfl
  split
  · exact hdisposed
  · exact hdisposed.endFaultedTask g _ _

theorem State.Reserved.secondCause (g : Gantry) (c : FaultCause) : (s.secondCause g c).Reserved := by
  unfold State.secondCause
  split
  · split
    · refine State.Reserved.latch ?_ _ _
      exact h.keepStep rfl rfl rfl rfl
    · exact h
  · exact h
end

end Sys2Proof.Machine
end

section
/-! PROOFS. Dispatch passes and the consequences of an event keep the runway sound, under a layout and before the first one (R80, R98,
R148 to R154, R165, R166). -/

namespace Sys2Proof.Machine

/-! ## Starts -/

theorem GantryRecord.Reserves.not_issued {r : GantryRecord} {n : Nat} (h : r.Reserves n) (hs : r.state ≠ .stepping) :
    r.issued = none := by
  by_contra hne
  obtain ⟨i, hi⟩ := Option.ne_none_iff_exists'.mp hne
  exact hs (h.outstanding i hi).1

section
variable {s : State} (h : s.Reserved)
include h

/-- A gantry that takes a task has been IDLE, with no step outstanding. -/
theorem State.Reserved.attach {g : Gantry} (hs : (s.gantry g).state = .idle) (t : Task) : (s.attach g t).Reserved :=
  h.noStep rfl rfl ((h.gantry g).not_issued (by rw [hs]; decide)) fun hw => by cases hw

theorem State.Reserved.startBook {g : Gantry} (hs : (s.gantry g).state = .idle) (w : Saw) (b : Book) : (s.startBook g w b).Reserved :=
  State.Reserved.startLift ((h.setSaw w _).attach hs _) g

theorem State.Reserved.startRemnantReturn {g : Gantry} (hs : (s.gantry g).state = .idle) (w : Saw) (o : Offer) :
    (s.startRemnantReturn g w o).Reserved := by
  unfold State.startRemnantReturn
  split
  · next n _ =>
    refine State.Reserved.handOver (State.Reserved.attach ?_ ?_ _) g _
    · exact (h.claim n g .put).congr rfl rfl rfl rfl
    · exact (congrArg GantryRecord.state (s.claim_gantry n g .put g)).trans hs
  · exact h

theorem State.Reserved.dispatchRound {t : State} {gs hs : List Gantry} (hidle : ∀ g ∈ gs, (s.gantry g).state = .idle)
    (ht : s.dispatchRound gs = some (t, hs)) : t.Reserved ∧ ∀ g ∈ hs, (t.gantry g).state = .idle := by
  obtain ⟨⟨g, w, k⟩, hround, he⟩ := Option.map_eq_some_iff.mp ht
  obtain ⟨rfl, rfl⟩ := Prod.mk.inj he
  have hg := hidle g (State.round_spec hround).1
  have hp : ({ s with pointer := w } : State).Reserved := h.congr rfl rfl rfl rfl
  refine ⟨?_, fun k hk => of_decide_eq_true (List.mem_filter.mp hk).2⟩
  cases k with
  | offer o => exact hp.startRemnantReturn hg w o
  | book b => exact hp.startBook hg w b

theorem State.Reserved.dispatchPass : s.dispatchPass.Reserved := by
  unfold State.dispatchPass
  split
  · exact h
  · next t gs ht =>
    obtain ⟨h1, hidle⟩ := h.dispatchRound (fun g hg => of_decide_eq_true (List.mem_filter.mp hg).2) ht
    split
    · exact h1
    · next u _ hu => exact (h1.dispatchRound hidle hu).1

/-! ## Consequences -/

theorem State.Reserved.searchAgain (g : Gantry) : (s.searchAgain g).Reserved := by
  unfold State.searchAgain
  split
  · exact h.seekAgain g
  · exact h.startLift g

/-- A request that waits is tested again with the span it has asked for (R80). -/
theorem State.Reserved.testAgain {g : Gantry} (hs : (s.gantry g).state = .waitGrant) : (s.testAgain g).Reserved := by
  unfold State.testAgain
  split
  · next step hc =>
    obtain ⟨q, hq, hcovers⟩ := (h.gantry g).asks hs step hc
    have hspan : (s.gantry g).requestSpan = q.span := by rw [GantryRecord.requestSpan, hc, Option.bind_some, hq]; rfl
    rw [hspan]
    exact (h.request step hcovers).settleRequest g
  · exact h

theorem State.Reserved.take {d : Duty} (hd : s.due d = true) : (s.take d).Reserved := by
  have hclear : ({ s with duties := s.duties.clear d } : State).Reserved := h.congr rfl rfl rfl rfl
  cases d with
  | retry g => exact hclear.searchAgain g
  | retest g => exact hclear.testAgain (of_decide_eq_true ((Bool.and_eq_true _ _).mp hd).2)
  | dispatch => exact hclear.dispatchPass

theorem State.Reserved.settleFor (n : Nat) : (State.settleFor n s).Reserved := by
  induction n generalizing s with
  | zero => exact h.congr rfl rfl rfl rfl
  | succ n ih =>
    unfold State.settleFor
    split
    · exact h.congr rfl rfl rfl rfl
    · next d ds hds =>
      obtain ⟨hmem, m, hm⟩ := s.chooseDuty_spec d ds
      have hfree : ({ s with freeNext := m } : State).Reserved := h.congr rfl rfl rfl rfl
      rw [← hds] at hmem
      rw [hm]
      exact ih (hfree.take (List.mem_filter.mp hmem).2)
end

/-! ## Before the first layout -/

/-- Before the first layout both gantries are OFFLINE, with no step outstanding (R98, R171). -/
structure State.Unlaid (s : State) : Prop where
  cell : s.cell = .noLayout
  layout : s.layout = none
  offline : ∀ g, (s.gantry g).state = .offline
  issued : ∀ g, (s.gantry g).issued = none

theorem State.Unlaid.congr {s t : State} (h : s.Unlaid) (hcell : t.cell = s.cell) (hlayout : t.layout = s.layout)
    (hgantries : t.gantries = s.gantries) : t.Unlaid := by
  have hg := State.gantry_of_gantries hgantries
  exact ⟨hcell.trans h.cell, hlayout.trans h.layout, fun g => by rw [hg]; exact h.offline g,
    fun g => by rw [hg]; exact h.issued g⟩

/-- No search, no request and no pass waits for anything then. -/
theorem State.Unlaid.settle {s : State} (h : s.Unlaid) : s.settle.Unlaid := by
  rw [State.settle_of_none_due]
  · exact h.congr rfl rfl rfl
  · intro d
    cases d with
    | retry g => simp [State.due, GantryRecord.waits, h.offline]
    | retest g => simp [State.due, h.offline]
    | dispatch => simp [State.due, State.passDue, h.cell]

/-- The runway as every step keeps it. -/
def State.RunwayHeld (s : State) : Prop := s.Unlaid ∨ s.Reserved

theorem State.RunwayHeld.congr {s t : State} (h : s.RunwayHeld) (hcell : t.cell = s.cell) (hloader : t.loader = s.loader)
    (hlayout : t.layout = s.layout) (hgantries : t.gantries = s.gantries) : t.RunwayHeld :=
  h.imp (·.congr hcell hlayout hgantries) (·.congr hcell hloader hlayout hgantries)

theorem State.RunwayHeld.settle {s : State} (h : s.RunwayHeld) : s.settle.RunwayHeld :=
  h.imp State.Unlaid.settle (·.settleFor 1000)

/-! ## The obligation's predicate -/

theorem State.Unlaid.runwaySound {s : State} (h : s.Unlaid) : s.RunwaySound where
  noLayout := by simp [h.cell, h.layout]
  reading _ := h.layout
  valid l hl := by rw [h.layout] at hl; cases hl
  before _ := h.offline
  apart hl := by rw [h.layout] at hl; cases hl
  inside hl := by rw [h.layout] at hl; cases hl
  waiting g q hs := by rw [h.offline] at hs; cases hs
  outstanding g i hi := by rw [h.issued] at hi; cases hi

theorem State.Reserved.runwaySound {s : State} (h : s.Reserved) : s.RunwaySound := by
  obtain ⟨l, hl, hvalid⟩ := h.layout
  refine ⟨by simp [h.cell, hl], fun hr => absurd hr h.loader, fun k hk => ?_, fun hn => ?_, fun _ => ?_, fun _ g => ?_,
    fun g q hs hq => ?_, fun g => (h.gantry g).outstanding⟩
  · rw [hl] at hk
    cases hk
    exact hvalid
  · rw [hl] at hn
    cases hn
  · obtain ⟨_, v, -, hv, -⟩ := (h.gantry .west).stands
    obtain ⟨_, u, -, hu, -⟩ := (h.gantry .east).stands
    have hapart := h.apart
    rw [State.span, State.span, hv, hu] at hapart
    exact ⟨v, u, hv, hu, hapart⟩
  · exact (h.gantry g).stands
  · obtain ⟨c, hc, hcq⟩ := Option.bind_eq_some_iff.mp hq
    obtain ⟨p, hp, hcovers⟩ := (h.gantry g).asks hs c hc
    rw [hcq] at hp
    cases hp
    exact hcovers

theorem State.RunwayHeld.runwaySound {s : State} (h : s.RunwayHeld) : s.RunwaySound :=
  h.elim State.Unlaid.runwaySound State.Reserved.runwaySound

theorem State.Sound.unlaid {s : State} (h : s.Sound) (hl : s.layout = none) : s.Unlaid := by
  have hoff := h.runway.before hl
  refine ⟨h.runway.noLayout.mpr hl, hl, hoff, fun g => ?_⟩
  by_contra hne
  obtain ⟨i, hi⟩ := Option.ne_none_iff_exists'.mp hne
  have hs := (h.runway.outstanding g i hi).1
  rw [hoff g] at hs
  cases hs

theorem State.Sound.reserved_of_layout {s : State} (h : s.Sound) {l : Layout} (hl : s.layout = some l) : s.Reserved := by
  have hsome : s.layout.isSome := by rw [hl]; rfl
  have hcell : s.cell ≠ .noLayout := fun hn => by rw [h.runway.noLayout.mp hn] at hl; cases hl
  refine ⟨hcell, fun hr => (by rw [h.runway.reading hr] at hl; cases hl), ⟨l, hl, h.runway.valid l hl⟩, h.apart_of_working hcell,
    fun g => ⟨h.runway.inside hsome g, fun hs c hc => ?_, h.runway.outstanding g⟩⟩
  obtain ⟨d, -, hd, -, -, -, hreq⟩ := (h.work.gantry g).waits_with hs
  rw [hc] at hd
  cases hd
  obtain ⟨q, hq⟩ := Option.isSome_iff_exists.mp hreq
  exact ⟨q, hq, h.runway.waiting g q hs (by rw [hc]; exact hq)⟩

theorem State.Sound.reserved {s : State} (h : s.Sound) (hc : s.cell ≠ .noLayout) : s.Reserved := by
  obtain ⟨l, hl⟩ := Option.ne_none_iff_exists'.mp fun hn => hc (h.runway.noLayout.mpr hn)
  exact h.reserved_of_layout hl

/-- A gantry that is not OFFLINE shows that a layout is active (R98). -/
theorem State.Sound.reserved_of_state {s : State} (h : s.Sound) {g : Gantry} (hs : (s.gantry g).state ≠ .offline) : s.Reserved :=
  h.reserved fun hn => hs (h.runway.before (h.runway.noLayout.mp hn) g)

theorem State.Sound.runwayHeld {s : State} (h : s.Sound) : s.RunwayHeld := by
  cases hl : s.layout with
  | none => exact .inl (h.unlaid hl)
  | some l => exact .inr (h.reserved_of_layout hl)

theorem runwayHeld_settling : Settling State.Sound State.RunwayHeld where
  before s _ _ h := h.withPorts _ s.pending
  after _ _ _ h := h.congr rfl rfl rfl rfl
  settle _ h := h.settle
  weaken _ h := h.runwayHeld

end Sys2Proof.Machine
end

section
/-! PROOFS. The messages and timed events of the gantries keep the runway sound: the positions that are given, the completion of a step
and the end of a dwell (R78, R89, R99 to R119). -/

namespace Sys2Proof.Machine

section
variable {s : State} (h : s.Reserved)
include h

/-! ## Positions that are given -/

/-- A position within a gantry's limits lies on the runway (checks 103 and 104). -/
theorem State.Reserved.le_runway_of_reaches {g : Gantry} {x : Nat} (hx : (s.gantryGeom g).reaches x = true) :
    x ≤ s.geom.runwayLength := by
  obtain ⟨l, hl, hvalid⟩ := h.layout
  have hgeom : s.geom = l := by rw [State.geom, hl]; rfl
  rw [State.gantryGeom, hgeom, GantryGeometry.reaches_iff] at hx
  have hlimits := l.limits_of_valid hvalid g
  rw [hgeom]
  omega

/-- A gantry is placed at a position within its limits where its standing span is clear of the other gantry (R89). -/
theorem State.Reserved.setPlaced {g : Gantry} {x : Nat} {r : GantryRecord} (hp : r.position = some x)
    (hv : r.reservation = some (s.geom.standing g x)) (hi : r.issued = none) (hw : r.state ≠ .waitGrant)
    (hx : (s.gantryGeom g).reaches x = true) (hclear : s.isClear g (s.geom.standing g x) = true) : (s.setGantry g r).Reserved := by
  refine h.setGantry ⟨⟨x, _, hp, hv, s.geom.standing_covers g (h.le_runway_of_reaches hx)⟩, fun hs => absurd hs hw, fun i hi' => ?_⟩ ?_
  · rw [hi] at hi'; cases hi'
  · rw [hv]; exact hclear

omit h in
theorem State.readyFailure_reaches {g : Gantry} {x : Nat} (hf : s.readyFailure g x = none) : (s.gantryGeom g).reaches x = true := by
  simp only [State.readyFailure, State.positionChecks, firstOf_eq_none_iff, List.forall_mem_cons, checkOf_eq_none_iff] at hf
  simpa using hf.2.1

omit h in
theorem State.restoreFailure_reaches {g : Gantry} {ws : List Word} (hf : s.restoreFailure g ws = none) :
    (s.gantryGeom g).reaches (word ws 1) = true := by
  simp only [State.restoreFailure, State.positionChecks, List.cons_append, List.nil_append, firstOf_eq_none_iff,
    List.forall_mem_cons, checkOf_eq_none_iff] at hf
  simpa using hf.2.1

theorem State.Reserved.gantryReady (g : Gantry) (ws : List Word) : (s.gantryReady g ws).1.Reserved := by
  refine State.unless_keeps h fun hf => ?_
  obtain ⟨hs, hclear⟩ := State.readyFailure_none hf
  have hplaced : (s.setGantry g { (s.gantry g).placedAt (word ws 0) (s.geom.standing g (word ws 0)) with state := .idle }).Reserved :=
    h.setPlaced rfl rfl ((h.gantry g).not_issued (by rw [hs]; decide)) (fun hw => by cases hw) (State.readyFailure_reaches hf) hclear
  exact hplaced.opportunity.retry _

theorem State.Reserved.disposePanel (g : Gantry) (ws : List Word) : (s.disposePanel g ws).Reserved := by
  unfold State.disposePanel
  split
  · exact h.lay _ _
  · exact h.freeRecord _
  · exact h

theorem State.Reserved.endStrandedTask (g : Gantry) : (s.endStrandedTask g).Reserved := by
  unfold State.endStrandedTask
  split
  · exact h.setSaw _ _
  · exact h

omit h in
theorem State.restoredState_ne_waitGrant (g : Gantry) (ws : List Word) : s.restoredState g ws ≠ .waitGrant := by
  unfold State.restoredState
  split
  · split <;> decide
  · decide

theorem State.Reserved.gantryRestore (g : Gantry) (ws : List Word) : (s.gantryRestore g ws).1.Reserved := by
  refine State.unless_keeps h fun hf => ?_
  obtain ⟨hs, hclear, -⟩ := State.restoreFailure_none hf
  let t := (s.disposePanel g ws).endStrandedTask g
  have ht : t.Reserved := (h.disposePanel g ws).endStrandedTask g
  have hgantry (k : Gantry) : t.gantry k = s.gantry k :=
    State.gantry_of_gantries ((State.endStrandedTask_gantries _ g).trans (s.disposePanel_gantries g ws)) k
  have hgeom : t.geom = s.geom := (State.endStrandedTask_geom _ g).trans (s.disposePanel_geom g ws)
  have hplaced : (t.setGantry g ((t.gantry g).restored (word ws 1) (t.geom.standing g (word ws 1)) (s.restoredState g ws))).Reserved := by
    refine ht.setPlaced rfl rfl ((ht.gantry g).not_issued ?_) (s.restoredState_ne_waitGrant g ws) ?_ ?_
    · rw [hgantry]
      intro hstep
      rw [hstep] at hs
      cases hs
    · rw [State.gantryGeom, hgeom]
      exact State.restoreFailure_reaches hf
    · rw [State.isClear, State.span, hgantry, hgeom]
      exact hclear
  exact (State.Reserved.opportunity (hplaced.latch _ _)).retry _

theorem State.Reserved.gantryPark (g : Gantry) : (s.gantryPark g).1.Reserved := by
  unfold State.gantryPark
  split
  · next hs =>
    refine State.Reserved.latch ?_ _ _
    exact h.noStep rfl rfl ((h.gantry g).not_issued (by rw [hs]; decide)) fun hw => by cases hw
  · exact h

/-! ## Steps -/

/-- A span cut to a gantry's own reservation is clear of the other gantry as that is (R75, R78). -/
theorem State.Reserved.isClear_cut (g : Gantry) (v : Span) : s.isClear g (v.cut (s.span g)) = true := by
  have hapart := h.apart
  rw [State.isClear_iff]
  cases g with
  | west => exact Nat.lt_of_le_of_lt (Nat.min_le_right _ _) hapart
  | east => exact Nat.lt_of_lt_of_le hapart (Nat.le_max_right _ _)

/-- A step completes at a position within its granted span: the reservation is cut to the standing span there (R78, R106). -/
theorem State.Reserved.setCompleted (g : Gantry) (c : Step) {x : Nat} (hx : (s.span g).holds x = true) :
    (s.setGantry g (s.completedRecord g c (s.span g) x)).Reserved := by
  obtain ⟨hlo, hhi⟩ : (s.span g).lo ≤ x ∧ x ≤ (s.span g).hi := of_decide_eq_true hx
  obtain ⟨-, -, hend⟩ := h.covers g
  obtain ⟨hslo, hshi, hsend⟩ := s.geom.standing_covers g (hhi.trans hend)
  refine h.setGantry ⟨⟨x, _, rfl, rfl, max_le hslo hlo, le_min hshi hhi, (min_le_left _ _).trans hsend⟩, fun _ d hd => ?_,
    fun i hi => ?_⟩ (h.isClear_cut g _)
  · cases hd
  · cases hi

theorem State.Reserved.stepDone (g : Gantry) (ws : List Word) : (s.stepDone g ws).1.Reserved := by
  unfold State.stepDone
  split
  · next c v hout =>
    obtain ⟨-, hcur, i, hi, rfl⟩ := GantryRecord.outstanding_spec hout
    have hnoted : (s.noteOutcome g (stepOutcomeOf (word ws 2))).Reserved := h.keepStep rfl rfl rfl rfl
    have hspan : (s.noteOutcome g (stepOutcomeOf (word ws 2))).span g = i.span := by
      have hissued : (s.gantry g).issued = some i := by rw [GantryRecord.issued, hcur]; exact hi
      rw [State.noteOutcome, State.setGantry_span, if_pos rfl]
      show (s.gantry g).reservation.getD ⟨0, 0⟩ = _
      rw [((h.gantry g).outstanding i hissued).2]
      rfl
    dsimp only
    unfold State.acceptStep State.completeStep
    split
    · next hx =>
      rw [← hspan] at hx ⊢
      exact (hnoted.setCompleted g c hx).stepCompleted (by rw [State.setGantry_gantry_same]; rfl) c _
    · exact hnoted.becomeFaulted g _ _ _
  · exact h

theorem State.Reserved.gantryFault (g : Gantry) (ws : List Word) : (s.gantryFault g ws).1.Reserved := by
  unfold State.gantryFault State.driveFault
  split
  · exact h
  · refine State.Reserved.becomeFaulted ?_ g _ _ _
    exact h.keepStep rfl rfl rfl rfl

theorem State.Reserved.overrunNow (g : Gantry) : (s.overrunNow g).Reserved := by
  refine (State.Reserved.becomeFaulted ?_ g _ _ _).settleFor 1000
  exact h.keepStep rfl rfl rfl rfl

theorem State.Reserved.endDwell (g : Gantry) : (s.endDwell g).Reserved := by
  have hcleared : (s.setGantry g { s.gantry g with dwellEnd := none }).Reserved := h.keepStep rfl rfl rfl rfl
  unfold State.endDwell
  dsimp only
  split
  · exact ((hcleared.request _ (hcleared.requestedSpan_covers g _)).settleRequest g).settleFor 1000
  · exact hcleared

theorem State.Reserved.timeOutHold (g : Gantry) : (s.timeOutHold g).Reserved := by
  refine (State.Reserved.endBook ?_ g _).settleFor 1000
  exact h.keepStep rfl rfl rfl rfl

theorem State.Reserved.endHold (w : Saw) (g : Gantry) : (s.endHold w g).Reserved := by
  unfold State.endHold
  split
  · refine State.Reserved.beginPlace ?_ g w
    exact h.keepStep rfl rfl rfl rfl
  · exact h

/-! ## Links and resets -/

theorem State.Reserved.gantryLinkLost (g : Gantry) : (s.gantryLinkLost g).Reserved := by
  have offline (hs : (s.gantry g).state ≠ .stepping) : (s.setGantry g { s.gantry g with state := .offline }).Reserved :=
    h.noStep rfl rfl ((h.gantry g).not_issued hs) fun hw => by cases hw
  unfold State.gantryLinkLost
  split
  case h_1 | h_2 => exact h
  case h_3 hs | h_4 hs => exact offline (by rw [hs]; decide)
  case h_5 | h_6 | h_7 | h_8 => exact h.becomeFaulted g _ _ _
  case h_9 => exact h.secondCause g _

theorem State.Reserved.idleByReset (g : Gantry) : (s.idleByReset g).Reserved := by
  have hfreed := h.freeRecordOpt ((s.gantry g).task.bind Task.blank)
  have hg : (s.freeRecordOpt ((s.gantry g).task.bind Task.blank)).gantry g = s.gantry g := by
    cases (s.gantry g).task.bind Task.blank <;> rfl
  unfold State.idleByReset
  exact hfreed.noStep (by rw [hg]) (by rw [hg]) rfl fun _ => rfl

theorem State.Reserved.resetGantry (g : Gantry) : (s.resetGantry g).Reserved := by
  have waiting : (if (s.gantry g).carried.isSome then s.becomeFaulted g .cellReset 0 true else s.idleByReset g).Reserved := by
    split
    · exact h.becomeFaulted g _ _ _
    · exact h.idleByReset g
  unfold State.resetGantry
  split
  case h_1 | h_2 | h_3 => exact h.becomeFaulted g _ _ _
  case h_4 | h_5 => exact waiting
  case h_6 | h_7 | h_8 => exact h
  case h_9 => exact h.secondCause g _

theorem State.Reserved.setCell {c : CellState} (hc : c ≠ .noLayout) : (s.setCell c).Reserved :=
  ⟨hc, h.loader, h.layout, h.apart, h.gantry⟩

theorem State.Reserved.resetSaw (w : Saw) : (s.resetSaw w).Reserved := (h.setSaw w _).latch _ _

theorem State.Reserved.resetSaws : s.resetSaws.Reserved := (((h.resetSaw .saw1).resetSaw .saw2).resetSaw .saw3).resetSaw .saw4

theorem State.Reserved.resetClaims : s.resetClaims.Reserved := h.congr rfl rfl rfl rfl

theorem State.Reserved.cellReset : s.cellReset.Reserved := by
  have hcell : s.cell.afterReset ≠ .noLayout := by
    rw [CellState.afterReset, if_neg h.cell]
    decide
  rw [State.cellReset_eq]
  exact (((h.setCell hcell).resetGantry .west).resetGantry .east).resetSaws.resetClaims
end

/-- Before the first layout CELL_RESET finds both gantries OFFLINE. -/
theorem State.Unlaid.cellReset {s : State} (h : s.Unlaid) : s.cellReset.Unlaid := by
  have hoff {t : State} (ht : t.Unlaid) (g : Gantry) : t.resetGantry g = t := by
    rw [State.resetGantry, ht.offline g]
  have hset : (s.setCell s.cell.afterReset).Unlaid :=
    ⟨by rw [h.cell]; rfl, h.layout, h.offline, h.issued⟩
  rw [State.cellReset_eq, hoff hset, hoff hset]
  have hlists := State.losesLists_resetSaws (s.setCell s.cell.afterReset)
  exact (hset.congr hlists.cell hlists.layout hlists.gantries).congr (t := State.resetClaims _) rfl rfl rfl

theorem State.RunwayHeld.roleLinkLost {s : State} (h : s.RunwayHeld) (p : Port) : (s.roleLinkLost p).RunwayHeld := by
  cases p with
  | planner => exact h
  | saw w => exact h.congr rfl rfl rfl rfl
  | gantry g =>
    rcases h with h | h
    · refine .inl ?_
      rw [State.roleLinkLost, State.gantryLinkLost, h.offline g]
      exact h
    · exact .inr (h.gantryLinkLost g)

theorem State.RunwayHeld.carrierLoss {s : State} (h : s.RunwayHeld) (p : Port) : (s.carrierLoss p).RunwayHeld := by
  unfold State.carrierLoss
  split
  · refine State.RunwayHeld.settle (State.RunwayHeld.roleLinkLost ?_ p)
    exact h.congr rfl rfl rfl rfl
  · exact h

theorem State.RunwayHeld.carrierReturn {s : State} (h : s.RunwayHeld) (p : Port) : (s.carrierReturn p).RunwayHeld := by
  unfold State.carrierReturn
  split
  · exact h
  · refine State.RunwayHeld.settle ?_
    unfold State.roleLinkBack
    split <;> exact h.congr rfl rfl rfl rfl

end Sys2Proof.Machine
end

section
/-! PROOFS. A first layout and a later one leave the runway sound (R73, R90, R181, R182, TABLE 9.5). -/

namespace Sys2Proof.Machine

/-! ## The first layout -/

theorem Layout.home_le_runway {l : Layout} (h : l.firstFailure = none) (g : Gantry) : l.home g ≤ l.runwayLength := by
  have hhome := l.home_reached h g
  rw [GantryGeometry.reaches_iff] at hhome
  have hlimits := l.limits_of_valid h g
  omega

/-- A first layout finds both gantries OFFLINE and lays their reservations at their homes (R73, R98). -/
theorem State.Unlaid.firstLayout {s : State} (h : s.Unlaid) (hr : s.loader ≠ .reading) {l : Layout} (hl : l.firstFailure = none) :
    (s.firstLayout l).Reserved := by
  have hspan (g : Gantry) : (s.firstLayout l).span g = l.standing g (l.home g) := by
    rw [State.span, State.firstLayout_gantry]
    rfl
  refine ⟨by simp [State.firstLayout], hr, ⟨l, rfl, hl⟩, ?_, fun g => ?_⟩
  · rw [hspan, hspan]
    exact l.homes_apart hl
  · rw [State.firstLayout_gantry]
    refine ⟨⟨l.home g, _, rfl, rfl, l.standing_covers g (l.home_le_runway hl g)⟩, fun hw => ?_, fun i hi => ?_⟩
    · rw [show ((s.gantry g).atHome l g).state = .offline from h.offline g] at hw
      cases hw
    · rw [show ((s.gantry g).atHome l g).issued = none from h.issued g] at hi
      cases hi

theorem State.Sound.readEnd_runway {s : State} (h : s.Sound) (answers : Bool) : (s.readEnd answers).RunwayHeld := by
  unfold State.readEnd
  split
  · next hl =>
    have hu : ({ s with loader := .idle } : State).Unlaid := (h.unlaid (h.runway.reading hl)).congr rfl rfl rfl
    refine State.RunwayHeld.settle ?_
    unfold State.judgeMemory
    split
    · exact .inl (hu.congr rfl rfl rfl)
    · split
      · exact .inl (hu.congr rfl rfl rfl)
      · split
        · exact .inl (hu.congr rfl rfl rfl)
        · next hvalid => exact .inr (hu.firstLayout (by show Loader.idle ≠ .reading; decide) hvalid)
  · exact h.runwayHeld

/-! ## A later layout -/

theorem State.runwayTest_none {s : State} {l : Layout} (h : s.runwayTest l = none) :
    (∀ g, (l.gantries.get g).reaches (s.pos g) = true ∧ (s.recomputed l g).hi ≤ l.runwayLength) ∧
      (s.recomputed l .west).hi < (s.recomputed l .east).lo := by
  have inside {g : Gantry} (hg : ¬s.outsideLimits l g = true) : (l.gantries.get g).reaches (s.pos g) = true := by
    simp only [State.outsideLimits, Bool.or_eq_true, not_or] at hg
    simpa using hg.1
  unfold State.runwayTest at h
  split at h
  · cases h
  · next hwest =>
    split at h
    · cases h
    · next heast =>
      split at h
      · cases h
      · next hlength =>
        split at h
        · cases h
        · next happart =>
          have hends : (s.recomputed l .west).hi ≤ l.runwayLength ∧ (s.recomputed l .east).hi ≤ l.runwayLength := by omega
          exact ⟨both_gantries .west ⟨inside hwest, hends.1⟩ ⟨inside heast, hends.2⟩, Nat.lt_of_not_le happart⟩

theorem State.layoutConflict_runway {s : State} {l : Layout} (h : s.layoutConflict l = none) : s.runwayTest l = none := by
  unfold State.layoutConflict at h
  split at h
  · cases h
  · split at h
    · cases h
    · exact Option.map_eq_none_iff.mp h

theorem State.recomputed_of_gantries {s t : State} (h : t.gantries = s.gantries) (l : Layout) (g : Gantry) :
    t.recomputed l g = s.recomputed l g := by
  rw [State.recomputed, State.span, State.pos, State.gantry_of_gantries h]
  rfl

/-- A gantry's record under a new layout: its yield withdrawn, its reservation recomputed (R90). -/
theorem State.underLayout_gantry (s : State) (l : Layout) (g : Gantry) :
    (s.underLayout l).gantry g = { (s.gantry g).withdrawYield with reservation := some (s.recomputed l g) } := by
  have hgantries : (s.renumber l).gantries = s.gantries := by
    unfold State.renumber
    split <;> rfl
  rw [← State.gantry_of_gantries hgantries, ← State.recomputed_of_gantries hgantries]
  cases g <;> rfl

/-- A gantry whose yield is withdrawn has no step; any other keeps its record (R90). -/
theorem GantryRecord.withdrawYield_cases (r : GantryRecord) :
    (r.withdrawYield.state ≠ .waitGrant ∧ r.withdrawYield.current = none) ∨ r.withdrawYield = r := by
  unfold GantryRecord.withdrawYield
  split
  · refine .inl ⟨?_, rfl⟩
    show r.formerState ≠ .waitGrant
    unfold GantryRecord.formerState
    split <;> decide
  · exact .inr rfl

theorem GantryRecord.withdrawYield_position (r : GantryRecord) : r.withdrawYield.position = r.position := by
  unfold GantryRecord.withdrawYield
  split <;> rfl

/-- A reservation that is recomputed holds its gantry: it is the standing span, but for a gantry that is FAULTED or STEPPING (R90). -/
theorem State.Reserved.recomputed_covers {s : State} (h : s.Reserved) {l : Layout} {g : Gantry} (hx : s.pos g ≤ l.runwayLength)
    (hend : (s.recomputed l g).hi ≤ l.runwayLength) : (s.recomputed l g).Covers (s.pos g) l.runwayLength := by
  obtain ⟨hlo, hhi, -⟩ := h.covers g
  unfold State.recomputed at *
  split at hend
  · exact ⟨hlo, hhi, hend⟩
  · exact ⟨hlo, hhi, hend⟩
  · exact l.standing_covers g hx

theorem State.recomputed_of_stepping {s : State} {g : Gantry} (hs : (s.gantry g).state = .stepping) (l : Layout) :
    s.recomputed l g = s.span g := by
  rw [State.recomputed, hs]

/-- A layout that passes TABLE 9.5 takes the active one's place where no gantry waits for a grant. -/
theorem State.Reserved.underLayout {s : State} (h : s.Reserved) (hw : ∀ g, (s.gantry g).state ≠ .waitGrant) {l : Layout}
    (hl : l.firstFailure = none) (ht : s.runwayTest l = none) : (s.underLayout l).Reserved := by
  obtain ⟨hinside, hapart⟩ := State.runwayTest_none ht
  have hspan (g : Gantry) : (s.underLayout l).span g = s.recomputed l g := by rw [State.span, State.underLayout_gantry]; rfl
  have hloader : (s.underLayout l).loader = s.loader := by
    show (s.renumber l).loader = _
    unfold State.renumber
    split <;> rfl
  refine ⟨by rw [State.underLayout_cell]; exact h.cell, by rw [hloader]; exact h.loader, ⟨l, rfl, hl⟩,
    by rw [hspan, hspan]; exact hapart, fun g => ?_⟩
  obtain ⟨hreach, hend⟩ := hinside g
  have hx : s.pos g ≤ l.runwayLength := by
    have hlimits := l.limits_of_valid hl g
    rw [GantryGeometry.reaches_iff] at hreach
    omega
  obtain ⟨x, _, hpos, -⟩ := (h.gantry g).stands
  rw [State.underLayout_gantry]
  refine ⟨⟨x, _, (s.gantry g).withdrawYield_position.trans hpos, rfl, ?_⟩, fun hs => ?_, fun i hi => ?_⟩
  · have hcovers := h.recomputed_covers hx hend
    rwa [State.pos, hpos] at hcovers
  · rcases (s.gantry g).withdrawYield_cases with ⟨hne, -⟩ | hkeep
    · exact absurd hs hne
    · rw [hkeep] at hs
      exact absurd hs (hw g)
  · rcases (s.gantry g).withdrawYield_cases with ⟨-, hnone⟩ | hkeep
    · have hissued : (s.gantry g).withdrawYield.current.bind Step.issued = some i := hi
      rw [hnone] at hissued
      cases hissued
    · rw [hkeep] at hi ⊢
      obtain ⟨hs, hres⟩ := (h.gantry g).outstanding i hi
      refine ⟨hs, congrArg some ?_⟩
      rw [State.recomputed_of_stepping hs, State.span, hres]
      rfl

theorem State.loseSaw_loader (s : State) (l : Layout) (w : Saw) : (s.loseSaw l w).loader = s.loader := by
  unfold State.loseSaw
  split <;> rfl

theorem State.Reserved.loseSaws {s : State} (h : s.Reserved) (l : Layout) :
    ((((s.loseSaw l .saw1).loseSaw l .saw2).loseSaw l .saw3).loseSaw l .saw4).Reserved := by
  have hlists := s.losesLists_layout l
  exact h.congr hlists.cell (by simp only [State.loseSaw_loader]) hlists.layout hlists.gantries

theorem State.runwayTest_of_gantries {s t : State} (h : t.gantries = s.gantries) (l : Layout) : t.runwayTest l = s.runwayTest l := by
  unfold State.runwayTest State.outsideLimits State.pos
  simp only [State.recomputed_of_gantries h, State.gantry_of_gantries h]

/-! ## LAYOUT_SET -/

theorem State.layoutRefusal_valid {s : State} {ws : List Word} (h : s.layoutRefusal ws = none) :
    s.loader ≠ .reading ∧ (carriedLayout ws).firstFailure = none := by
  unfold State.layoutRefusal at h
  split at h
  · cases h
  · next hr =>
    split at h
    · cases h
    · split at h
      · cases h
      · next hvalid => exact ⟨hr, hvalid⟩

theorem State.Sound.activate_runway {s : State} (h : s.Sound) (hc : s.cell = .closed ∨ s.cell = .noLayout) {ws : List Word}
    (hf : s.layoutRefusal ws = none) : (s.activate (carriedLayout ws)).Reserved := by
  obtain ⟨hr, hvalid⟩ := State.layoutRefusal_valid hf
  unfold State.activate
  split
  · next hl =>
    obtain ⟨k, hk⟩ := Option.isSome_iff_exists.mp hl
    have hlists := s.losesLists_layout (carriedLayout ws)
    rw [State.nextLayout_eq]
    refine ((h.reserved_of_layout hk).loseSaws _).underLayout (fun g hs => ?_) hvalid ?_
    · rw [hlists.gantry] at hs
      obtain ⟨_, t, -, hb, -⟩ := (h.work.gantry g).waits_with hs
      have htask := hb.task
      rw [h.work.closed hc g] at htask
      cases htask
    · rw [State.runwayTest_of_gantries hlists.gantries]
      exact State.layoutConflict_runway (State.layoutRefusal_none hf hl)
  · next hl => exact (h.unlaid (by simpa using hl)).firstLayout hr hvalid

theorem State.Reserved.setLoader {s : State} (h : s.Reserved) {r : Loader} (hr : r ≠ .reading) (m : List Word)
    (c : Option (List Word)) : ({ s with loader := r, writeRecord := c, memory := m } : State).Reserved :=
  ⟨h.cell, hr, h.layout, h.apart, h.gantry⟩

theorem State.Sound.layoutSet_runway {s : State} (h : s.Sound) (hc : s.cell = .closed ∨ s.cell = .noLayout) (ws : List Word) :
    (s.layoutSet ws).1.RunwayHeld := by
  unfold State.layoutSet
  split
  · exact h.runwayHeld
  · next hf =>
    have ha := h.activate_runway hc hf
    dsimp only
    split
    · exact .inr (ha.setLoader (by decide) _ _)
    · exact .inr ha

theorem State.RunwayHeld.writeEnd {s : State} (h : s.RunwayHeld) (answers : Bool) (left : List Word) :
    (s.writeEnd answers left).RunwayHeld := by
  unfold State.writeEnd
  split
  · exact h.imp (·.congr rfl rfl rfl) fun h => State.Reserved.latch (h.setLoader (by decide) left none) _ _
  · exact h

end Sys2Proof.Machine
end

section
/-! PROOFS. Every command keeps the runway sound (R73, R75, R76, R88, R98, R103). -/

namespace Sys2Proof.Machine

section
variable {s : State} (h : s.Reserved)
include h

theorem State.Reserved.freePanels (ps : List Panel) : (s.freePanels ps).Reserved := by
  unfold State.freePanels
  induction ps generalizing s with
  | nil => exact h
  | cons p ps ih => exact ih (h.freeRecord p.record)

theorem State.Reserved.registerAll (n : Nat) (es : List StackEntry) : (s.registerAll n es).Reserved := by
  unfold State.registerAll
  induction es generalizing s with
  | nil => exact h
  | cons e es ih => exact ih (h.congr rfl rfl rfl rfl)

theorem State.Reserved.withdraw (n k : Nat) : (s.withdraw n k).Reserved := by
  unfold State.withdraw
  split
  · exact h
  · exact ((h.unlay n _).freePanels _).storeChange

theorem State.Reserved.slotRelease (ws : List Word) : (s.slotRelease ws).1.Reserved := by
  unfold State.slotRelease State.releaseSlot
  split
  · exact h
  · dsimp only
    split
    · exact State.Reserved.storeChange (h.congr rfl rfl rfl rfl)
    · exact h

theorem State.Reserved.refuseFree (m : Message) (c : RefusalCode) : (s.refuseFree m c).1.Reserved := h.congr rfl rfl rfl rfl

theorem State.Reserved.kindQuery (ws : List Word) : (s.kindQuery ws).1.Reserved := by
  unfold State.kindQuery
  split
  · exact h.refuseFree _ _
  · exact h

theorem State.Reserved.slotQuery (ws : List Word) : (s.slotQuery ws).1.Reserved := by
  unfold State.slotQuery
  repeat' split
  all_goals exact h

theorem State.Reserved.sawQuery (ws : List Word) : (s.sawQuery ws).1.Reserved := by
  unfold State.sawQuery
  split
  · exact h.refuseFree _ _
  · split
    · exact h
    · exact h.refuseFree _ _

theorem State.Reserved.sawSet (ws : List Word) : (s.sawSet ws).1.Reserved := by
  unfold State.sawSet
  split
  · exact h
  · refine State.unless_keeps h fun _ => ?_
    unfold State.applySettings State.latchSettings
    split
    · exact (h.setSaw _ _).opportunity
    · exact ((h.latch _ _).setSaw _ _).opportunity

theorem State.Reserved.bookAbort (w : Saw) (ws : List Word) : (s.bookAbort w ws).1.Reserved := by
  unfold State.bookAbort State.abortRecord
  split
  · exact h.refuseFree _ _
  · split
    · split
      · exact h.abortBook w _ _
      · dsimp only
        split
        · exact h
        · unfold State.actOnAbortBy
          split
          · exact State.Reserved.actOnAbort (h.setSaw w _) _
          · exact h.setSaw w _
      · exact h
    · exact h

theorem State.Reserved.bookTaken (w : Saw) (ws : List Word) : (s.bookTaken w ws).1.Reserved := by
  unfold State.bookTaken
  split
  · exact h.refuseFree _ _
  · split
    · split
      · exact (h.setSaw w _).opportunity
      · exact h
    · exact (h.setSaw w _).opportunity

theorem State.Reserved.tableState (w : Saw) (ws : List Word) : (s.tableState w ws).1.Reserved := by
  unfold State.tableState State.reportTable
  split
  · exact h.refuseFree _ _
  · dsimp only
    split
    · exact (State.Reserved.endHold (h.setSaw w _) w .west).endHold w .east
    · exact h.setSaw w _

theorem State.Reserved.close : s.close.1.Reserved := by
  unfold State.close
  split
  · exact h
  · exact h.setCell (by decide)

theorem State.Reserved.mapCounters (f : Counter → Counter) (k : Timer → Timer) : (s.mapCounters f k).Reserved := by
  have hmap {t : State} (ht : t.Reserved) (g : Gantry) : (t.setGantry g ((t.gantry g).mapCounters f)).Reserved :=
    ht.keepStep rfl rfl rfl rfl
  exact (hmap (hmap h .west) .east).congr rfl rfl rfl rfl
end

theorem State.RunwayHeld.pacingReached {s : State} (h : s.RunwayHeld) (w : Saw) : (s.pacingReached w).RunwayHeld := by
  unfold State.pacingReached
  split
  · exact State.RunwayHeld.settle (h.congr rfl rfl rfl rfl)
  · exact h

theorem State.RunwayHeld.repace {s : State} (h : s.RunwayHeld) (w : Saw) : (s.repace w).RunwayHeld := by
  unfold State.repace
  split
  · exact h
  · exact h.congr rfl rfl rfl rfl

theorem State.unlaid_powerOn (s : State) (n : Nat) : (s.powerOn n).Unlaid :=
  ⟨rfl, rfl, fun g => by cases g <;> rfl, fun g => by cases g <;> rfl⟩

/-- The timed events of a gantry come where it is not OFFLINE. -/
theorem State.Sound.reserved_of_eq {s : State} (h : s.Sound) {g : Gantry} {c : GantryState} (hs : (s.gantry g).state = c)
    (hc : c ≠ .offline) : s.Reserved :=
  h.reserved_of_state (by rw [hs]; exact hc)

/-- Every command keeps the runway sound. -/
theorem exec_runwayHeld {s t : State} (h : s.Sound) (c : Instr) (ht : exec c s = .next t) : t.RunwayHeld := by
  have key := runwayHeld_settling
  have held := h.runwayHeld
  have laid {t : State} (ht : t.Sound) (ha : decide (t.cell ≠ .noLayout) = true) : t.Reserved := ht.reserved (of_decide_eq_true ha)
  have working {t : State} (ht : t.Sound) (ha : decide (t.cell = .opened ∨ t.cell = .halted) = true) : t.Reserved :=
    ht.reserved (by rcases of_decide_eq_true ha with hc | hc <;> rw [hc] <;> decide)
  have closed {t : State} (ht : t.Sound) (ha : decide (t.cell = .closed) = true) : t.Reserved :=
    ht.reserved (by rw [of_decide_eq_true ha]; decide)
  cases c <;> obtain ⟨rfl⟩ := ht
  case powerOn => exact .inl (s.unlaid_powerOn _)
  case layoutReadEnd => exact h.readEnd_runway _
  case layoutWriteEnd => exact held.writeEnd _ _
  case frameReceived | receiveBufferFull | flowStop | flowGo | frameSent | nextEndMarkedWord => exact held.congr rfl rfl rfl rfl
  case carrierLoss => exact held.carrierLoss _
  case carrierReturn => exact held.carrierReturn _
  case unknownMessage =>
    split
    · exact held
    · exact key.process h fun _ h => h.runwayHeld
  case layoutSet => exact key.message h fun _ h _ ha => h.layoutSet_runway (of_decide_eq_true ha).symm _
  case layoutQuery | areaQuery | countsQuery | statusPeek => exact key.message h fun _ h _ _ => h.runwayHeld
  case kindSet =>
    exact key.message h fun _ h _ ha => State.unless_keeps h.runwayHeld fun _ => .inr ((closed h ha).congr rfl rfl rfl rfl)
  case areaSet =>
    exact key.message h fun _ h _ ha => State.unless_keeps h.runwayHeld fun _ => .inr ((closed h ha).congr rfl rfl rfl rfl)
  case kindQuery => exact key.message h fun _ h _ ha => .inr ((laid h ha).kindQuery _)
  case stackRegister =>
    exact key.message h fun _ h _ ha => State.unless_keeps h.runwayHeld fun _ => .inr ((laid h ha).registerAll _ _)
  case stackWithdraw =>
    exact key.message h fun _ h _ ha => State.unless_keeps h.runwayHeld fun _ => .inr ((laid h ha).withdraw _ _)
  case slotRelease => exact key.message h fun _ h _ ha => .inr ((laid h ha).slotRelease _)
  case slotQuery => exact key.message h fun _ h _ ha => .inr ((laid h ha).slotQuery _)
  case sawSet => exact key.message h fun _ h _ ha => .inr ((laid h ha).sawSet _)
  case sawQuery => exact key.message h fun _ h _ ha => .inr ((laid h ha).sawQuery _)
  case gantryPark => exact key.message h fun _ h _ ha => .inr ((laid h ha).gantryPark _)
  case gantryRestore => exact key.message h fun _ h _ ha => .inr ((laid h ha).gantryRestore _ _)
  case openCell =>
    exact key.command h fun _ h ha => .inr (State.Reserved.opportunity ((closed h ha).setCell (by decide)))
  case haltCell =>
    refine key.command h fun _ h ha => .inr (State.Reserved.setCell (h.reserved ?_) (by decide))
    rw [of_decide_eq_true ha]
    decide
  case resumeCell =>
    refine key.command h fun _ h ha => .inr (State.Reserved.opportunity (State.Reserved.setCell (h.reserved ?_) (by decide)))
    rw [of_decide_eq_true ha]
    decide
  case closeCell => exact key.command h fun _ h ha => .inr (working h ha).close
  case latchCounts => exact key.command h fun _ h ha => .inr ((laid h ha).mapCounters Counter.latch Timer.latch)
  case clearCounts => exact key.command h fun _ h ha => .inr ((laid h ha).mapCounters (fun _ => .zero) fun _ => .zero)
  case locatorFlush | pinOn | pinOff => exact key.command h fun _ h _ => h.runwayHeld.congr rfl rfl rfl rfl
  case cellReset => exact key.command h fun _ h _ => h.runwayHeld.imp State.Unlaid.cellReset State.Reserved.cellReset
  case bookRequest =>
    exact key.message h fun _ h _ _ => State.unless_keeps h.runwayHeld fun _ => h.runwayHeld.congr rfl rfl rfl rfl
  case remnantOffer =>
    exact key.message h fun _ h _ _ => State.unless_keeps h.runwayHeld fun _ => h.runwayHeld.congr rfl rfl rfl rfl
  case bookAbort => exact key.message h fun _ h _ ha => .inr ((laid h ha).bookAbort _ _)
  case bookTaken => exact key.message h fun _ h _ ha => .inr ((laid h ha).bookTaken _ _)
  case tableState => exact key.message h fun _ h _ ha => .inr ((laid h ha).tableState _ _)
  case gantryReady => exact key.message h fun _ h _ ha => .inr ((laid h ha).gantryReady _ _)
  case stepDone => exact key.message h fun _ h _ ha => .inr ((laid h ha).stepDone _ _)
  case gantryFault => exact key.message h fun _ h _ ha => .inr ((laid h ha).gantryFault _ _)
  case statusQuery => exact key.message h fun _ h _ _ => h.runwayHeld.congr rfl rfl rfl rfl
  case overrun g =>
    split
    · next ho => exact .inr ((h.reserved_of_eq (of_decide_eq_true ((Bool.and_eq_true _ _).mp ho).1) (by decide)).overrunNow g)
    · exact held
  case dwellEnd g =>
    split
    · next hd => exact .inr ((h.reserved_of_eq (State.dwellOver_spec hd).1 (by decide)).endDwell g)
    · exact held
  case hoverTimeout g =>
    split
    · next ho => exact .inr ((h.reserved_of_eq (of_decide_eq_true ((Bool.and_eq_true _ _).mp ho).1) (by decide)).timeOutHold g)
    · exact held
  case pacingEnd => exact held.pacingReached _
  case pacingRuleUnsatisfied => exact held.repace _
  case sawTimerStep w k => cases k <;> exact held.congr rfl rfl rfl rfl
  case cellClockTick => exact held.congr rfl rfl rfl rfl
  case cellCommand =>
    split
    · exact held
    · exact key.message h fun _ h _ _ => h.runwayHeld

/-- Settles O4: the runway is held before the first layout by two OFFLINE gantries, and under a layout by reservations that each
operation keeps apart. -/
theorem soundRunwayKept : Obligations.SoundRunwayKept := by
  intro s t h ht
  unfold step at ht
  split at ht
  · next c rest _ => exact (exec_runwayHeld (s := { s with pending := rest }) (h.withPorts s.ports rest) c ht).runwaySound
  · cases ht
    exact h.runway

end Sys2Proof.Machine
end

section
/-! PROOFS. The verdicts of the runway (R77, R79, R82, R85): what a request leaves of the two gantries. -/

namespace Sys2Proof.Machine

/-! ## Grants and waits -/

section
variable (s : State) (g : Gantry) (step : Step) (v : Span)

/-- The record of a gantry whose step is issued (R103). -/
def State.issuedRecord : GantryRecord :=
  { s.gantry g with
    state := .stepping
    reservation := some v
    current := some { step with
      request := none
      issued := some ⟨(s.gantry g).nextToken, v, s.clock, s.geom.stepLimit g step.kind (distance (s.pos g) step.target)⟩ }
    dwellEnd := none
    nextToken := (s.gantry g).nextToken + 1 }

/-- The record of a gantry whose step waits for its grant (R79). -/
def State.waitingRecord (k : Verdict) : GantryRecord :=
  { s.gantry g with
    state := .waitGrant
    current := some { step with request := some ⟨v, k⟩, issued := none }
    dwellEnd := none }

theorem State.issue_gantry : (s.issue g step v).gantry g = s.issuedRecord g step v := State.setGantry_gantry_same _ _ _

theorem State.issue_other : (s.issue g step v).gantry (otherGantry g) = s.gantry (otherGantry g) := State.setGantry_gantry_other _ _ _

theorem State.await_gantry (k : Verdict) : (s.await g step v k).gantry g = s.waitingRecord g step v k :=
  State.setGantry_gantry_same _ _ _

theorem State.await_other (k : Verdict) : (s.await g step v k).gantry (otherGantry g) = s.gantry (otherGantry g) :=
  State.setGantry_gantry_other _ _ _

/-- A step that travels for its own sake is judged (R77). -/
theorem State.request_eq_judge {step : Step} (hp : step.kind ≠ .place) (ho : step.kind ≠ .travelOnly) :
    s.request g step v = s.judge g step v := by
  unfold State.request
  split
  · exact absurd ‹_› hp
  · exact absurd ‹_› ho
  · rfl
end

/-! ## Yields -/

/-- What a yield order leaves (R82): the gantry prepares or makes its yield, which is counted; the other gantry is as it was. -/
structure State.Yielded (s t : State) (g : Gantry) (target : Nat) (f : Option FormerState) : Prop where
  step : (t.gantry g).current.map (fun c => (c.kind, c.target)) = some (.travelOnly, target)
  counted : (t.gantry g).yieldsMade = (s.gantry g).yieldsMade.step
  former : (t.gantry g).former = f
  aside : (t.gantry g).setAside = (s.gantry g).setAside
  other : t.gantry (otherGantry g) = s.gantry (otherGantry g)

theorem State.yieldTarget_congr {s t : State} {g : Gantry} (hp : (t.gantry g).position = (s.gantry g).position) (hl : t.layout = s.layout)
    (v : Span) : t.yieldTarget g v = s.yieldTarget g v := by
  unfold State.yieldTarget State.gantryGeom State.geom State.pos
  rw [hp, hl]

/-- However a yield is prepared, its gantry's record has it as the current step. -/
theorem State.prepareYield_record (s : State) (g : Gantry) (step : Step) :
    ((s.prepareYield g step).gantry g).current.map (fun c => (c.kind, c.target)) = some (step.kind, step.target) ∧
      ((s.prepareYield g step).gantry g).yieldsMade = (s.gantry g).yieldsMade ∧
      ((s.prepareYield g step).gantry g).former = (s.gantry g).former ∧
      ((s.prepareYield g step).gantry g).setAside = (s.gantry g).setAside ∧
      (s.prepareYield g step).gantry (otherGantry g) = s.gantry (otherGantry g) := by
  unfold State.prepareYield State.requestYield
  split
  · rw [State.dwellFor, State.setGantry_gantry_same, State.setGantry_gantry_other]
    exact ⟨rfl, rfl, rfl, rfl, rfl⟩
  · split
    · rw [State.issue_gantry, State.issue_other]
      exact ⟨rfl, rfl, rfl, rfl, rfl⟩
    · rw [State.await_gantry, State.await_other]
      exact ⟨rfl, rfl, rfl, rfl, rfl⟩

theorem State.orderYield_yielded (s : State) (g : Gantry) (v : Span) (f : Option FormerState) :
    s.Yielded (s.orderYield g v f) g (s.yieldTarget g v) f := by
  let r : GantryRecord := { s.gantry g with former := f, yieldsMade := (s.gantry g).yieldsMade.step }
  have hg : (s.setGantry g r).gantry g = r := State.setGantry_gantry_same _ _ _
  obtain ⟨hstep, hcount, hformer, haside, hother⟩ := (s.setGantry g r).prepareYield_record g (yieldStep (s.yieldTarget g v))
  rw [hg] at hcount hformer haside
  rw [State.setGantry_gantry_other] at hother
  exact ⟨hstep, hcount, hformer, haside, hother⟩

/-! ## The judgement -/

section
variable {s : State} {g : Gantry} {v : Span}

/-- A blocker that is DWELL, STEPPING or HOVER_HOLD is waited for (R79). -/
theorem State.judge_of_passing (hclear : ¬s.isClear g v = true)
    (hs : (s.gantry (otherGantry g)).state = .dwell ∨ (s.gantry (otherGantry g)).state = .stepping ∨
      (s.gantry (otherGantry g)).state = .hoverHold) (step : Step) : s.judge g step v = (s.await g step v .waiting, false) := by
  rw [State.judge, if_neg hclear]
  rcases hs with hs | hs | hs <;> rw [hs]

/-- A blocker that is OFFLINE, PARKED or FAULTED blocks the step (R79). -/
theorem State.judge_of_immovable (hclear : ¬s.isClear g v = true)
    (hs : (s.gantry (otherGantry g)).state = .offline ∨ (s.gantry (otherGantry g)).state = .parked ∨
      (s.gantry (otherGantry g)).state = .faulted) (step : Step) :
    s.judge g step v = (s.setGantry g { s.gantry g with current := none, dwellEnd := none }, true) := by
  rw [State.judge, if_neg hclear]
  rcases hs with hs | hs | hs <;> rw [hs]

/-- A blocker that is IDLE or STRANDED is ordered to yield (R79, R82). -/
theorem State.judge_of_idle (hclear : ¬s.isClear g v = true)
    (hs : (s.gantry (otherGantry g)).state = .idle ∨ (s.gantry (otherGantry g)).state = .stranded) (step : Step) :
    s.judge g step v = ((s.await g step v .yielding).orderYield (otherGantry g) v (s.gantry (otherGantry g)).state.former, false) := by
  rw [State.judge, if_neg hclear]
  rcases hs with hs | hs <;> rw [hs]

/-- A blocker in WAIT_GRANT whose request overlaps crosses (R79, R85). -/
theorem State.judge_of_crossing (hclear : ¬s.isClear g v = true) (hs : (s.gantry (otherGantry g)).state = .waitGrant)
    (hreq : clearOf (otherGantry g) (s.gantry (otherGantry g)).requestSpan (s.span g) = false) (step : Step) :
    s.judge g step v = (s.cross g step v, false) := by
  rw [State.judge, if_neg hclear, hs]
  dsimp only
  rw [hreq, if_neg Bool.false_ne_true]

/-- The requester that waits keeps its record while the other gantry yields. -/
theorem State.Yielded.of_await {t : State} {step : Step} {k : Verdict} {target : Nat} {f : Option FormerState}
    (h : (s.await g step v k).Yielded t (otherGantry g) target f) :
    t.gantry g = s.waitingRecord g step v k ∧ (t.gantry (otherGantry g)).yieldsMade = (s.gantry (otherGantry g)).yieldsMade.step := by
  have hother := h.other
  have hcounted := h.counted
  rw [otherGantry_otherGantry, State.await_gantry] at hother
  rw [State.await_other] at hcounted
  exact ⟨hother, hcounted⟩

/-- The requester yields in a crossing conflict (R85). -/
theorem State.cross_self (hy : s.crossingYielder = g) (step : Step) :
    (s.cross g step v).gantry (otherGantry g) = s.gantry (otherGantry g) ∧
      ((s.cross g step v).gantry g).setAside = some step.bare ∧ ((s.cross g step v).gantry g).former = none ∧
      ((s.cross g step v).gantry g).current.map (fun c => (c.kind, c.target)) =
        some (.travelOnly, s.yieldTarget g (s.gantry (otherGantry g)).requestSpan) ∧
      ((s.cross g step v).gantry g).yieldsMade = (s.gantry g).yieldsMade.step := by
  let r : GantryRecord := { s.gantry g with setAside := some step.bare, current := none, dwellEnd := none }
  have hg : (s.setGantry g r).gantry g = r := State.setGantry_gantry_same _ _ _
  have hyield := (s.setGantry g r).orderYield_yielded g (s.gantry (otherGantry g)).requestSpan none
  have htarget : (s.setGantry g r).yieldTarget g (s.gantry (otherGantry g)).requestSpan =
      s.yieldTarget g (s.gantry (otherGantry g)).requestSpan :=
    State.yieldTarget_congr (s := s) (t := s.setGantry g r) ((congrArg GantryRecord.position hg).trans rfl) rfl _
  rw [htarget] at hyield
  have hother := hyield.other
  have haside := hyield.aside
  have hcounted := hyield.counted
  rw [hg] at haside hcounted
  rw [State.setGantry_gantry_other] at hother
  rw [State.cross, if_pos hy]
  exact ⟨hother, haside, hyield.former, hyield.step, hcounted⟩

/-- The other gantry yields in a crossing conflict, and the requester waits (R85). -/
theorem State.cross_other (hy : s.crossingYielder ≠ g) (step : Step) :
    (s.cross g step v).gantry g = s.waitingRecord g step v .crossing ∧
      ((s.cross g step v).gantry (otherGantry g)).setAside = (s.gantry (otherGantry g)).current.map Step.bare ∧
      ((s.cross g step v).gantry (otherGantry g)).former = none ∧
      ((s.cross g step v).gantry (otherGantry g)).current.map (fun c => (c.kind, c.target)) =
        some (.travelOnly, s.yieldTarget (otherGantry g) v) ∧
      ((s.cross g step v).gantry (otherGantry g)).yieldsMade = (s.gantry (otherGantry g)).yieldsMade.step := by
  let t := s.await g step v .crossing
  have hto : t.gantry (otherGantry g) = s.gantry (otherGantry g) := s.await_other g step v .crossing
  let r : GantryRecord :=
    { t.gantry (otherGantry g) with setAside := (t.gantry (otherGantry g)).current.map Step.bare, current := none }
  have hg : (t.setGantry (otherGantry g) r).gantry (otherGantry g) = r := State.setGantry_gantry_same _ _ _
  have hself : (t.setGantry (otherGantry g) r).gantry g = t.gantry g := by
    have hkeep := t.setGantry_gantry_other (otherGantry g) r
    rwa [otherGantry_otherGantry] at hkeep
  have hyield := (t.setGantry (otherGantry g) r).orderYield_yielded (otherGantry g) v none
  have hposition : (t.gantry (otherGantry g)).position = (s.gantry (otherGantry g)).position := by rw [hto]
  have hmade : (t.gantry (otherGantry g)).yieldsMade = (s.gantry (otherGantry g)).yieldsMade := by rw [hto]
  have hsteps : (t.gantry (otherGantry g)).current.map Step.bare = (s.gantry (otherGantry g)).current.map Step.bare := by rw [hto]
  have htarget : (t.setGantry (otherGantry g) r).yieldTarget (otherGantry g) v = s.yieldTarget (otherGantry g) v :=
    State.yieldTarget_congr ((congrArg GantryRecord.position hg).trans hposition) rfl _
  rw [htarget] at hyield
  have hother := hyield.other
  have haside := hyield.aside
  have hcounted := hyield.counted
  rw [hg] at haside hcounted
  rw [otherGantry_otherGantry, hself] at hother
  rw [State.cross, if_neg hy]
  exact ⟨hother.trans (s.await_gantry g step v .crossing), haside.trans hsteps, hyield.former, hyield.step,
    hcounted.trans (congrArg Counter.step hmade)⟩
end

/-- Settles O39: each state of the blocker has its verdict, and each verdict its records. -/
theorem runwayVerdicts : Obligations.RunwayVerdicts := by
  intro s g step span hplace honly r o waits yields clear
  have hr : r = s.judge g step span := s.request_eq_judge g span hplace honly
  have hiff : s.isClear g span = true ↔ clear := s.isClear_iff g span
  refine ⟨fun hclear => ?_, fun hclear hs => ?_, fun hclear hs => ?_, fun hclear hs => ?_, fun hclear hs hreq => ?_⟩
  · have he : r = (s.issue g step span, false) := by rw [hr, State.judge, if_pos (hiff.mpr hclear)]
    rw [he]
    exact ⟨rfl, s.issue_other g step span, s.issue_gantry g step span⟩
  · rw [hr, State.judge_of_passing (mt hiff.mp hclear) hs]
    exact ⟨rfl, s.await_other g step span _, s.await_gantry g step span _⟩
  · rw [hr, State.judge_of_immovable (mt hiff.mp hclear) hs]
    exact ⟨rfl, State.setGantry_gantry_other _ _ _, State.setGantry_gantry_same _ _ _⟩
  · have he := State.judge_of_idle (mt hiff.mp hclear) hs step
    have hyield := (s.await g step span .yielding).orderYield_yielded o span (s.gantry o).state.former
    have htarget : (s.await g step span .yielding).yieldTarget o span = s.yieldTarget o span :=
      State.yieldTarget_congr (congrArg GantryRecord.position (s.await_other g step span .yielding)) rfl _
    rw [htarget] at hyield
    obtain ⟨hself, hcounted⟩ := hyield.of_await
    simp only [yields, hr, he]
    refine ⟨trivial, hself, ⟨hyield.step, hcounted⟩, hyield.former.trans ?_⟩
    rcases hs with hs | hs <;> rw [hs] <;> rfl
  · intro later
    have he := State.judge_of_crossing (mt hiff.mp hclear) hs hreq step
    simp only [yields, hr, he]
    by_cases hy : later = g
    · obtain ⟨hother, haside, hformer, hstep, hcounted⟩ := State.cross_self (v := span) hy step
      rw [if_pos hy, hy]
      exact ⟨trivial, hformer, ⟨hstep, hcounted⟩, hother, haside⟩
    · obtain ⟨hself, haside, hformer, hstep, hcounted⟩ := State.cross_other (v := span) hy step
      rw [if_neg hy, (eq_or_eq_other g later).resolve_left hy]
      exact ⟨trivial, hformer, ⟨hstep, hcounted⟩, hself, haside⟩

end Sys2Proof.Machine
end

section
/-! PROOFS. The dwell that a step owes (R93, R94), and its end, which asks for the grant (R101, R103). -/

namespace Sys2Proof.Machine

/-! ## The dwell due -/

section
variable (s : State) (g : Gantry) (c : Step)

/-- The step travels against the last travel direction (R93). -/
def State.Reverses : Prop :=
  (s.pos g < c.target ∧ (s.gantry g).lastDirection = some .west) ∨
    (c.target < s.pos g ∧ (s.gantry g).lastDirection = some .east)

/-- The step picks a panel of a material other than the last (R93). -/
def State.ChangesMaterial : Prop :=
  c.kind = .travelPick ∧ ∃ k m, s.pickKind g c = some k ∧ (s.gantry g).lastMaterial = some m ∧ s.material k ≠ m

variable {s g c}

theorem State.reverseDwell_of_reverses (h : s.Reverses g c) : s.reverseDwell g c = s.geom.dwellReverse := by
  rcases h with ⟨hlt, hl⟩ | ⟨hlt, hl⟩
  · simp [State.reverseDwell, travelDirection, hlt, hl]
  · simp [State.reverseDwell, travelDirection, hlt, hl, Nat.lt_asymm hlt]

theorem State.reverseDwell_of_onward (h : ¬s.Reverses g c) : s.reverseDwell g c = 0 := by
  unfold State.reverseDwell
  split
  · next d l hd hl =>
    refine if_pos ?_
    by_contra hne
    refine h ?_
    unfold travelDirection at hd
    split at hd
    · next hlt =>
      obtain rfl := Option.some.inj hd
      cases l with
      | east => exact absurd rfl hne
      | west => exact .inl ⟨hlt, hl⟩
    · split at hd
      · next hlt =>
        obtain rfl := Option.some.inj hd
        cases l with
        | east => exact .inr ⟨hlt, hl⟩
        | west => exact absurd rfl hne
      · cases hd
  · rfl

theorem State.headDwell_of_change (h : s.ChangesMaterial g c) : s.headDwell g c = s.geom.dwellHead := by
  obtain ⟨hk, k, m, hp, hm, hne⟩ := h
  simp [State.headDwell, hk, hp, hm, hne]

theorem State.headDwell_of_same (h : ¬s.ChangesMaterial g c) : s.headDwell g c = 0 := by
  unfold State.headDwell
  split
  · next k m hk hp hm => exact if_pos (by_contra fun hne => h ⟨of_decide_eq_true hk, k, m, hp, hm, hne⟩)
  · rfl

/-- The dwell due, by what it is due for (R93). -/
theorem State.dwellDue_eq {due : Nat} (hnone : ¬s.Reverses g c → ¬s.ChangesMaterial g c → due = 0)
    (hreverse : s.Reverses g c → ¬s.ChangesMaterial g c → due = s.geom.dwellReverse)
    (hhead : ¬s.Reverses g c → s.ChangesMaterial g c → due = s.geom.dwellHead)
    (hboth : s.Reverses g c → s.ChangesMaterial g c → due = max s.geom.dwellReverse s.geom.dwellHead) :
    s.dwellDue g c = due := by
  unfold State.dwellDue
  by_cases hr : s.Reverses g c <;> by_cases hm : s.ChangesMaterial g c
  · rw [hboth hr hm, State.reverseDwell_of_reverses hr, State.headDwell_of_change hm]
  · rw [hreverse hr hm, State.reverseDwell_of_reverses hr, State.headDwell_of_same hm, Nat.max_zero]
  · rw [hhead hr hm, State.reverseDwell_of_onward hr, State.headDwell_of_change hm, Nat.zero_max]
  · rw [hnone hr hm, State.reverseDwell_of_onward hr, State.headDwell_of_same hm, Nat.max_zero]

theorem State.prepare_of_owed {m : Time} (hm : (s.gantry g).lastCompletion = some m) (h : elapsed s.clock m < s.dwellDue g c) :
    s.prepare g c = (s.dwellFor g c ⟨m, s.dwellDue g c⟩, false) := by
  simp [State.prepare, State.dwellOwed, hm, h]

theorem State.prepare_of_paid (h : ∀ m, (s.gantry g).lastCompletion = some m → s.dwellDue g c ≤ elapsed s.clock m) :
    s.prepare g c = s.request g c (s.requestedSpan g c) := by
  have howed : s.dwellOwed g c = none := by
    unfold State.dwellOwed
    split
    · next m hm => exact if_neg (Nat.not_lt.mpr (h m hm))
    · rfl
  rw [State.prepare, howed]
end

/-! ## The end of a dwell -/

section
variable (s : State) (g : Gantry)

/-- The state with a gantry's dwell end cleared. -/
def State.undwelt : State := { s with gantries := s.gantries.set g { s.gantry g with dwellEnd := none } }

theorem State.undwelt_eq : s.setGantry g { s.gantry g with dwellEnd := none } = s.undwelt g := State.setGantry_of_same rfl rfl

theorem State.undwelt_span (k : Gantry) : (s.undwelt g).span k = s.span k := by cases g <;> cases k <;> rfl

theorem State.undwelt_pos : (s.undwelt g).pos g = s.pos g := by cases g <;> rfl

theorem State.undwelt_isClear (v : Span) : (s.undwelt g).isClear g v = s.isClear g v := by
  rw [State.isClear, State.undwelt_span]; rfl

theorem State.undwelt_requestedSpan (c : Step) : (s.undwelt g).requestedSpan g c = s.requestedSpan g c := by
  unfold State.requestedSpan
  rw [State.undwelt_span, State.undwelt_pos]
  rfl

theorem State.undwelt_other : (s.undwelt g).gantry (otherGantry g) = s.gantry (otherGantry g) := PerGantry.get_set_other _ _ _

/-- A step is issued or waits alike whether or not its dwell end stands yet. -/
theorem State.undwelt_issue (c : Step) (v : Span) : (s.undwelt g).issue g c v = s.issue g c v := by
  cases g <;> rfl

theorem State.undwelt_await (c : Step) (v : Span) (k : Verdict) : (s.undwelt g).await g c v k = s.await g c v k := by
  cases g <;> rfl

variable {s g}

theorem State.endDwell_eq {c : Step} (hc : (s.gantry g).current = some c) :
    s.endDwell g = (State.settleRequest ((s.undwelt g).request g c (s.requestedSpan g c)) g).settle := by
  unfold State.endDwell
  dsimp only
  split
  · next step hstep =>
    obtain rfl := Option.some.inj (hc.symm.trans hstep)
    rw [State.undwelt_eq, State.undwelt_requestedSpan]
  · next hno => rw [hc] at hno; cases hno

/-! ## A change of one gantry that prompts nothing -/

/-- No consequence is prompted but a retest of the other gantry's request. -/
structure State.Spares (s : State) (g : Gantry) : Prop where
  retry : ∀ k, s.duties.retry.get k = false
  retest : s.duties.retest.get g = false
  dispatch : s.duties.dispatch = false

theorem State.spares_of_quiet (hq : s.duties = .none) (g : Gantry) : s.Spares g := by
  refine ⟨fun k => ?_, ?_, ?_⟩ <;> rw [hq]
  · cases k <;> rfl
  · cases g <;> rfl
  · rfl

/-- A gantry's own change prompts no retest of its own request. -/
theorem State.Spares.setGantry (h : s.Spares g) (r : GantryRecord) : (s.setGantry g r).Spares g := by
  obtain ⟨hretry, hdispatch⟩ := s.setGantry_duties g r
  refine ⟨fun k => ?_, ?_, hdispatch.trans h.dispatch⟩
  · rw [hretry]
    exact h.retry k
  · unfold State.setGantry
    dsimp only
    split
    · exact h.retest
    · cases g <;> exact h.retest

theorem State.Spares.due (h : s.Spares g) (ho : (s.gantry (otherGantry g)).state ≠ .waitGrant) (d : Duty) : s.due d = false := by
  cases d with
  | retry k => simp [State.due, h.retry]
  | retest k => exact both_gantries (P := fun k => s.due (.retest k) = false) g (by simp [State.due, h.retest]) (by simp [State.due, ho]) k
  | dispatch => simp [State.due, h.dispatch]

/-- The change of a gantry's record prompts a retest of the other alone, which is not due where the other does not wait. -/
theorem State.due_setGantry (hq : s.duties = .none) (ho : (s.gantry (otherGantry g)).state ≠ .waitGrant) (r : GantryRecord)
    (d : Duty) : (s.setGantry g r).due d = false :=
  ((State.spares_of_quiet hq g).setGantry r).due (by rwa [State.setGantry_gantry_other]) d

theorem State.settle_setGantry (hq : s.duties = .none) (ho : (s.gantry (otherGantry g)).state ≠ .waitGrant) (r : GantryRecord) :
    (s.setGantry g r).settle = { s with gantries := s.gantries.set g r } := by
  rw [State.settle_of_none_due _ (State.due_setGantry hq ho r), ← hq]
  rfl

theorem State.settle_push_setGantry (hq : s.duties = .none) (ho : (s.gantry (otherGantry g)).state ≠ .waitGrant)
    (r : GantryRecord) (p : Port) (m : Pushed) :
    ((s.setGantry g r).push p m).settle = State.push { s with gantries := s.gantries.set g r } p m := by
  have hdue (d : Duty) : ((s.setGantry g r).push p m).due d = false := by
    have hkeep := State.due_setGantry hq ho r d
    cases d <;> exact hkeep
  rw [State.settle_of_none_due _ hdue, ← hq]
  rfl

/-! ## The grant that the end of a dwell asks for -/

/-- A step whose way is clear, and a PLACE, is issued (R77, R82). -/
theorem State.request_of_clear {c : Step} (h : c.kind = .place ∨ s.isClear g (s.requestedSpan g c) = true) :
    s.request g c (s.requestedSpan g c) = (s.issue g c (s.requestedSpan g c), false) := by
  have hplace : c.kind = .place → s.requestedSpan g c = s.span g := fun hk => by simp [State.requestedSpan, hk]
  unfold State.request
  split
  · next hk => rw [hplace hk]
  · next hk => rw [State.requestYield, if_pos (h.resolve_left (by rw [hk]; decide))]
  · next hk _ => rw [State.judge, if_pos (h.resolve_left hk)]

theorem State.endDwell_of_clear {c : Step} (hq : s.duties = .none) (hc : (s.gantry g).current = some c)
    (ho : (s.gantry (otherGantry g)).state ≠ .waitGrant)
    (h : c.kind = .place ∨ s.isClear g (s.requestedSpan g c) = true) :
    s.endDwell g = State.push { s with gantries := s.gantries.set g (s.issuedRecord g c (s.requestedSpan g c)) } (.gantry g)
      (.stepOrder (s.stepOrder g c (s.gantry g).nextToken)) := by
  have hclear : c.kind = .place ∨ (s.undwelt g).isClear g ((s.undwelt g).requestedSpan g c) = true := by
    rwa [State.undwelt_isClear, State.undwelt_requestedSpan]
  have hrequest := State.request_of_clear hclear
  rw [State.undwelt_requestedSpan, State.undwelt_issue] at hrequest
  rw [State.endDwell_eq hc, hrequest]
  exact State.settle_push_setGantry hq ho _ _ _

theorem State.endDwell_of_passing {c : Step} (hq : s.duties = .none) (hc : (s.gantry g).current = some c)
    (hplace : c.kind ≠ .place) (honly : c.kind ≠ .travelOnly) (h : ¬s.isClear g (s.requestedSpan g c) = true)
    (hs : (s.gantry (otherGantry g)).state = .dwell ∨ (s.gantry (otherGantry g)).state = .stepping ∨
      (s.gantry (otherGantry g)).state = .hoverHold) :
    s.endDwell g = { s with gantries := s.gantries.set g (s.waitingRecord g c (s.requestedSpan g c) .waiting) } := by
  have hjudge := State.judge_of_passing (s := s.undwelt g) (by rwa [State.undwelt_isClear]) (by rwa [State.undwelt_other]) c
  rw [State.undwelt_await] at hjudge
  rw [State.endDwell_eq hc, State.request_eq_judge _ _ _ hplace honly, hjudge]
  exact State.settle_setGantry hq (by rcases hs with hs | hs | hs <;> rw [hs] <;> decide) _
end

theorem State.dwellOver_of_reached {s : State} {g : Gantry} {m : Moment} (hs : (s.gantry g).state = .dwell)
    (hm : (s.gantry g).dwellEnd = some m) (h : m.duration ≤ elapsed s.clock m.since) : s.dwellOver g = true := by
  simp [State.dwellOver, hs, hm, Moment.reached, h]

theorem State.dwellOver_of_unreached {s : State} {g : Gantry} (h : (s.gantry g).state ≠ .dwell ∨
    ∀ m, (s.gantry g).dwellEnd = some m → elapsed s.clock m.since < m.duration) : s.dwellOver g = false := by
  refine Bool.eq_false_iff.mpr fun hover => ?_
  obtain ⟨hs, m, hm⟩ := State.dwellOver_spec hover
  rcases h with h | h
  · exact h hs
  · have hlt := h m hm
    simp [State.dwellOver, hs, hm, Moment.reached] at hover
    omega

/-- The requested span of a step, by its kind and its gantry (R77, R82). -/
theorem State.requestedSpan_eq (s : State) (g : Gantry) (c : Step) : s.requestedSpan g c =
    (match c.kind, g with
      | .place, _ => s.span g
      | .travelOnly, .west => ⟨(s.geom.travel g (s.pos g) c.target).lo, (s.span g).hi⟩
      | .travelOnly, .east => ⟨(s.span g).lo, (s.geom.travel g (s.pos g) c.target).hi⟩
      | _, _ => s.geom.travel g (s.pos g) c.target : Span) := by
  unfold State.requestedSpan
  cases c.kind <;> cases g <;> rfl

/-- Settles O48: the dwell due by what it is due for, and the grant or the wait at its end. -/
theorem dwellEndRequestsGrant : Obligations.DwellEndRequestsGrant := by
  refine ⟨?_, fun s g hq => ⟨fun hover => ?_, ?_⟩⟩
  · intro s g c against kind other due hnone hreverse hhead hboth
    have hdue : s.dwellDue g c = due := State.dwellDue_eq hnone hreverse hhead hboth
    subst hdue
    exact ⟨fun m hm howed => State.prepare_of_owed hm howed, State.prepare_of_paid⟩
  · show Host.Outcome.next (if s.dwellOver g = true then s.endDwell g else s) = _
    rw [State.dwellOver_of_unreached hover]
    rfl
  · intro m c hs hm hreached hc ho travel span clear
    have hrun : exec (.dwellEnd g) s = .next (s.endDwell g) := by
      show Host.Outcome.next (if s.dwellOver g = true then s.endDwell g else s) = _
      rw [if_pos (State.dwellOver_of_reached hs hm hreached)]
    have hspan : s.requestedSpan g c = span := s.requestedSpan_eq g c
    have hiff : s.isClear g (s.requestedSpan g c) = true ↔ clear := by
      rw [hspan]
      exact s.isClear_iff g span
    rw [hrun, ← hspan]
    exact ⟨fun hclear => congrArg Host.Outcome.next (State.endDwell_of_clear hq hc ho (hclear.imp_right hiff.mpr)),
      fun hplace honly hclear hpass =>
        congrArg Host.Outcome.next (State.endDwell_of_passing hq hc hplace honly (mt hiff.mp hclear) hpass)⟩

end Sys2Proof.Machine
end

section
/-! PROOFS. STEP_DONE of a yield (R106, R107), up to what the completion settles to. -/

namespace Sys2Proof.Machine

/-! ## The completion, whatever outcome is reported -/

section
variable (s : State) (g : Gantry) (c : Step) (v : Span) (x : Nat) (o : StepOutcome)

/-- The gantry's record as its step has completed with an outcome. -/
def State.reportedRecord : GantryRecord := { s.completedRecord g c v x with lastOutcome := some o }

/-- The state in which a gantry's step has completed and its task has not been taken further. -/
def State.reported (d : Duties) : State := { s with gantries := s.gantries.set g (s.reportedRecord g c v x o), duties := d }

theorem State.reported_gantry (d : Duties) : (s.reported g c v x o d).gantry g = s.reportedRecord g c v x o := PerGantry.get_set_same _ _ _

theorem State.reported_other (d : Duties) : (s.reported g c v x o d).gantry (otherGantry g) = s.gantry (otherGantry g) :=
  PerGantry.get_set_other _ _ _
end

/-- The outstanding step completes inside its granted span, with any outcome. -/
theorem State.acceptStep_reported {s : State} {g : Gantry} {c : Step} {v : Span} {x : Nat} (hq : s.duties = .none)
    (h : v.holds x = true) (o : StepOutcome) :
    ∃ d, (s.reported g c v x o d).Spares g ∧
      s.acceptStep g c v x o = (s.reported g c v x o d).stepCompleted g c (decide (o = .ok)) := by
  have hrecord : (s.noteOutcome g o).completedRecord g c v x = s.reportedRecord g c v x o := by
    cases g <;> rfl
  let t := (s.noteOutcome g o).setGantry g (s.reportedRecord g c v x o)
  have ht : t = s.reported g c v x o t.duties := by
    simp only [t, State.noteOutcome, State.setGantry, PerGantry.set_set]
    rfl
  have hspares : t.Spares g := ((State.spares_of_quiet hq g).setGantry _).setGantry _
  refine ⟨t.duties, by rwa [← ht], ?_⟩
  rw [State.acceptStep, if_pos h, State.completeStep, hrecord, ← ht]

/-- A STEP_DONE with an outcome reports the end of a gantry's outstanding yield, inside its granted span (R105, R106). -/
structure State.YieldReported (s : State) (g : Gantry) (k x o : Word) (c : Step) (i : Issued) : Prop where
  layout : s.cell ≠ .noLayout
  outcome : o.toNat ≤ 3
  ready : s.Ready (.gantry g) ⟨0x32, [k, x, o]⟩ 1
  state : (s.gantry g).state = .stepping
  current : (s.gantry g).current = some c
  kind : c.kind = .travelOnly
  issued : c.issued = some i
  token : i.token.toNat = k.toNat
  lo : i.span.lo ≤ x.toNat
  hi : x.toNat ≤ i.span.hi

/-- The report of a yield is accepted, whatever its outcome: the yield completes. -/
theorem State.YieldReported.exec_stepDone {s : State} {g : Gantry} {k x o : Word} {c : Step} {i : Issued}
    (h : s.YieldReported g k x o c i) :
    ∃ d, let r := (s.taken (.gantry g)).reported g c i.span x.toNat (stepOutcomeOf o.toNat) d
      let u := (r.yieldDone g).settle
      r.Spares g ∧
        (∃ t, exec (.stepDone (.gantry g) [k, x, o]) s = .next t ∧ t.slots = u.slots ∧ t.gantries = u.gantries) ∧
        ∀ E : State, (E.port (.gantry g)).outbound = (s.port (.gantry g)).outbound → u = E.taken (.gantry g) →
          exec (.stepDone (.gantry g) [k, x, o]) s = .next (E.answered (.gantry g) (.accepted 0x32 0 none)) := by
  let t := s.taken (.gantry g)
  have hout : (t.gantry g).outstanding (word [k, x, o] 0) = some (c, i.span) := by
    have h1 : (t.gantry g).state = .stepping := h.state
    have h2 : (t.gantry g).current = some c := h.current
    simp [GantryRecord.outstanding, h1, h2, h.issued, word, h.token]
  have hbody : t.stepDone g [k, x, o] = (t.acceptStep g c i.span x.toNat (stepOutcomeOf o.toNat), acceptedReply .stepDone) := by
    simp only [State.stepDone, hout]
    rfl
  obtain ⟨d, hspares, hd⟩ := State.acceptStep_reported (s := t) (g := g) (c := c) (v := i.span) (x := x.toNat) h.ready.settled
    (by simp [Span.holds, h.lo, h.hi]) (stepOutcomeOf o.toNat)
  have hyield : (t.reported g c i.span x.toNat (stepOutcomeOf o.toNat) d).stepCompleted g c (decide (stepOutcomeOf o.toNat = .ok)) =
      (t.reported g c i.span x.toNat (stepOutcomeOf o.toNat) d).yieldDone g := by
    simp only [State.stepCompleted, h.kind]
  rw [hyield] at hd
  have hcheck := stepDone_check g k x o h.outcome
  have haccepts : Message.stepDone.accepts s.cell = true := by simpa [Message.accepts] using h.layout
  refine ⟨d, hspares, ⟨_, rfl, ?_⟩, fun E hport hsettle => ?_⟩
  · have hhandle : t.handleMessage .stepDone (.gantry g) [k, x, o] (fun t => t.stepDone g [k, x, o]) = t.stepDone g [k, x, o] := by
      have haccepts' : Message.stepDone.accepts t.cell = true := haccepts
      simp only [State.handleMessage, hcheck, haccepts', if_true]
    show (State.process s (.gantry g) ⟨0x32, [k, x, o]⟩ fun t => t.handleMessage .stepDone (.gantry g) [k, x, o]
      fun t => t.stepDone g [k, x, o]).slots = _ ∧ (State.process s (.gantry g) ⟨0x32, [k, x, o]⟩ fun t =>
        t.handleMessage .stepDone (.gantry g) [k, x, o] fun t => t.stepDone g [k, x, o]).gantries = _
    rw [State.process_ready (by rw [hhandle, hbody]; exact h.ready), hhandle, hbody, hd]
    exact ⟨rfl, rfl⟩
  · refine congrArg Host.Outcome.next (State.message_effect h.ready hcheck haccepts rfl ?_ ?_ hport)
    · show (t.stepDone g [k, x, o]).2 = _
      rw [hbody]
      rfl
    · show (t.stepDone g [k, x, o]).1.settle = _
      rw [hbody]
      dsimp only
      rw [hd]
      exact hsettle

end Sys2Proof.Machine
end

section
/-! PROOFS. What a gantry that takes a step up keeps, and a return's destination where the other gantry does not yield (R101, R163). -/

namespace Sys2Proof.Machine

/-! ## A gantry that takes a step up -/

/-- The record of a gantry that has taken a step up is its record before but for the step and how far it has come with it. -/
structure GantryRecord.TakesUp (r q : GantryRecord) (step : Step) : Prop where
  step : r.current.map (fun c => (c.kind, c.target, c.slot, c.saw)) = some (step.kind, step.target, step.slot, step.saw)
  task : r.task = q.task
  aside : r.setAside = q.setAside
  carried : r.carried = q.carried

section
variable (s : State) (g : Gantry) (step : Step)

/-- The record of a gantry that dwells before a step (R94). -/
def State.dwellRecord (m : Moment) : GantryRecord :=
  { s.gantry g with
    state := .dwell
    current := some { step with request := none, issued := none }
    dwellEnd := some m }

theorem State.dwellFor_gantry (m : Moment) : (s.dwellFor g step m).gantry g = s.dwellRecord g step m :=
  State.setGantry_gantry_same _ _ _

theorem State.dwellFor_other (m : Moment) : (s.dwellFor g step m).gantry (otherGantry g) = s.gantry (otherGantry g) :=
  State.setGantry_gantry_other _ _ _

theorem State.issuedRecord_takesUp (v : Span) : (s.issuedRecord g step v).TakesUp (s.gantry g) step := ⟨rfl, rfl, rfl, rfl⟩

theorem State.waitingRecord_takesUp (v : Span) (k : Verdict) : (s.waitingRecord g step v k).TakesUp (s.gantry g) step :=
  ⟨rfl, rfl, rfl, rfl⟩

theorem State.dwellRecord_takesUp (m : Moment) : (s.dwellRecord g step m).TakesUp (s.gantry g) step := ⟨rfl, rfl, rfl, rfl⟩

/-- A step that is prepared dwells, or asks for its grant at once (R101). -/
theorem State.prepare_cases : (∃ m, s.prepare g step = (s.dwellFor g step m, false)) ∨
    s.prepare g step = s.request g step (s.requestedSpan g step) := by
  unfold State.prepare
  split
  · exact .inl ⟨_, rfl⟩
  · exact .inr rfl
end

/-- What taking a step up, or giving it up, leaves: the other gantry and the slots as they are, and nothing prompted but a retest
of the other's request. -/
structure State.OwnMove (s t : State) (g : Gantry) : Prop where
  other : t.gantry (otherGantry g) = s.gantry (otherGantry g)
  slots : t.slots = s.slots
  spares : s.Spares g → t.Spares g

section
variable (s : State) (g : Gantry)

theorem State.ownMove_setGantry (r : GantryRecord) : s.OwnMove (s.setGantry g r) g :=
  ⟨State.setGantry_gantry_other _ _ _, rfl, fun h => h.setGantry r⟩

theorem State.ownMove_issue (step : Step) (v : Span) : s.OwnMove (s.issue g step v) g :=
  ⟨s.issue_other g step v, rfl, fun h => ⟨(h.setGantry _).retry, (h.setGantry _).retest, (h.setGantry _).dispatch⟩⟩
end

theorem State.OwnMove.trans {s t u : State} {g : Gantry} (h : s.OwnMove t g) (k : t.OwnMove u g) : s.OwnMove u g :=
  ⟨k.other.trans h.other, k.slots.trans h.slots, fun hs => k.spares (h.spares hs)⟩

section
variable {s : State} {g : Gantry} {step : Step}

theorem State.requestedSpan_of_travel (hp : step.kind ≠ .place) (ho : step.kind ≠ .travelOnly) :
    s.requestedSpan g step = s.geom.travel g (s.pos g) step.target := by
  unfold State.requestedSpan
  split
  · exact absurd ‹_› hp
  · exact absurd ‹_› ho
  · rfl

/-- A travel whose way is clear dwells or is issued (R77, R101). -/
theorem State.prepare_taken (hp : step.kind ≠ .place) (ho : step.kind ≠ .travelOnly)
    (hc : s.isClear g (s.geom.travel g (s.pos g) step.target) = true) :
    (s.prepare g step).2 = false ∧ s.OwnMove (s.prepare g step).1 g ∧
      ((s.prepare g step).1.gantry g).TakesUp (s.gantry g) step ∧
      (((s.prepare g step).1.gantry g).state = .dwell ∨ ((s.prepare g step).1.gantry g).state = .stepping) := by
  rcases s.prepare_cases g step with ⟨m, hm⟩ | hrequest
  · rw [hm, State.dwellFor_gantry]
    exact ⟨rfl, s.ownMove_setGantry g _, s.dwellRecord_takesUp g step m, .inl rfl⟩
  · rw [hrequest, State.request_of_clear (.inr (by rwa [State.requestedSpan_of_travel hp ho])), State.issue_gantry]
    exact ⟨rfl, s.ownMove_issue g step _, s.issuedRecord_takesUp g step _, .inr rfl⟩

/-- A travel dwells, is issued, waits or is withdrawn where the other gantry neither yields nor waits itself (R79, R101). -/
theorem State.prepare_moves (hp : step.kind ≠ .place) (ho : step.kind ≠ .travelOnly)
    (hidle : (s.gantry (otherGantry g)).state ≠ .idle) (hstranded : (s.gantry (otherGantry g)).state ≠ .stranded)
    (hgrant : (s.gantry (otherGantry g)).state ≠ .waitGrant) :
    s.OwnMove (s.prepare g step).1 g ∧ ((s.prepare g step).1.gantry g).task = (s.gantry g).task ∧
      ((s.prepare g step).1.gantry g).carried = (s.gantry g).carried ∧
      ((s.prepare g step).2 = true → ((s.prepare g step).1.gantry g).state = (s.gantry g).state) := by
  rcases s.prepare_cases g step with ⟨m, hm⟩ | hrequest
  · rw [hm, State.dwellFor_gantry]
    exact ⟨s.ownMove_setGantry g _, rfl, rfl, Bool.noConfusion⟩
  · rw [hrequest, State.request_eq_judge _ _ _ hp ho]
    by_cases hclear : s.isClear g (s.requestedSpan g step) = true
    · rw [State.judge, if_pos hclear, State.issue_gantry]
      exact ⟨s.ownMove_issue g step _, rfl, rfl, Bool.noConfusion⟩
    · cases hs : (s.gantry (otherGantry g)).state with
      | idle => exact absurd hs hidle
      | stranded => exact absurd hs hstranded
      | waitGrant => exact absurd hs hgrant
      | dwell | stepping | hoverHold =>
        rw [State.judge_of_passing hclear (by simp [hs]), State.await_gantry]
        exact ⟨s.ownMove_setGantry g _, rfl, rfl, Bool.noConfusion⟩
      | offline | parked | faulted =>
        rw [State.judge_of_immovable hclear (by simp [hs]), State.setGantry_gantry_same]
        exact ⟨s.ownMove_setGantry g _, rfl, rfl, fun _ => rfl⟩
end

/-! ## The destination of a return -/

section
variable {s : State} {g : Gantry}

/-- What a return's task keeps of its beginning. -/
def GantryRecord.taskBegun (r : GantryRecord) : Option (TaskKind × Time) := r.task.map fun u => (u.kind, u.start)

theorem State.beginPut_gantry (n : Nat) : (s.beginPut g n).gantry g =
    { s.gantry g with task := (s.gantry g).task.map fun t => { t with phase := .putting, destination := some n } } := by
  have hclaim : (s.claim n g .put).gantry g = s.gantry g := by
    unfold State.claim
    split <;> rfl
  rw [State.beginPut, State.updateTask, State.setGantry_gantry_same, hclaim]

theorem State.beginPut_other (n : Nat) : (s.beginPut g n).gantry (otherGantry g) = s.gantry (otherGantry g) := by
  rw [State.beginPut, State.updateTask, State.setGantry_gantry_other]
  unfold State.claim
  split <;> rfl

theorem State.Spares.beginPut (h : s.Spares g) (n : Nat) : (s.beginPut g n).Spares g := by
  refine State.Spares.setGantry ?_ _
  unfold State.claim
  split
  · exact ⟨h.retry, h.retest, h.dispatch⟩
  · exact h

theorem State.beginPut_geom (n : Nat) : (s.beginPut g n).geom = s.geom := by
  unfold State.beginPut State.claim
  split <;> rfl

theorem State.beginPut_isClear (n : Nat) (v : Span) : (s.beginPut g n).isClear g v = s.isClear g v := by
  rw [State.isClear, State.span, State.beginPut_other]
  rfl

theorem State.beginPut_pos (n : Nat) : (s.beginPut g n).pos g = s.pos g := by
  rw [State.pos, State.beginPut_gantry]
  rfl

/-- The slot that a destination search has found is claimed (R163). -/
theorem State.beginPut_claim {n : Nat} (h : s.putSearch g = some n) (hn : n < s.slots.length) :
    ((s.beginPut g n).slot n).claim = some ⟨g, .put⟩ := by
  obtain ⟨p, -, htakes⟩ := State.putSearch_takes h
  show ((s.claim n g .put).slot n).claim = _
  rw [State.claim_eq htakes.unclaimed htakes.clear, State.slot_setSlot, if_pos hn]

/-- A put whose way is clear is taken up, with its slot claimed (R163). -/
theorem State.putTo_taken {n : Nat} (h : s.putSearch g = some n) (hspares : s.Spares g)
    (hc : s.isClear g (s.geom.travel g (s.pos g) (s.geom.slotX n)) = true) :
    (s.putTo g n).Spares g ∧ (s.putTo g n).gantry (otherGantry g) = s.gantry (otherGantry g) ∧
      (((s.putTo g n).gantry g).state = .dwell ∨ ((s.putTo g n).gantry g).state = .stepping) ∧
      ((s.putTo g n).gantry g).current.map (fun c => (c.kind, c.slot)) = some (.travelPut, some n) ∧
      (n < s.slots.length → ((s.putTo g n).slot n).claim = some ⟨g, .put⟩) := by
  have hclear : (s.beginPut g n).isClear g ((s.beginPut g n).geom.travel g ((s.beginPut g n).pos g) (s.putStep n).target) = true := by
    rw [State.beginPut_isClear, State.beginPut_geom, State.beginPut_pos]
    exact hc
  obtain ⟨hway, hmove, htaken, hstate⟩ := State.prepare_taken (step := s.putStep n) (by simp [State.putStep])
    (by simp [State.putStep]) hclear
  rw [State.putTo_of_not_blocked hway]
  refine ⟨hmove.spares (hspares.beginPut n), hmove.other.trans (State.beginPut_other n), hstate, ?_, fun hn => ?_⟩
  · have hstep := congrArg (Option.map fun q : StepKind × Nat × Option Nat × Option Saw => (q.1, q.2.2.1)) htaken.step
    rwa [Option.map_map] at hstep
  · rw [State.slot_of_slots hmove.slots]
    exact State.beginPut_claim h hn

theorem State.Spares.releaseClaim (h : s.Spares g) (hw : s.NobodyWaits) (n : Nat) : (s.releaseClaim n).Spares g := by
  by_cases hc : (s.slot n).claim = none
  · rwa [State.releaseClaim, if_pos hc]
  · rw [State.releaseClaim_of_nobodyWaits hw hc]
    exact ⟨h.retry, h.retest, h.dispatch⟩

theorem State.strand_keeps (s : State) (g : Gantry) : ((s.strand g).gantry g).carried = (s.gantry g).carried ∧
    ((s.strand g).gantry g).taskBegun = (s.gantry g).taskBegun ∧
    (s.strand g).gantry (otherGantry g) = s.gantry (otherGantry g) ∧ (s.Spares g → (s.strand g).Spares g) := by
  let q : GantryRecord := { s.gantry g with
    state := .stranded
    task := (s.gantry g).task.map fun t => { t with phase := .stranded, destination := none, putFailures := 0 }
    current := none
    dwellEnd := none }
  have hg : (s.strand g).gantry g = q := State.setGantry_gantry_same _ _ _
  have ho : (s.strand g).gantry (otherGantry g) = s.gantry (otherGantry g) := State.setGantry_gantry_other _ _ _
  refine ⟨by rw [hg], ?_, ho, fun h => ⟨(h.setGantry q).retry, (h.setGantry q).retest, (h.setGantry q).dispatch⟩⟩
  rw [hg, GantryRecord.taskBegun, Option.map_map]
  rfl

/-- A return looks for its destination where the other gantry stays where it is: the panel and the task stay the gantry's, and no
consequence is prompted but a retest of the other's request. -/
theorem State.seekPut_keeps (hspares : s.Spares g) (hw : s.NobodyWaits) (hdwell : (s.gantry g).state ≠ .dwell)
    (hown : (s.gantry g).state ≠ .stranded)
    (hidle : (s.gantry (otherGantry g)).state ≠ .idle) (hstranded : (s.gantry (otherGantry g)).state ≠ .stranded)
    (hgrant : (s.gantry (otherGantry g)).state ≠ .waitGrant) :
    ((s.seekPut g).gantry g).carried = (s.gantry g).carried ∧ ((s.seekPut g).gantry g).taskBegun = (s.gantry g).taskBegun ∧
      (s.seekPut g).gantry (otherGantry g) = s.gantry (otherGantry g) ∧ (s.seekPut g).Spares g := by
  unfold State.seekPut
  split
  · next n _ =>
    let u := s.beginPut g n
    have huo : u.gantry (otherGantry g) = s.gantry (otherGantry g) := State.beginPut_other n
    have hug := State.beginPut_gantry (s := s) (g := g) n
    have hbegun : (u.gantry g).taskBegun = (s.gantry g).taskBegun := by
      rw [hug, GantryRecord.taskBegun, Option.map_map]
      rfl
    obtain ⟨hmove, htask, hcarried, hkeep⟩ := State.prepare_moves (s := u) (g := g) (step := s.putStep n)
      (by simp [State.putStep]) (by simp [State.putStep]) (by rwa [huo]) (by rwa [huo]) (by rwa [huo])
    have hcarried' : ((u.prepare g (s.putStep n)).1.gantry g).carried = (s.gantry g).carried := hcarried.trans (by rw [hug])
    have hbegun' : ((u.prepare g (s.putStep n)).1.gantry g).taskBegun = (s.gantry g).taskBegun := by
      rw [GantryRecord.taskBegun, htask]
      exact hbegun
    have hother := hmove.other.trans huo
    have hspares' := hmove.spares (hspares.beginPut n)
    by_cases hblocked : (u.prepare g (s.putStep n)).2 = true
    · have hput : s.putTo g n = ((u.prepare g (s.putStep n)).1.releaseClaim n).strand g := by
        unfold State.putTo
        split
        · next heq => rw [heq] at hblocked; cases hblocked
        · next heq => rw [heq]
      have hstate := (hkeep hblocked).trans (congrArg GantryRecord.state hug)
      have hwait : (u.prepare g (s.putStep n)).1.NobodyWaits :=
        both_gantries g (GantryRecord.waits_of_state (by rw [hstate]; exact hown) (by rw [hstate]; exact hdwell))
          (by rw [hother]; exact hw _)
      obtain ⟨h1, h2, h3, h4⟩ := ((u.prepare g (s.putStep n)).1.releaseClaim n).strand_keeps g
      rw [State.releaseClaim_gantry] at h1 h2 h3
      rw [hput]
      exact ⟨h1.trans hcarried', h2.trans hbegun', h3.trans hother, h4 (hspares'.releaseClaim hwait n)⟩
    · rw [State.putTo_of_not_blocked (Bool.eq_false_iff.mpr hblocked)]
      exact ⟨hcarried', hbegun', hother, hspares'⟩
  · obtain ⟨h1, h2, h3, h4⟩ := s.strand_keeps g
    exact ⟨h1, h2, h3, h4 hspares⟩
end

end Sys2Proof.Machine
end

section
/-! PROOFS. What a dispatch pass reads of the gantries (R51, R148 to R151). -/

namespace Sys2Proof.Machine

/-- The state with other gantry records, ports, prompted consequences and free values. -/
def State.redrawn (s : State) (rs : PerGantry GantryRecord) (ps : PerPort PortRecord) (d : Duties) (n : Nat) : State :=
  { s with gantries := rs, ports := ps, duties := d, freeNext := n }

/-- Two gantry records that a dispatch pass does not tell apart: the position, whether the gantry is IDLE, and the reservation of
one that is immovable. -/
structure GantryRecord.DispatchesAs (r q : GantryRecord) : Prop where
  position : r.position = q.position
  immovable : r.state.immovable = q.state.immovable
  reservation : q.state.immovable = true → r.reservation = q.reservation
  idle : r.state = .idle ↔ q.state = .idle

theorem GantryRecord.DispatchesAs.refl (r : GantryRecord) : r.DispatchesAs r := ⟨rfl, rfl, fun _ => rfl, Iff.rfl⟩

section
variable {s : State} {rs : PerGantry GantryRecord} {ps : PerPort PortRecord} {d : Duties} {n : Nat}

theorem State.reachableX_redrawn (hr : ∀ k, (rs.get k).DispatchesAs (s.gantry k)) (k : Gantry) (x : Nat) :
    (s.redrawn rs ps d n).reachableX k x = s.reachableX k x := by
  have hpast : (s.redrawn rs ps d n).pastOther k x = s.pastOther k x := by
    have hsame := hr (otherGantry k)
    show (!(rs.get (otherGantry k)).state.immovable || clearOf k (s.geom.standing k x) ((rs.get (otherGantry k)).reservation.getD _)) = _
    rw [State.pastOther, State.span, hsame.immovable]
    cases hfixed : (s.gantry (otherGantry k)).state.immovable with
    | false => rfl
    | true => rw [hsame.reservation hfixed]
  rw [State.reachableX, hpast]
  rfl

theorem State.offerQualifies_redrawn (hr : ∀ k, (rs.get k).DispatchesAs (s.gantry k)) (w : Saw) (o : Offer) :
    (s.redrawn rs ps d n).offerQualifies w o = s.offerQualifies w o := by
  funext k
  have hcandidate : (s.redrawn rs ps d n).remnantReturnCandidate k w o.kind = s.remnantReturnCandidate k w o.kind := by
    funext m
    unfold State.remnantReturnCandidate State.reachable
    rw [State.reachableX_redrawn hr]
    rfl
  unfold State.offerQualifies State.destinationTest State.remnantReturnCandidates
  rw [hcandidate]
  rfl

theorem State.holdSet_redrawn (hr : ∀ k, (rs.get k).DispatchesAs (s.gantry k))
    (hp : ∀ p, (ps.get p).carrierUp = (s.port p).carrierUp) (w : Saw) : (s.redrawn rs ps d n).holdSet w = s.holdSet w := by
  have hreach (k : Gantry) : (s.redrawn rs ps d n).canReachInfeed w k = s.canReachInfeed w k := by
    unfold State.canReachInfeed State.inService
    rw [State.reachableX_redrawn hr]
    show (!(rs.get k).state.immovable && _) = _
    rw [(hr k).immovable]
    rfl
  have hactive : (s.redrawn rs ps d n).holdActive w = s.holdActive w := by
    funext q
    cases q with
    | linkDown => exact congrArg (fun b => !b) (hp (.saw w))
    | noGantry =>
      unfold State.holdActive
      rw [hreach, hreach]
    | disabled | halt | backlog | pacing => rfl
  unfold State.holdSet
  rw [hactive]
  rfl

theorem State.nearest_redrawn (hr : ∀ k, (rs.get k).DispatchesAs (s.gantry k)) (x : Nat) (gs : List Gantry) :
    (s.redrawn rs ps d n).nearest x gs = s.nearest x gs := by
  have hpos (k : Gantry) : (s.redrawn rs ps d n).pos k = s.pos k := congrArg (Option.getD · 0) (hr k).position
  unfold State.nearest
  rw [hpos, hpos]

theorem State.round_redrawn (hr : ∀ k, (rs.get k).DispatchesAs (s.gantry k))
    (hp : ∀ p, (ps.get p).carrierUp = (s.port p).carrierUp) (gs : List Gantry) :
    (s.redrawn rs ps d n).round gs = s.round gs := by
  have hbook (w : Saw) : (s.redrawn rs ps d n).bookQualifies w = s.bookQualifies w := by
    funext k
    unfold State.bookQualifies
    rw [State.holdSet_redrawn hr hp]
    rfl
  have hturn : (s.redrawn rs ps d n).turn gs = s.turn gs := by
    funext w
    have hoffer : (s.redrawn rs ps d n).offerTurn gs w = s.offerTurn gs w := by
      unfold State.offerTurn
      simp only [State.offerQualifies_redrawn hr, State.nearest_redrawn hr]
      rfl
    have hbooks : (s.redrawn rs ps d n).bookTurn gs w = s.bookTurn gs w := by
      unfold State.bookTurn
      simp only [hbook, State.nearest_redrawn hr]
      rfl
    unfold State.turn
    rw [hoffer, hbooks]
    rfl
  unfold State.round
  rw [hturn]
  rfl

/-- Whether there is a task to give rests, of what may change here, on what a dispatch pass reads of the gantries and on the
carriers. -/
theorem State.NothingToGive.redrawn (h : s.NothingToGive) (hr : ∀ k, (rs.get k).DispatchesAs (s.gantry k))
    (hp : ∀ p, (ps.get p).carrierUp = (s.port p).carrierUp) : (s.redrawn rs ps d n).NothingToGive := by
  have hidle (gs : List Gantry) : (s.redrawn rs ps d n).stillIdle gs = s.stillIdle gs :=
    List.filter_congr fun k _ => decide_eq_decide.mpr (hr k).idle
  have hpass : (s.redrawn rs ps d n).passDue = s.passDue := by
    unfold State.passDue
    rw [hidle]
    rfl
  intro hdue
  rw [hidle, State.round_redrawn hr hp]
  exact h (hpass.symm.trans hdue)
end

end Sys2Proof.Machine
end


section
/-! PROOFS. A request that waits is tested again and granted (R80): what follows beside a gantry that has become IDLE, and beside
one that has taken a step up. -/

namespace Sys2Proof.Machine

/-! ## A request that is tested again -/

/-- A gantry waits in WAIT_GRANT with a request for a travel of its task. -/
structure State.Awaits (s : State) (o : Gantry) (e : Step) (q : Request) : Prop where
  state : (s.gantry o).state = .waitGrant
  current : (s.gantry o).current = some e
  request : e.request = some q
  place : e.kind ≠ .place
  only : e.kind ≠ .travelOnly

/-- The state in which a consequence is no longer to be taken. -/
def State.without (s : State) (d : Duty) : State := { s with duties := s.duties.clear d }

section
variable {s : State} {o : Gantry} {e : Step} {q : Request}

theorem State.Awaits.of_gantry (h : s.Awaits o e q) {t : State} (ht : t.gantry o = s.gantry o) : t.Awaits o e q :=
  ⟨by rw [ht]; exact h.state, by rw [ht]; exact h.current, h.request, h.place, h.only⟩

theorem State.Awaits.requestSpan (h : s.Awaits o e q) : (s.gantry o).requestSpan = q.span := by
  rw [GantryRecord.requestSpan, h.current, Option.bind_some, h.request]
  rfl

theorem State.Awaits.take_retest (h : s.Awaits o e q) :
    s.take (.retest o) = State.settleRequest ((s.without (.retest o)).judge o e q.span) o := by
  show (s.without (.retest o)).testAgain o = _
  have hcurrent : ((s.without (.retest o)).gantry o).current = some e := h.current
  have hspan : ((s.without (.retest o)).gantry o).requestSpan = q.span := h.requestSpan
  simp only [State.testAgain, hcurrent]
  rw [hspan, State.request_eq_judge _ _ _ h.place h.only]

/-- A request whose way is clear now is granted (R80). -/
theorem State.Awaits.take_of_clear (h : s.Awaits o e q) (hc : s.isClear o q.span = true) :
    s.take (.retest o) = (s.without (.retest o)).issue o e q.span := by
  have hclear : (s.without (.retest o)).isClear o q.span = true := hc
  rw [h.take_retest, State.judge, if_pos hclear]
  rfl

/-- A request that meets a gantry under way is granted or waits on, and its step stays the gantry's. -/
theorem State.Awaits.take_of_stepping (h : s.Awaits o e q) (hs : (s.gantry (otherGantry o)).state = .stepping) :
    (s.without (.retest o)).OwnMove (s.take (.retest o)) o ∧ ((s.take (.retest o)).gantry o).TakesUp (s.gantry o) e := by
  by_cases hc : s.isClear o q.span = true
  · rw [h.take_of_clear hc, State.issue_gantry]
    exact ⟨State.ownMove_issue _ _ _ _, State.issuedRecord_takesUp _ _ _ _⟩
  · rw [h.take_retest, State.judge_of_passing (s := s.without (.retest o)) hc (.inr (.inl hs))]
    show _ ∧ (((s.without (.retest o)).await o e q.span .waiting).gantry o).TakesUp _ _
    rw [State.await_gantry]
    exact ⟨State.ownMove_setGantry _ _ _, State.waitingRecord_takesUp _ _ _ _ _⟩
end

/-! ## Beside a gantry that has taken a step up -/

section
variable {s : State} {g : Gantry}

theorem State.without_spares (hretry : ∀ k, s.duties.retry.get k = false) (hd : s.duties.dispatch = false) (g : Gantry) :
    (s.without (.retest g)).Spares g :=
  ⟨hretry, PerGantry.get_set_same _ _ _, hd⟩

/-- The retest of the other gantry's request is the one consequence due. -/
theorem State.Spares.filter_due (h : s.Spares g) (hr : s.duties.retest.get (otherGantry g) = true)
    (ho : (s.gantry (otherGantry g)).state = .waitGrant) : Duty.all.filter s.due = [.retest (otherGantry g)] := by
  have hretry (k : Gantry) : s.due (.retry k) = false := by simp [State.due, h.retry]
  have hown : s.due (.retest g) = false := by simp [State.due, h.retest]
  have hother : s.due (.retest (otherGantry g)) = true := by simp [State.due, hr, ho]
  have hpass : s.due .dispatch = false := by simp [State.due, h.dispatch]
  cases g <;> simp only [otherGantry] at hother ⊢ <;> simp [Duty.all, hretry, hpass, hown, hother]

/-- Nothing is due, or the retest of the other gantry's request alone. -/
theorem State.Spares.settleFor_cases (h : s.Spares g) (n : Nat) : State.settleFor (n + 1) s = s.quiet ∨
    ((s.gantry (otherGantry g)).state = .waitGrant ∧
      State.settleFor (n + 1) s = State.settleFor n (s.take (.retest (otherGantry g)))) := by
  by_cases ho : (s.gantry (otherGantry g)).state = .waitGrant
  · by_cases hr : s.duties.retest.get (otherGantry g) = true
    · exact .inr ⟨ho, State.settleFor_of_one_due n (h.filter_due hr ho)⟩
    · refine .inl (State.settleFor_of_none_due _ fun d => ?_)
      cases d with
      | retry k => simp [State.due, h.retry]
      | retest k =>
        exact both_gantries (P := fun k => s.due (.retest k) = false) g (by simp [State.due, h.retest])
          (by simp [State.due, Bool.eq_false_iff.mpr hr]) k
      | dispatch => simp [State.due, h.dispatch]
  · exact .inl (State.settleFor_of_none_due _ (h.due ho))

end

theorem GantryRecord.TakesUp.trans {r q p : GantryRecord} {a b : Step} (h : r.TakesUp q b) (k : q.TakesUp p a)
    (hb : q.current = some b) : r.TakesUp p a := by
  have hsame := k.step
  rw [hb] at hsame
  exact ⟨h.step.trans hsame, h.task.trans k.task, h.aside.trans k.aside, h.carried.trans k.carried⟩

/-- The other gantry's request is granted, and the gantry beside it keeps its step, whether it dwells before it or waits for its
grant itself. -/
theorem State.settleFor_beside_step {s : State} {g : Gantry} {e : Step} {q : Request} (n : Nat) (h : s.Spares g)
    (hr : s.duties.retest.get (otherGantry g) = true) (hw : s.Awaits (otherGantry g) e q)
    (hc : s.isClear (otherGantry g) q.span = true)
    (hown : (s.gantry g).state = .dwell ∨ ∃ b p, s.Awaits g b p) :
    ((State.settleFor (n + 3) s).gantry (otherGantry g)).state = .stepping ∧
      ((State.settleFor (n + 3) s).gantry (otherGantry g)).reservation = some q.span ∧
      ∀ r a, (s.gantry g).TakesUp r a → ((State.settleFor (n + 3) s).gantry g).TakesUp r a := by
  let o := otherGantry g
  have hoo : otherGantry o = g := otherGantry_otherGantry g
  let u := (s.without (.retest o)).issue o e q.span
  have hug : u.gantry (otherGantry o) = s.gantry (otherGantry o) := State.issue_other _ _ _ _
  rw [hoo] at hug
  have huo : u.gantry o = (s.without (.retest o)).issuedRecord o e q.span := State.issue_gantry _ _ _ _
  have hspares : u.Spares o := (State.ownMove_issue _ _ _ _).spares (State.without_spares h.retry h.dispatch o)
  rw [State.settleFor_of_one_due (n + 2) (h.filter_due hr hw.state), hw.take_of_clear hc]
  rcases hspares.settleFor_cases (n + 1) with hquiet | ⟨hgrant, hnext⟩
  · rw [hquiet]
    show (u.gantry o).state = _ ∧ (u.gantry o).reservation = _ ∧ ∀ r a, _ → (u.gantry g).TakesUp r a
    rw [huo, hug]
    exact ⟨rfl, rfl, fun _ _ ht => ht⟩
  · rw [hoo] at hgrant hnext
    rcases hown with hdwell | ⟨b, p, hb⟩
    · rw [hug, hdwell] at hgrant
      cases hgrant
    · have hub : u.Awaits g b p := ⟨hgrant, by rw [hug]; exact hb.current, hb.request, hb.place, hb.only⟩
      obtain ⟨hmove, htakes⟩ := hub.take_of_stepping (by show (u.gantry o).state = _; rw [huo]; rfl)
      have hspares' : (u.take (.retest g)).Spares g := hmove.spares (State.without_spares hspares.retry hspares.dispatch g)
      have hkeep : (u.take (.retest g)).gantry o = (s.without (.retest o)).issuedRecord o e q.span := hmove.other.trans huo
      rw [hnext, State.settleFor_of_none_due _ (hspares'.due (by
        show ((u.take (.retest g)).gantry o).state ≠ _
        rw [hkeep]
        exact GantryState.noConfusion))]
      show ((u.take (.retest g)).gantry o).state = _ ∧ ((u.take (.retest g)).gantry o).reservation = _ ∧
        ∀ r a, _ → ((u.take (.retest g)).gantry g).TakesUp r a
      rw [hkeep]
      rw [hug] at htakes
      exact ⟨rfl, rfl, fun _ _ ht => htakes.trans ht hb.current⟩

/-! ## Beside a gantry that has become IDLE -/

/-- The other gantry's request waits with its way clear beside an IDLE gantry, a retest of it is prompted, no search is, and no task
is there to give. -/
structure State.IdleBeside (s : State) (g : Gantry) (e : Step) (q : Request) : Prop where
  idle : (s.gantry g).state = .idle
  waits : s.Awaits (otherGantry g) e q
  way : s.isClear (otherGantry g) q.span = true
  prompted : s.duties.retest.get (otherGantry g) = true
  retry : ∀ k, s.duties.retry.get k = false
  nothing : s.NothingToGive

/-- The other gantry is granted its request, and the gantry itself is as it was. -/
def State.Granted (s t : State) (g : Gantry) (q : Request) : Prop :=
  (t.gantry (otherGantry g)).state = .stepping ∧ (t.gantry (otherGantry g)).reservation = some q.span ∧ t.gantry g = s.gantry g

section
variable {s : State} {g : Gantry} {e : Step} {q : Request}

theorem State.IdleBeside.redrawn (h : s.IdleBeside g e q) (b : Bool) (m : Nat) :
    State.IdleBeside { s with freeNext := m, duties := { s.duties with dispatch := b } } g e q :=
  ⟨h.idle, h.waits.of_gantry rfl, h.way, h.prompted, h.retry,
    State.NothingToGive.redrawn (rs := s.gantries) (ps := s.ports) h.nothing (fun _ => GantryRecord.DispatchesAs.refl _) fun _ => rfl⟩

/-- The request is granted, and nothing follows: the pass, if one is still due, gives nothing. -/
theorem State.IdleBeside.settleFor_take (h : s.IdleBeside g e q) (n : Nat) :
    s.Granted (State.settleFor (n + 1) (s.take (.retest (otherGantry g)))) g q := by
  let o := otherGantry g
  let u := (s.without (.retest o)).issue o e q.span
  have hug : u.gantry (otherGantry o) = s.gantry (otherGantry o) := State.issue_other _ _ _ _
  rw [otherGantry_otherGantry] at hug
  have huo : u.gantry o = (s.without (.retest o)).issuedRecord o e q.span := State.issue_gantry _ _ _ _
  have hlook (k : Gantry) : (u.gantry k).DispatchesAs (s.gantry k) := by
    refine both_gantries (P := fun k => (u.gantry k).DispatchesAs (s.gantry k)) g (by rw [hug]; exact .refl _) ?_ k
    show (u.gantry o).DispatchesAs (s.gantry o)
    have hstate : (s.gantry o).state = .waitGrant := h.waits.state
    rw [huo]
    refine ⟨rfl, by rw [hstate]; rfl, fun hfixed => ?_, by rw [hstate]; exact ⟨GantryState.noConfusion, GantryState.noConfusion⟩⟩
    rw [hstate] at hfixed
    cases hfixed
  have hports (p : Port) : (u.ports.get p).carrierUp = (s.port p).carrierUp := State.push_carriers _ _ _ p
  have hnothing : u.NothingToGive :=
    State.NothingToGive.redrawn (s := s) (rs := u.gantries) (ps := u.ports) (d := u.duties) (n := u.freeNext) h.nothing hlook hports
  have hretries (k : Gantry) : u.due (.retry k) = false := by
    have hnone : u.duties.retry.get k = false :=
      (congrArg (PerGantry.get · k) ((s.without (.retest o)).setGantry_duties o _).1).trans (h.retry k)
    simp [State.due, hnone]
  have hstates (k : Gantry) : (u.gantry k).state ≠ .waitGrant := by
    refine both_gantries (P := fun k => (u.gantry k).state ≠ .waitGrant) g (by rw [hug, h.idle]; exact GantryState.noConfusion) ?_ k
    show (u.gantry o).state ≠ _
    rw [huo]
    exact GantryState.noConfusion
  rw [h.waits.take_of_clear h.way,
    State.settleFor_of_nothing_to_give n hretries (fun k => by simp [State.due, hstates]) hnothing]
  show (u.gantry o).state = _ ∧ (u.gantry o).reservation = _ ∧ u.gantry g = _
  rw [huo, hug]
  exact ⟨rfl, rfl, rfl⟩

theorem State.IdleBeside.filter_due (h : s.IdleBeside g e q) :
    Duty.all.filter s.due = .retest (otherGantry g) :: (if s.due .dispatch then [.dispatch] else []) := by
  have hretry (k : Gantry) : s.due (.retry k) = false := by simp [State.due, h.retry]
  have hown : s.due (.retest g) = false := by simp [State.due, h.idle]
  have hother : s.due (.retest (otherGantry g)) = true := by simp [State.due, h.prompted, h.waits.state]
  cases hd : s.due .dispatch <;> cases g <;> simp only [otherGantry] at hother ⊢ <;> simp [Duty.all, hretry, hd, hown, hother]

/-- The request is granted in whichever order its retest and the pass are taken. -/
theorem State.IdleBeside.settleFor (h : s.IdleBeside g e q) (n : Nat) : s.Granted (State.settleFor (n + 3) s) g q := by
  cases hd : s.due .dispatch with
  | false =>
    have hone := h.filter_due
    rw [hd, if_neg Bool.false_ne_true] at hone
    rw [State.settleFor_of_one_due (n + 2) hone]
    exact h.settleFor_take (n + 1)
  | true =>
    have htwo := h.filter_due
    rw [hd, if_pos rfl] at htwo
    rw [State.settleFor, htwo]
    obtain ⟨hmem, m, hm⟩ := s.chooseDuty_spec (.retest (otherGantry g)) [.dispatch]
    dsimp only
    rw [hm]
    rcases List.mem_pair.mp hmem with hfirst | hfirst
    · rw [hfirst]
      exact (h.redrawn s.duties.dispatch m).settleFor_take (n + 1)
    · let t : State := { s with freeNext := m, duties := { s.duties with dispatch := false } }
      have ht : t.IdleBeside g e q := h.redrawn false m
      have hpass : State.take { s with freeNext := m } .dispatch = t := by
        show t.dispatchPass = t
        have hround : t.round (t.stillIdle [.west, .east]) = none := ht.nothing ((Bool.and_eq_true _ _).mp hd).2
        simp only [State.dispatchPass, State.dispatchRound, hround, Option.map_none]
      have hone := ht.filter_due
      rw [show t.due .dispatch = false from rfl, if_neg Bool.false_ne_true] at hone
      rw [hfirst, hpass, State.settleFor_of_one_due (n + 1) hone]
      exact ht.settleFor_take n
end

end Sys2Proof.Machine
end

section
/-! PROOFS. What a yield that completes leads to (R84, R86, R162, R165). -/

namespace Sys2Proof.Machine

section
variable {s : State} {g : Gantry}

/-! ## The cases of a yielder -/

theorem State.yieldDone_of_ends (h : (s.gantry g).former = some .idle ∨
    ((s.gantry g).former = none ∧ (s.gantry g).setAside = none ∧ (s.gantry g).carried = none)) :
    s.yieldDone g = s.becomeIdle g := by
  unfold State.yieldDone
  rcases h with hf | ⟨hf, ha, hc⟩
  · rw [hf]
  · rw [hf, ha]
    dsimp only
    rw [State.afterBook, hc]

theorem State.yieldDone_of_stranded (h : (s.gantry g).former = some .stranded) :
    s.yieldDone g = (s.setGantry g { s.gantry g with state := .stranded, former := none }).seekAgain g := by
  rw [State.yieldDone, h]

/-- The state in which a yielder has taken its set-aside step back, before the step is prepared. -/
def State.takenBack (s : State) (g : Gantry) : State := s.setGantry g { s.gantry g with setAside := none }

theorem State.yieldDone_of_aside {a : Step} (hf : (s.gantry g).former = none) (ha : (s.gantry g).setAside = some a) :
    s.yieldDone g = (s.takenBack g).handOver g a := by
  rw [State.yieldDone, hf, ha]
  rfl

theorem State.yieldDone_of_carried {p : Panel} (hf : (s.gantry g).former = none) (ha : (s.gantry g).setAside = none)
    (hp : (s.gantry g).carried = some p) : s.yieldDone g = s.beginReturn g ((s.gantry g).task.bind Task.source) := by
  rw [State.yieldDone, hf, ha]
  dsimp only
  rw [State.afterBook, hp]

/-! ## A STRANDED gantry searches again -/

theorem State.isClear_setGantry (r : GantryRecord) (v : Span) : (s.setGantry g r).isClear g v = s.isClear g v := by
  rw [State.isClear, State.span, State.setGantry_gantry_other]
  rfl

/-- The search of a yielder that was STRANDED finds a slot to which the way is clear. -/
theorem State.yieldDone_puts {n : Nat} (h : s.Spares g) (hf : (s.gantry g).former = some .stranded)
    (hn : (s.setGantry g { s.gantry g with state := .stranded, former := none }).putSearch g = some n)
    (hc : s.isClear g (s.geom.travel g (s.pos g) (s.geom.slotX n)) = true) :
    (s.yieldDone g).Spares g ∧ (s.yieldDone g).gantry (otherGantry g) = s.gantry (otherGantry g) ∧
      (((s.yieldDone g).gantry g).state = .dwell ∨ ((s.yieldDone g).gantry g).state = .stepping) ∧
      ((s.yieldDone g).gantry g).current.map (fun c => (c.kind, c.slot)) = some (.travelPut, some n) ∧
      (n < s.slots.length → ((s.yieldDone g).slot n).claim = some ⟨g, .put⟩) := by
  let t := s.setGantry g { s.gantry g with state := .stranded, former := none }
  have hpos : t.pos g = s.pos g := by
    rw [State.pos, State.setGantry_gantry_same]
    rfl
  have hclear : t.isClear g (t.geom.travel g (t.pos g) (t.geom.slotX n)) = true := by
    rw [State.isClear_setGantry, hpos]
    exact hc
  have hseek : t.seekAgain g = t.putTo g n := by rw [State.seekAgain, hn]
  obtain ⟨hspares, hother, hrest⟩ := State.putTo_taken hn (h.setGantry _) hclear
  rw [State.yieldDone_of_stranded hf]
  show (t.seekAgain g).Spares g ∧ _
  rw [hseek]
  exact ⟨hspares, hother.trans (State.setGantry_gantry_other _ _ _), hrest⟩

/-! ## A step that was set aside -/

theorem State.takenBack_gantry : (s.takenBack g).gantry g = { s.gantry g with setAside := none } := State.setGantry_gantry_same _ _ _

theorem State.takenBack_other : (s.takenBack g).gantry (otherGantry g) = s.gantry (otherGantry g) := State.setGantry_gantry_other _ _ _

theorem State.takenBack_travel (a : Step) :
    (s.takenBack g).geom.travel g ((s.takenBack g).pos g) a.target = s.geom.travel g (s.pos g) a.target := by
  rw [State.pos, State.takenBack_gantry]
  rfl

/-- A set-aside step whose way is clear is taken up again (R84). -/
theorem State.yieldDone_takes {a : Step} (h : s.Spares g) (hf : (s.gantry g).former = none) (ha : (s.gantry g).setAside = some a)
    (hp : a.kind ≠ .place) (ho : a.kind ≠ .travelOnly) (hc : s.isClear g (s.geom.travel g (s.pos g) a.target) = true) :
    (s.yieldDone g).Spares g ∧ (s.yieldDone g).gantry (otherGantry g) = s.gantry (otherGantry g) ∧
      ((s.yieldDone g).gantry g).TakesUp { s.gantry g with setAside := none } a ∧
      (((s.yieldDone g).gantry g).state = .dwell ∨ ((s.yieldDone g).gantry g).state = .stepping) := by
  have hclear : (s.takenBack g).isClear g ((s.takenBack g).geom.travel g ((s.takenBack g).pos g) a.target) = true := by
    rw [State.takenBack_travel]
    exact (State.isClear_setGantry _ _).trans hc
  obtain ⟨hway, hmove, htakes, hstate⟩ := State.prepare_taken hp ho hclear
  rw [State.takenBack_gantry] at htakes
  rw [State.yieldDone_of_aside hf ha, State.handOver_of_not_blocked hway]
  exact ⟨hmove.spares (h.setGantry _), hmove.other.trans State.takenBack_other, htakes, hstate⟩

/-- A change of state prompts a retest of the other gantry's request. -/
theorem State.setGantry_retest {r : GantryRecord} (h : r.state ≠ (s.gantry g).state) :
    (s.setGantry g r).duties.retest.get (otherGantry g) = true := by
  rw [State.setGantry, if_neg (fun hsame => h hsame.1)]
  exact PerGantry.get_set_same _ _ _

/-- A set-aside step that meets the other gantry's request, itself clear of the yielder, dwells or waits. -/
theorem State.yieldDone_waits {a e : Step} {q : Request} (h : s.Spares g) (hs : (s.gantry g).state = .stepping)
    (hf : (s.gantry g).former = none) (ha : (s.gantry g).setAside = some a)
    (hp : a.kind ≠ .place) (ho : a.kind ≠ .travelOnly) (hc : ¬s.isClear g (s.geom.travel g (s.pos g) a.target) = true)
    (hw : s.Awaits (otherGantry g) e q) (hq : s.isClear (otherGantry g) q.span = true) :
    (s.yieldDone g).Spares g ∧ (s.yieldDone g).duties.retest.get (otherGantry g) = true ∧
      (s.yieldDone g).gantry (otherGantry g) = s.gantry (otherGantry g) ∧
      ((s.yieldDone g).gantry g).reservation = (s.gantry g).reservation ∧
      ((s.yieldDone g).gantry g).TakesUp { s.gantry g with setAside := none } a ∧
      (((s.yieldDone g).gantry g).state = .dwell ∨ ∃ b p, (s.yieldDone g).Awaits g b p) := by
  let t := s.takenBack g
  have htg : t.gantry g = { s.gantry g with setAside := none } := State.takenBack_gantry
  have hto : t.gantry (otherGantry g) = s.gantry (otherGantry g) := State.takenBack_other
  have hspares : t.Spares g := h.setGantry _
  have hstep : (t.gantry g).state = .stepping := (congrArg GantryRecord.state htg).trans hs
  have hreservation : (t.gantry g).reservation = (s.gantry g).reservation := by rw [htg]
  rcases t.prepare_cases g a with ⟨m, hm⟩ | hrequest
  · have hyield : s.yieldDone g = t.dwellFor g a m :=
      (State.yieldDone_of_aside hf ha).trans (congrArg (State.settleRequest · g) hm)
    have htakes := t.dwellRecord_takesUp g a m
    rw [htg] at htakes
    rw [hyield, State.dwellFor_gantry]
    exact ⟨hspares.setGantry _, State.setGantry_retest (by rw [hstep]; exact GantryState.noConfusion),
      (State.dwellFor_other _ _ _ _).trans hto, hreservation, htakes, .inl rfl⟩
  · let v := t.requestedSpan g a
    have hblocked : ¬t.isClear g v = true := by
      show ¬t.isClear g (t.requestedSpan g a) = true
      rw [State.requestedSpan_of_travel hp ho, State.takenBack_travel]
      rwa [show t.isClear g _ = _ from State.isClear_setGantry _ _]
    have hspan : t.span g = s.span g := by
      rw [State.span, htg]
      rfl
    have hway : clearOf (otherGantry g) (t.gantry (otherGantry g)).requestSpan (t.span g) = true := by
      rw [hto, hw.requestSpan, hspan]
      rwa [State.isClear, otherGantry_otherGantry] at hq
    have hawait : t.prepare g a = (t.await g a v .waiting, false) := by
      rw [hrequest, State.request_eq_judge _ _ _ hp ho, State.judge, if_neg hblocked, hto, hw.state]
      dsimp only
      rw [← hto, if_pos hway]
    have hyield : s.yieldDone g = t.await g a v .waiting :=
      (State.yieldDone_of_aside hf ha).trans (congrArg (State.settleRequest · g) hawait)
    have htakes := t.waitingRecord_takesUp g a v .waiting
    have hg := t.await_gantry g a v .waiting
    rw [htg] at htakes
    rw [hyield, hg]
    exact ⟨hspares.setGantry _, State.setGantry_retest (by rw [hstep]; exact GantryState.noConfusion),
      (State.await_other _ _ _ _ _).trans hto, hreservation, htakes,
      .inr ⟨{ a with request := some ⟨v, .waiting⟩, issued := none }, ⟨v, .waiting⟩, by rw [hg]; rfl, by rw [hg]; rfl, rfl, hp, ho⟩⟩

/-! ## A panel on the head -/

/-- A return begins for the panel on the head of a yielder whose book has ended (R162). -/
theorem State.yieldDone_returns {p : Panel} (h : s.Spares g) (hs : (s.gantry g).state = .stepping)
    (hf : (s.gantry g).former = none) (ha : (s.gantry g).setAside = none) (hp : (s.gantry g).carried = some p)
    (hwaits : (s.gantry (otherGantry g)).waits = false)
    (hidle : (s.gantry (otherGantry g)).state ≠ .idle) (hstranded : (s.gantry (otherGantry g)).state ≠ .stranded)
    (hgrant : (s.gantry (otherGantry g)).state ≠ .waitGrant) :
    (s.yieldDone g).Spares g ∧ (s.yieldDone g).gantry (otherGantry g) = s.gantry (otherGantry g) ∧
      ((s.yieldDone g).gantry g).carried = some p ∧
      ((s.yieldDone g).gantry g).taskBegun = some (.panelReturn, s.clock) := by
  let source := (s.gantry g).task.bind Task.source
  let q : GantryRecord :=
    { s.gantry g with
      task := some (returnTask s.clock source)
      current := none
      setAside := none
      former := none
      dwellEnd := none
      hold := none }
  let t := s.setGantry g q
  have htg : t.gantry g = q := State.setGantry_gantry_same _ _ _
  have hto : t.gantry (otherGantry g) = s.gantry (otherGantry g) := State.setGantry_gantry_other _ _ _
  have hstep : (t.gantry g).state = .stepping := (congrArg GantryRecord.state htg).trans hs
  obtain ⟨hcarried, hbegun, hother, hspares⟩ := State.seekPut_keeps (s := t) (g := g) (h.setGantry q)
    (State.nobodyWaits_of_stepping hstep (by rwa [hto])) (by rw [hstep]; exact GantryState.noConfusion)
    (by rw [hstep]; exact GantryState.noConfusion) (by rwa [hto]) (by rwa [hto]) (by rwa [hto])
  rw [htg] at hcarried hbegun
  rw [State.yieldDone_of_carried hf ha hp]
  exact ⟨hspares, hother.trans hto, hcarried.trans hp, hbegun⟩
end

end Sys2Proof.Machine
end

section
/-! PROOFS. A yield completes (R80, R84, R86, R107, R162, R165). -/

namespace Sys2Proof.Machine

/-- The state with a gantry's record replaced and nothing prompted by it. -/
def State.replaced (s : State) (g : Gantry) (q : GantryRecord) : State := { s with gantries := s.gantries.set g q }

/-- The yielder's record once its report has been taken. -/
def State.yieldRecord (s : State) (g : Gantry) (x o : Word) (c : Step) (i : Issued) : GantryRecord :=
  s.reportedRecord g c i.span x.toNat (stepOutcomeOf o.toNat)

/-- A state that is another one but for a gantry's record, the queues of the ports and what has been prompted, which is at most a
retest of the other gantry's request. -/
structure State.Reported (s r : State) (g : Gantry) (q : GantryRecord) : Prop where
  own : r.gantry g = q
  other : r.gantry (otherGantry g) = s.gantry (otherGantry g)
  spares : r.Spares g
  slots : r.slots = s.slots
  geom : r.geom = s.geom
  clock : r.clock = s.clock
  replaced : ∀ p, ∃ d, r.setGantry g p = { s.replaced g p with ports := (s.taken (.gantry g)).ports, duties := d }

theorem State.reported_taken {s : State} {g : Gantry} {c : Step} {v : Span} {x : Nat} {o : StepOutcome} {d : Duties}
    (h : ((s.taken (.gantry g)).reported g c v x o d).Spares g) :
    s.Reported ((s.taken (.gantry g)).reported g c v x o d) g (s.reportedRecord g c v x o) where
  own := State.reported_gantry _ _ _ _ _ _ _
  other := State.reported_other _ _ _ _ _ _ _
  spares := h
  slots := rfl
  geom := rfl
  clock := rfl
  replaced p := by
    refine ⟨(((s.taken (.gantry g)).reported g c v x o d).setGantry g p).duties, ?_⟩
    simp only [State.setGantry, State.reported, PerGantry.set_set]
    rfl

/-- What a yielder's own moves leave is settled where the other gantry does not wait for a grant. -/
theorem State.Spares.settle {s : State} {g : Gantry} (h : s.Spares g) (ho : (s.gantry (otherGantry g)).state ≠ .waitGrant) :
    s.settle = s.quiet := s.settle_of_none_due (h.due ho)

theorem State.idled_isClear {s : State} {g : Gantry} (v : Span) :
    (s.becomeIdle g).isClear (otherGantry g) v = s.isClear (otherGantry g) v := by
  have hg : (s.becomeIdle g).gantry g = (s.gantry g).idled := State.setGantry_gantry_same _ _ _
  rw [State.isClear, State.span, otherGantry_otherGantry, hg, State.isClear, otherGantry_otherGantry]
  rfl

section
variable {s r : State} {g : Gantry} {x o : Word} {c : Step} {i : Issued} (h : s.Reported r g (s.yieldRecord g x o c i))
include h

theorem State.Reported.travel (y : Nat) : r.geom.travel g (r.pos g) y = s.geom.travel g x.toNat y := by
  rw [State.pos, h.own, h.geom]
  rfl

theorem State.Reported.isClear (v : Span) : r.isClear g v = clearOf g v (s.span (otherGantry g)) := by
  rw [State.isClear, State.span, h.other]
  rfl

theorem State.Reported.isClear_other (v : Span) :
    r.isClear (otherGantry g) v = clearOf (otherGantry g) v ((s.geom.standing g x.toNat).cut i.span) := by
  rw [State.isClear, otherGantry_otherGantry, State.span, h.own]
  rfl

theorem State.Reported.becomeIdle : ∃ d, r.becomeIdle g =
    { s.replaced g (s.yieldRecord g x o c i).idled with ports := (s.taken (.gantry g)).ports, duties := d } := by
  obtain ⟨d, hd⟩ := h.replaced (r.gantry g).idled
  refine ⟨{ d with dispatch := true }, ?_⟩
  show (r.setGantry g (r.gantry g).idled).opportunity = _
  rw [hd, h.own]
  rfl
end

section
variable {s : State} {g : Gantry} {k x o : Word} {c : Step} {i : Issued} (h : s.YieldReported g k x o c i)
include h

/-- The yield has completed, and what that settles to is what the run leaves. -/
theorem State.YieldReported.completes : ∃ r : State, s.Reported r g (s.yieldRecord g x o c i) ∧
    (∃ t, exec (.stepDone (.gantry g) [k, x, o]) s = .next t ∧ t.slots = (r.yieldDone g).settle.slots ∧
      t.gantries = (r.yieldDone g).settle.gantries) ∧
    ∀ q, (r.yieldDone g).settle = (s.replaced g q).taken (.gantry g) →
      exec (.stepDone (.gantry g) [k, x, o]) s = .next ((s.replaced g q).answered (.gantry g) (.accepted 0x32 0 none)) := by
  obtain ⟨d, hspares, hrun, heffect⟩ := h.exec_stepDone
  exact ⟨(s.taken (.gantry g)).reported g c i.span x.toNat (stepOutcomeOf o.toNat) d, State.reported_taken hspares, hrun,
    fun q => heffect (s.replaced g q) rfl⟩
end

/-! ## The other gantry waits for nothing -/

section
variable {s : State} {g : Gantry} {k x o : Word} {c : Step} {i : Issued} (h : s.YieldReported g k x o c i)
  (hgrant : (s.gantry (otherGantry g)).state ≠ .waitGrant)
include h hgrant

/-- What the run leaves where the completion prompts nothing but a retest of the other gantry's request. -/
theorem State.YieldReported.spared {P : State → Prop}
    (hP : ∀ r, s.Reported r g (s.yieldRecord g x o c i) → (r.yieldDone g).Spares g ∧
      (r.yieldDone g).gantry (otherGantry g) = r.gantry (otherGantry g) ∧
        ∀ t : State, t.slots = (r.yieldDone g).slots → t.gantries = (r.yieldDone g).gantries → P t) :
    ∃ t, exec (.stepDone (.gantry g) [k, x, o]) s = .next t ∧ P t := by
  obtain ⟨r, hr, ⟨t, hrun, hslots, hgantries⟩, -⟩ := h.completes
  obtain ⟨hspares, hother, hkeep⟩ := hP r hr
  rw [hspares.settle (by rwa [hother, hr.other])] at hslots hgantries
  exact ⟨t, hrun, hkeep t hslots hgantries⟩

/-- A yielder that has nothing to go back to becomes IDLE (R86, R162). -/
theorem State.YieldReported.idles (hwaits : (s.gantry (otherGantry g)).waits = false)
    (hends : (s.gantry g).former = some .idle ∨
      ((s.gantry g).former = none ∧ (s.gantry g).setAside = none ∧ (s.gantry g).carried = none))
    (hn : (s.replaced g (s.yieldRecord g x o c i).idled).NothingToGive) :
    exec (.stepDone (.gantry g) [k, x, o]) s =
      .next ((s.replaced g (s.yieldRecord g x o c i).idled).answered (.gantry g) (.accepted 0x32 0 none)) := by
  obtain ⟨r, hr, -, heffect⟩ := h.completes
  let E := s.replaced g (s.yieldRecord g x o c i).idled
  obtain ⟨d, hidle⟩ := hr.becomeIdle
  have hEg : E.gantry g = (s.yieldRecord g x o c i).idled := PerGantry.get_set_same _ _ _
  have hEo : E.gantry (otherGantry g) = s.gantry (otherGantry g) := PerGantry.get_set_other _ _ _
  refine heffect _ ?_
  rw [State.yieldDone_of_ends (by rw [hr.own]; exact hends),
    State.settle_idle_eq hidle (s.taken_carriers _) (congrArg GantryRecord.state hEg) (by rwa [hEo]) (by rwa [hEo]) hn]
  exact State.quiet_of_quiet (s := E.taken (.gantry g)) h.ready.settled

/-- The record of a yielder that is STRANDED again (R165). -/
def GantryRecord.strandedAgain (r : GantryRecord) : GantryRecord := { r with state := .stranded, former := none }

/-- A yielder that was STRANDED and finds no slot stays STRANDED (R165). -/
theorem State.YieldReported.strands (hf : (s.gantry g).former = some .stranded)
    (hn : (s.replaced g (s.yieldRecord g x o c i).strandedAgain).putSearch g = none) :
    exec (.stepDone (.gantry g) [k, x, o]) s =
      .next ((s.replaced g (s.yieldRecord g x o c i).strandedAgain).answered (.gantry g) (.accepted 0x32 0 none)) := by
  obtain ⟨r, hr, -, heffect⟩ := h.completes
  let E := s.replaced g (s.yieldRecord g x o c i).strandedAgain
  obtain ⟨d, hd⟩ := hr.replaced (r.gantry g).strandedAgain
  let u := r.setGantry g (r.gantry g).strandedAgain
  have hu : u = { E with ports := (s.taken (.gantry g)).ports, duties := d } := by
    show r.setGantry g (r.gantry g).strandedAgain = _
    rw [hd, hr.own]
  have hsearch : u.putSearch g = none := by
    rw [hu]
    exact hn
  have hseek : r.yieldDone g = u := by
    rw [State.yieldDone_of_stranded (by rw [hr.own]; exact hf)]
    show u.seekAgain g = u
    rw [State.seekAgain, hsearch]
  have hspares : u.Spares g := hr.spares.setGantry _
  refine heffect _ ?_
  rw [hseek, hspares.settle (by rw [State.setGantry_gantry_other, hr.other]; exact hgrant), hu]
  exact State.quiet_of_quiet (s := E.taken (.gantry g)) h.ready.settled

/-- A yielder that was STRANDED and finds a slot to which the way is clear begins its put (R165). -/
theorem State.YieldReported.puts {n : Nat} (hf : (s.gantry g).former = some .stranded)
    (hn : (s.replaced g (s.yieldRecord g x o c i).strandedAgain).putSearch g = some n)
    (hc : clearOf g (s.geom.travel g x.toNat (s.geom.slotX n)) (s.span (otherGantry g)) = true) :
    ∃ t, exec (.stepDone (.gantry g) [k, x, o]) s = .next t ∧ ((t.gantry g).state = .dwell ∨ (t.gantry g).state = .stepping) ∧
      (t.gantry g).current.map (fun c => (c.kind, c.slot)) = some (.travelPut, some n) ∧
      (n < s.slots.length → (t.slot n).claim = some ⟨g, .put⟩) := by
  refine h.spared hgrant fun r hr => ?_
  obtain ⟨d, hd⟩ := hr.replaced (r.gantry g).strandedAgain
  have hsearch : (r.setGantry g (r.gantry g).strandedAgain).putSearch g = some n := by
    rw [hd, hr.own]
    exact hn
  obtain ⟨hspares, hother, hstate, hstep, hclaim⟩ := State.yieldDone_puts hr.spares (by rw [hr.own]; exact hf) hsearch
    (by rw [hr.isClear, hr.travel, hr.geom]; exact hc)
  refine ⟨hspares, hother, fun t hslots hgantries => ?_⟩
  rw [State.gantry_of_gantries hgantries, State.slot_of_slots hslots, ← hr.slots]
  exact ⟨hstate, hstep, hclaim⟩

/-- A yielder takes its set-aside step up again where the way is clear (R84). -/
theorem State.YieldReported.takes {a : Step} (hf : (s.gantry g).former = none) (ha : (s.gantry g).setAside = some a)
    (hp : a.kind ≠ .place) (ho : a.kind ≠ .travelOnly)
    (hc : clearOf g (s.geom.travel g x.toNat a.target) (s.span (otherGantry g)) = true) :
    ∃ t, exec (.stepDone (.gantry g) [k, x, o]) s = .next t ∧
      (t.gantry g).TakesUp { s.yieldRecord g x o c i with setAside := none } a ∧
      ((t.gantry g).state = .dwell ∨ (t.gantry g).state = .stepping) := by
  refine h.spared hgrant fun r hr => ?_
  obtain ⟨hspares, hother, htakes, hstate⟩ := State.yieldDone_takes hr.spares (by rw [hr.own]; exact hf) (by rw [hr.own]; exact ha)
    hp ho (by rw [hr.isClear, hr.travel]; exact hc)
  rw [hr.own] at htakes
  refine ⟨hspares, hother, fun t _ hgantries => ?_⟩
  rw [State.gantry_of_gantries hgantries]
  exact ⟨htakes, hstate⟩

/-- A yielder whose book has ended begins the return of the panel on its head (R162). -/
theorem State.YieldReported.returns {p : Panel} (hwaits : (s.gantry (otherGantry g)).waits = false)
    (hf : (s.gantry g).former = none) (ha : (s.gantry g).setAside = none) (hp : (s.gantry g).carried = some p)
    (hidle : (s.gantry (otherGantry g)).state ≠ .idle) (hstranded : (s.gantry (otherGantry g)).state ≠ .stranded) :
    ∃ t, exec (.stepDone (.gantry g) [k, x, o]) s = .next t ∧ (t.gantry g).carried = some p ∧
      (t.gantry g).taskBegun = some (.panelReturn, s.clock) := by
  refine h.spared hgrant fun r hr => ?_
  obtain ⟨hspares, hother, hcarried, hbegun⟩ := State.yieldDone_returns hr.spares (by rw [hr.own]; exact h.state)
    (by rw [hr.own]; exact hf) (by rw [hr.own]; exact ha) (by rw [hr.own]; exact hp) (by rwa [hr.other]) (by rwa [hr.other])
    (by rwa [hr.other]) (by rwa [hr.other])
  rw [hr.clock] at hbegun
  refine ⟨hspares, hother, fun t _ hgantries => ?_⟩
  rw [State.gantry_of_gantries hgantries]
  exact ⟨hcarried, hbegun⟩
end

/-! ## The other gantry waits for its grant -/

section
variable {s : State} {g : Gantry} {k x o : Word} {c : Step} {i : Issued} {e : Step} {q : Request}
  (h : s.YieldReported g k x o c i) (hw : s.Awaits (otherGantry g) e q)
  (hq : clearOf (otherGantry g) q.span ((s.geom.standing g x.toNat).cut i.span) = true)
include h hw hq

/-- The other gantry is granted its request beside a yielder that becomes IDLE (R80). -/
theorem State.YieldReported.grants_beside_idle
    (hends : (s.gantry g).former = some .idle ∨
      ((s.gantry g).former = none ∧ (s.gantry g).setAside = none ∧ (s.gantry g).carried = none))
    (hn : (s.replaced g (s.yieldRecord g x o c i).idled).NothingToGive) :
    ∃ t, exec (.stepDone (.gantry g) [k, x, o]) s = .next t ∧ (t.gantry (otherGantry g)).state = .stepping ∧
      (t.gantry (otherGantry g)).reservation = some q.span ∧ (t.gantry g).state = .idle := by
  obtain ⟨r, hr, ⟨t, hrun, -, hgantries⟩, -⟩ := h.completes
  let u := r.becomeIdle g
  have hug : u.gantry g = (r.gantry g).idled := State.setGantry_gantry_same _ _ _
  have huo : u.gantry (otherGantry g) = s.gantry (otherGantry g) := (State.setGantry_gantry_other _ _ _).trans hr.other
  obtain ⟨d, hu⟩ := hr.becomeIdle
  have hbeside : u.IdleBeside g e q :=
    { idle := congrArg GantryRecord.state hug
      waits := hw.of_gantry huo
      way := by
        rw [State.idled_isClear, hr.isClear_other]
        exact hq
      prompted := State.setGantry_retest (by
        rw [hr.own]
        show GantryState.idle ≠ (s.gantry g).state
        rw [h.state]
        exact GantryState.noConfusion)
      retry := (hr.spares.setGantry (r.gantry g).idled).retry
      nothing := by
        show (r.becomeIdle g).NothingToGive
        rw [hu]
        exact State.NothingToGive.of_ports hn _ _ (s.taken_carriers _) }
  obtain ⟨hstate, hspan, hown⟩ := hbeside.settleFor 997
  rw [State.yieldDone_of_ends (by rw [hr.own]; exact hends)] at hgantries
  refine ⟨t, hrun, ?_⟩
  rw [State.gantry_of_gantries hgantries, State.gantry_of_gantries hgantries]
  exact ⟨hstate, hspan, (congrArg GantryRecord.state hown).trans hbeside.idle⟩

/-- The other gantry is granted its request, and the yielder has its set-aside step again, which does not pass the other (R80, R84). -/
theorem State.YieldReported.grants_beside_step {a : Step} (hf : (s.gantry g).former = none) (ha : (s.gantry g).setAside = some a)
    (hp : a.kind ≠ .place) (ho : a.kind ≠ .travelOnly)
    (hc : ¬clearOf g (s.geom.travel g x.toNat a.target) (s.span (otherGantry g)) = true) :
    ∃ t, exec (.stepDone (.gantry g) [k, x, o]) s = .next t ∧ (t.gantry (otherGantry g)).state = .stepping ∧
      (t.gantry (otherGantry g)).reservation = some q.span ∧
      (t.gantry g).TakesUp { s.yieldRecord g x o c i with setAside := none } a := by
  obtain ⟨r, hr, ⟨t, hrun, -, hgantries⟩, -⟩ := h.completes
  have hclear : r.isClear (otherGantry g) q.span = true := by
    rw [hr.isClear_other]
    exact hq
  obtain ⟨hspares, hprompted, hother, hreservation, htakes, hstate⟩ := State.yieldDone_waits hr.spares (by rw [hr.own]; exact h.state)
    (by rw [hr.own]; exact hf) (by rw [hr.own]; exact ha) hp ho (by rw [hr.isClear, hr.travel]; exact hc)
    (hw.of_gantry hr.other) hclear
  have hwaits : (r.yieldDone g).Awaits (otherGantry g) e q := hw.of_gantry (hother.trans hr.other)
  have hway : (r.yieldDone g).isClear (otherGantry g) q.span = true := by
    rw [State.isClear, otherGantry_otherGantry, State.span, hreservation]
    rwa [State.isClear, otherGantry_otherGantry] at hclear
  obtain ⟨hgranted, hspan, hown⟩ := State.settleFor_beside_step 997 hspares hprompted hwaits hway hstate
  rw [hr.own] at htakes
  refine ⟨t, hrun, ?_⟩
  rw [State.gantry_of_gantries hgantries, State.gantry_of_gantries hgantries]
  exact ⟨hgranted, hspan, hown _ _ htakes⟩
end

/-- Settles O45: each case of the yielder, beside a gantry that waits for nothing and beside one that waits for its grant. -/
theorem yieldCompletes : Obligations.YieldCompletes := by
  intro s g k x d c i hn hd hready hs hc hkind hi hk hlo hhi o run span done idle stranded ends before goes
  have h : s.YieldReported g k x d c i := ⟨hn, hd, hready, hs, hc, hkind, hi, hk, hlo, hhi⟩
  have hdone : s.yieldRecord g x d c i = done := by
    simp only [State.yieldRecord, State.reportedRecord, State.completedRecord, travelDirection_orElse]
    rfl
  have hidle : s.replaced g (s.yieldRecord g x d c i).idled = idle := by rw [hdone]; rfl
  have hstranded : s.replaced g (s.yieldRecord g x d c i).strandedAgain = stranded := by rw [hdone]; rfl
  have hbefore (k : Gantry) (v w : Span) : clearOf k v w = true ↔ before k v w := by
    cases k <;> exact decide_eq_true_iff
  have hgoes (t : State) (a : Step) (ht : (t.gantry g).TakesUp { s.yieldRecord g x d c i with setAside := none } a) : goes t a :=
    ⟨ht.aside, ht.task, ht.step⟩
  refine ⟨fun hgrant hwaits => ⟨fun hends hnothing => ?_, fun hf => ⟨fun hsearch => ?_, fun n hsearch hclear => ?_⟩,
    fun a hf ha hp ho hclear => ?_, fun p hf ha hp hoidle hostranded => ?_⟩, fun e q hgrant he hq hp ho hclear => ?_⟩
  · have hrun := h.idles hgrant hwaits hends (by rwa [hidle])
    rwa [hidle] at hrun
  · have hrun := h.strands hgrant hf (by rwa [hstranded])
    rwa [hstranded] at hrun
  · exact h.puts hgrant hf (by rwa [hstranded]) ((hbefore _ _ _).mpr hclear)
  · obtain ⟨t, hrun, htakes, hstate⟩ := h.takes hgrant hf ha hp ho ((hbefore _ _ _).mpr hclear)
    exact ⟨t, hrun, hgoes t a htakes, hstate⟩
  · obtain ⟨t, hrun, hcarried, hbegun⟩ := h.returns hgrant hwaits hf ha hp hoidle hostranded
    obtain ⟨u, hu, hstart⟩ := Option.map_eq_some_iff.mp hbegun
    obtain ⟨hkind, hclock⟩ := Prod.mk.inj hstart
    exact ⟨t, u, hrun, hcarried, hu, hkind, hclock⟩
  · have hw : s.Awaits o e q := ⟨hgrant, he, hq, hp, ho⟩
    have hway : clearOf o q.span ((s.geom.standing g x.toNat).cut i.span) = true := (hbefore _ _ _).mpr hclear
    refine ⟨fun hends hnothing => ?_, fun a hf ha hap hao hblocked => ?_⟩
    · obtain ⟨t, hrun, hstate, hspan, hown⟩ := h.grants_beside_idle hw hway hends (by rwa [hidle])
      exact ⟨t, ⟨hrun, hstate, hspan⟩, hown⟩
    · obtain ⟨t, hrun, hstate, hspan, htakes⟩ := h.grants_beside_step hw hway hf ha hap hao (mt (hbefore _ _ _).mp hblocked)
      exact ⟨t, ⟨hrun, hstate, hspan⟩, hgoes t a htakes⟩

end Sys2Proof.Machine
end

section
/-! PROOFS. The positions that a gantry is announced or restored at, GANTRY_READY and GANTRY_PARK (R89, R99, R100, R114). -/

namespace Sys2Proof.Machine

/-! ## Positions that are given -/

section
variable (s : State) (g : Gantry) (x : Nat)

/-- The checks of a position, before further ones: the limits, then the other gantry's reservation (R89). -/
theorem State.firstOf_positionChecks (cs : List (Option Failure)) : firstOf (s.positionChecks g x ++ cs) =
    if (s.gantryGeom g).reaches x then
      if s.isClear g (s.geom.standing g x) then firstOf cs else some (.spanConflict, s.conflictDetail g)
    else some (.outOfReach, x) := by
  unfold State.positionChecks
  cases (s.gantryGeom g).reaches x with
  | false => rfl
  | true =>
    cases s.isClear g (s.geom.standing g x) with
    | false => rfl
    | true => rfl

theorem GantryGeometry.reaches_iff_not_outside (f : GantryGeometry) : f.reaches x = true ↔ ¬(x < f.limLo ∨ f.limHi < x) := by
  rw [f.reaches_iff, not_or, Nat.not_lt, Nat.not_lt]

/-- A standing span is clear of the other gantry's reservation where it does not meet its nearer bound (R75, R89). -/
theorem State.standing_isClear_iff : s.isClear g (s.geom.standing g x) = true ↔
    ¬(match g with
      | .west => (s.span .east).lo ≤ (s.geom.standing .west x).hi
      | .east => (s.geom.standing .east x).lo ≤ (s.span .west).hi) := by
  rw [State.isClear_iff]
  cases g <;> exact Nat.not_le.symm

theorem State.conflictDetail_eq : s.conflictDetail g =
    match g with
    | .west => (s.span .east).lo
    | .east => (s.span .west).hi := by
  cases g <;> rfl
end

/-- Settling where neither gantry waits, told of a state that differs in its ports and in what it has prompted alone. -/
theorem State.settle_waiting_none_eq {v t : State} {ps : PerPort PortRecord} {d : Duties} (hv : v = { t with ports := ps, duties := d })
    (hps : ∀ p, (ps.get p).carrierUp = (t.port p).carrierUp) (hw : t.NobodyWaits) (hg : ∀ k, (t.gantry k).state ≠ .waitGrant)
    (hn : t.NothingToGive) : v.settle = { t with ports := ps, duties := .none } := by
  subst hv
  exact State.settle_eq_quiet (s := { t with ports := ps, duties := d }) hw hg (hn.of_ports ps d hps)

theorem State.retry_of_not_waits {s : State} {g : Gantry} (h : (s.gantry g).waits = false) : s.retry g = s := by
  rw [State.retry, if_neg (by rw [h]; exact Bool.false_ne_true)]

/-! ## GANTRY_READY -/

section
variable {s : State} {g : Gantry} {x : Word}

theorem State.exec_gantryReady_refused {c : RefusalCode} {d : Nat} (hn : s.cell ≠ .noLayout) (h : s.Ready (.gantry g) ⟨0x31, [x]⟩ 1)
    (hf : s.readyFailure g x.toNat = some (c, d)) :
    exec (.gantryReady (.gantry g) [x]) s = .next (s.answered (.gantry g) (.refused 0x31 c (BitVec.ofNat 16 d))) := by
  have hf' : (s.taken (.gantry g)).readyFailure g x.toNat = some (c, d) := hf
  refine congrArg Host.Outcome.next (State.message_refused (m := .gantryReady) h rfl (by simpa [Message.accepts] using hn) ?_)
  show (s.taken (.gantry g)).unless .gantryReady ((s.taken (.gantry g)).readyFailure g x.toNat) _ = _
  rw [hf']
  rfl

/-- The checks of R99, in their order. -/
theorem State.readyFailure_eq (s : State) (g : Gantry) (x : Nat) : s.readyFailure g x =
    if (s.gantry g).state = .offline then firstOf (s.positionChecks g x ++ [])
    else some (.gantryState, (s.gantry g).state.number) := by
  unfold State.readyFailure
  split
  · next hs => simp [hs]
  · next hs => simp [hs]

/-- The record of a gantry that is announced at a position (R100). -/
def State.announcedRecord (s : State) (g : Gantry) (x : Nat) : GantryRecord :=
  { (s.gantry g).placedAt x (s.geom.standing g x) with state := .idle }

/-- An announced gantry is IDLE beside a gantry that waits for nothing, and nothing that this prompts is due (R99, R100). -/
theorem State.exec_gantryReady_accepted (hn : s.cell ≠ .noLayout) (h : s.Ready (.gantry g) ⟨0x31, [x]⟩ 1)
    (hf : s.readyFailure g x.toNat = none) (hgrant : (s.gantry (otherGantry g)).state ≠ .waitGrant)
    (hwaits : (s.gantry (otherGantry g)).waits = false) (hg : (s.replaced g (s.announcedRecord g x.toNat)).NothingToGive) :
    exec (.gantryReady (.gantry g) [x]) s =
      .next ((s.replaced g (s.announcedRecord g x.toNat)).answered (.gantry g) (.accepted 0x31 0 none)) := by
  let u := s.taken (.gantry g)
  let E := s.replaced g (s.announcedRecord g x.toNat)
  have hf' : u.readyFailure g x.toNat = none := hf
  have hready : u.gantryReady g [x] = (u.announce g x.toNat, acceptedReply .gantryReady) := by
    show u.unless .gantryReady (u.readyFailure g x.toNat) _ = _
    rw [hf']
    rfl
  have hEg : E.gantry g = s.announcedRecord g x.toNat := PerGantry.get_set_same _ _ _
  have hEo : E.gantry (otherGantry g) = s.gantry (otherGantry g) := PerGantry.get_set_other _ _ _
  have hannounce : ∃ d, u.announce g x.toNat = { E with ports := u.ports, duties := d } := by
    refine ⟨((u.setGantry g (s.announcedRecord g x.toNat)).opportunity).duties, ?_⟩
    refine State.retry_of_not_waits (s := (u.setGantry g (s.announcedRecord g x.toNat)).opportunity) ?_
    show ((u.setGantry g _).gantry (otherGantry g)).waits = false
    rw [State.setGantry_gantry_other]
    exact hwaits
  obtain ⟨d, hd⟩ := hannounce
  refine congrArg Host.Outcome.next (State.message_effect (E := E) h rfl (by simpa [Message.accepts] using hn) rfl ?_ ?_ rfl)
  · show (u.gantryReady g [x]).2 = _
    rw [hready]
    rfl
  · show (u.gantryReady g [x]).1.settle = _
    rw [hready, State.settle_idle_eq hd (s.taken_carriers _) (by rw [hEg]; rfl) (by rwa [hEo]) (by rwa [hEo]) hg]
    exact State.quiet_of_quiet (s := E.taken (.gantry g)) h.settled
end

/-! ## GANTRY_PARK -/

/-- The payload word that names a gantry (TABLE 10.12). -/
def gantryWord (g : Gantry) : Word :=
  match g with
  | .west => 0
  | .east => 1

theorem gantryOfNumber_gantryWord (g : Gantry) : gantryOfNumber (gantryWord g).toNat = g := by cases g <;> rfl

section
variable {s : State} {g : Gantry}

theorem gantryPark_check (g : Gantry) : Message.gantryPark.check .planner [gantryWord g] = none := by cases g <;> rfl

theorem State.execGantryPark_eq : exec (.gantryPark .planner [gantryWord g]) s =
    .next (s.message .gantryPark .planner [gantryWord g] fun t => t.gantryPark g) := by cases g <;> rfl

theorem State.exec_gantryPark_refused (hn : s.cell ≠ .noLayout) (h : s.Ready .planner ⟨0x0D, [gantryWord g]⟩ 1)
    (hs : (s.gantry g).state ≠ .idle) : exec (.gantryPark .planner [gantryWord g]) s =
      .next (s.answered .planner (.refused 0x0D .gantryState (BitVec.ofNat 16 (s.gantry g).state.number))) := by
  rw [State.execGantryPark_eq]
  exact congrArg Host.Outcome.next
    (State.message_refused (m := .gantryPark) h (gantryPark_check g) (by simpa [Message.accepts] using hn) (if_neg hs))

/-- The record of a gantry that is parked (R114). -/
def GantryRecord.parked (r : GantryRecord) : GantryRecord := { r with state := .parked }

theorem State.Spares.of_duties {t : State} (h : s.Spares g) (hd : t.duties = s.duties) : t.Spares g :=
  ⟨by rw [hd]; exact h.retry, by rw [hd]; exact h.retest, by rw [hd]; exact h.dispatch⟩

/-- A parked gantry prompts a retest of the other's request alone (R114, R122). -/
theorem State.exec_gantryPark_accepted (hn : s.cell ≠ .noLayout) (h : s.Ready .planner ⟨0x0D, [gantryWord g]⟩ 1)
    (hs : (s.gantry g).state = .idle) (hgrant : (s.gantry (otherGantry g)).state ≠ .waitGrant) :
    exec (.gantryPark .planner [gantryWord g]) s =
      .next (((s.replaced g (s.gantry g).parked).latch (.gantry g) .serviceChanged).answered .planner
        (.accepted 0x0D 0 none)) := by
  let u := s.taken .planner
  let v := (u.setGantry g (s.gantry g).parked).latch (.gantry g) .serviceChanged
  let E := (s.replaced g (s.gantry g).parked).latch (.gantry g) .serviceChanged
  have hpark : u.gantryPark g = (v, acceptedReply .gantryPark) := if_pos hs
  have hspares : v.Spares g :=
    ((State.spares_of_quiet (s := u) h.settled g).setGantry (s.gantry g).parked).of_duties rfl
  have hother : v.gantry (otherGantry g) = s.gantry (otherGantry g) := State.setGantry_gantry_other _ _ _
  have hquiet : v.quiet = E.taken .planner := by
    rw [← State.quiet_of_quiet (s := E.taken .planner) h.settled]
    cases g <;> rfl
  rw [State.execGantryPark_eq]
  refine congrArg Host.Outcome.next (State.message_effect (m := .gantryPark) h (gantryPark_check g)
    (by simpa [Message.accepts] using hn) rfl ?_ ?_ rfl)
  · show (u.gantryPark g).2 = _
    rw [hpark]
    rfl
  · show (u.gantryPark g).1.settle = _
    rw [hpark, ← hquiet]
    exact hspares.settle (by rwa [hother])
end

/-- Settles O40: the checks of R99 in their order, and what an announced and a parked gantry leave. -/
theorem gantriesAnnouncedAndParked : Obligations.GantriesAnnouncedAndParked := by
  refine ⟨?_, ?_⟩
  · intro s g x hn h run refused l outside met bound announced t
    have refuse {c : RefusalCode} {d : Nat} (hf : s.readyFailure g x.toNat = some (c, d)) : run = refused c d :=
      State.exec_gantryReady_refused hn h hf
    have hreach : (s.gantryGeom g).reaches x.toNat = true ↔ ¬outside := GantryGeometry.reaches_iff_not_outside _ _
    have hclear : s.isClear g (s.geom.standing g x.toNat) = true ↔ ¬met := s.standing_isClear_iff g x.toNat
    have hbound : s.conflictDetail g = bound := s.conflictDetail_eq g
    have hfailure := s.readyFailure_eq g x.toNat
    refine ⟨fun hs => refuse ?_, fun hs hout => refuse ?_, fun hs hin hmet => refuse ?_, fun hs hin hfree hgrant hwaits hg => ?_⟩
    · rw [hfailure, if_neg hs]
    all_goals rw [if_pos hs, State.firstOf_positionChecks] at hfailure
    · rw [hfailure, if_neg (fun hr => hreach.mp hr hout)]
    · rw [hfailure, if_pos (hreach.mpr hin), if_neg (fun hc => hclear.mp hc hmet), hbound]
    · rw [if_pos (hreach.mpr hin), if_pos (hclear.mpr hfree)] at hfailure
      exact State.exec_gantryReady_accepted hn h hfailure hgrant hwaits hg
  · intro s g hn ws h
    exact ⟨State.exec_gantryPark_refused hn h, State.exec_gantryPark_accepted hn h⟩

end Sys2Proof.Machine
end

section
/-! PROOFS. GANTRY_RESTORE: the checks of TABLE 6.5 (R115), and what an accepted one leaves (R116, R117, R122). -/

namespace Sys2Proof.Machine

/-! ## The checks of TABLE 6.5 -/

section
variable (s : State) (g : Gantry)

theorem GantryState.restorable_iff (c : GantryState) :
    c.restorable = true ↔ c = .offline ∨ c = .parked ∨ c = .faulted ∨ c = .stranded := by
  cases c <;> decide

/-- The checks of TABLE 6.5, in their order. -/
theorem State.restoreFailure_eq (ws : List Word) : s.restoreFailure g ws =
    if (s.gantry g).state.restorable then firstOf (s.positionChecks g (word ws 1) ++ [s.dispositionFailure g ws])
    else some (.gantryState, (s.gantry g).state.number) := by
  unfold State.restoreFailure
  cases (s.gantry g).state.restorable with
  | true => rfl
  | false => rfl

theorem firstOf_singleton (f : Option Failure) : firstOf [f] = f := by cases f <;> rfl

/-- The panel of a restore is in the fault record of a FAULTED gantry or on the head of a STRANDED one (R115). -/
theorem State.restorePanel_eq_some_iff (p : Panel) : s.restorePanel g = some p ↔
    ((s.gantry g).state = .faulted ∧ ∃ f, (s.gantry g).fault = some f ∧ f.panel = some p) ∨
      ((s.gantry g).state = .stranded ∧ (s.gantry g).carried = some p) := by
  unfold State.restorePanel
  split
  · next hs => simp [hs, Option.bind_eq_some_iff]
  · next hs => simp [hs]
  · next hf hst =>
    have hf' : (s.gantry g).state ≠ .faulted := hf
    have hst' : (s.gantry g).state ≠ .stranded := hst
    simp [hf', hst']
end

/-- The payload of a GANTRY_RESTORE (TABLE 10.12). -/
def restoreWords (g : Gantry) (x d a v : Word) : List Word := [gantryWord g, x, d, a, v]

section
variable {s : State} {g : Gantry} {x d a v : Word}

theorem gantryRestore_check (hd : d.toNat ≤ 2) (hv : v.toNat ≤ 1) :
    Message.gantryRestore.check .planner (restoreWords g x d a v) = none := by
  have hg : (gantryWord g).toNat ≤ 1 := by cases g <;> decide
  simp [Message.check, Message.onPort, Message.payloadLength, Message.checkedFields, restoreWords, word, hg, hd, hv]

theorem State.exec_gantryRestore (s : State) (g : Gantry) (x d a v : Word) :
    exec (.gantryRestore .planner (restoreWords g x d a v)) s =
      .next (s.message .gantryRestore .planner (restoreWords g x d a v) fun t => t.gantryRestore g (restoreWords g x d a v)) := by
  cases g <;> rfl

theorem State.exec_gantryRestore_refused {c : RefusalCode} {k : Nat} (hn : s.cell ≠ .noLayout) (hd : d.toNat ≤ 2)
    (hv : v.toNat ≤ 1) (h : s.Ready .planner ⟨0x0E, restoreWords g x d a v⟩ 1)
    (hf : s.restoreFailure g (restoreWords g x d a v) = some (c, k)) :
    exec (.gantryRestore .planner (restoreWords g x d a v)) s =
      .next (s.answered .planner (.refused 0x0E c (BitVec.ofNat 16 k))) := by
  have hf' : (s.taken .planner).restoreFailure g (restoreWords g x d a v) = some (c, k) := hf
  rw [State.exec_gantryRestore]
  refine congrArg Host.Outcome.next (State.message_refused (m := .gantryRestore) h (gantryRestore_check hd hv)
    (by simpa [Message.accepts] using hn) ?_)
  rw [State.gantryRestore, hf']
  rfl

/-- Where the gantry can be restored at the position, what fails is what becomes of the panel. -/
theorem State.restoreFailure_of_position (hs : (s.gantry g).state.restorable = true)
    (hr : (s.gantryGeom g).reaches x.toNat = true) (hc : s.isClear g (s.geom.standing g x.toNat) = true) :
    s.restoreFailure g (restoreWords g x d a v) = s.dispositionFailure g (restoreWords g x d a v) := by
  have hword : word (restoreWords g x d a v) 1 = x.toNat := rfl
  rw [State.restoreFailure_eq, if_pos hs, State.firstOf_positionChecks, hword, if_pos hr, if_pos hc, firstOf_singleton]
end

/-- Settles O41: each case names the first check of TABLE 6.5 that fails, those before it passing. -/
theorem gantryRestoreRefused : Obligations.GantryRestoreRefused := by
  intro s g x d a v hn hd hv ws h run refused l restorable outside met bound held
  have refuse {c : RefusalCode} {k : Nat} (hf : s.restoreFailure g (restoreWords g x d a v) = some (c, k)) : run = refused c k :=
    State.exec_gantryRestore_refused hn hd hv h hf
  have hstate : (s.gantry g).state.restorable = true ↔ restorable := GantryState.restorable_iff _
  have hreach : (s.gantryGeom g).reaches x.toNat = true ↔ ¬outside := GantryGeometry.reaches_iff_not_outside _ _
  have hclear : s.isClear g (s.geom.standing g x.toNat) = true ↔ ¬met := s.standing_isClear_iff g x.toNat
  have hfailure : s.restoreFailure g (restoreWords g x d a v) = if (s.gantry g).state.restorable then
      firstOf (s.positionChecks g x.toNat ++ [s.dispositionFailure g (restoreWords g x d a v)])
    else some (.gantryState, (s.gantry g).state.number) := s.restoreFailure_eq g _
  refine ⟨fun hs => refuse ?_, fun hs hout => refuse ?_, fun hs hin hmet => refuse ?_, fun hs hin hfree p hp => ?_⟩
  · rw [hfailure, if_neg (mt hstate.mp hs)]
  · rw [hfailure, if_pos (hstate.mpr hs), State.firstOf_positionChecks, if_neg (fun hr => hreach.mp hr hout)]
  · rw [hfailure, if_pos (hstate.mpr hs), State.firstOf_positionChecks, if_pos (hreach.mpr hin),
      if_neg (fun hc => hclear.mp hc hmet), s.conflictDetail_eq g] <;> rfl
  have hdisposition := State.restoreFailure_of_position (d := d) (a := a) (v := v) (hstate.mpr hs) (hreach.mpr hin) (hclear.mpr hfree)
  have hpanel : s.restorePanel g = some p := (s.restorePanel_eq_some_iff g p).mpr hp
  have hplace (hput : d.toNat = 2) : s.restoreFailure g (restoreWords g x d a v) = s.placeOnFailure a.toNat p := by
    rw [hdisposition, State.dispositionFailure, hpanel]
    have hword : word (restoreWords g x d a v) 2 = 2 := hput
    dsimp only
    rw [hword]
    rfl
  refine ⟨fun hzero => refuse ?_, fun hput ha => refuse ?_, fun hput n ha => ?_⟩
  · rw [hdisposition, State.dispositionFailure, hpanel]
    exact if_pos hzero
  · rw [hplace hput, State.placeOnFailure, ha]
  have hslot : s.restoreFailure g (restoreWords g x d a v) =
      firstOf (s.slotChecks n ++ [checkOf (!s.hasRoomFor n p.kind) .stackFull n]) := by
    rw [hplace hput, State.placeOnFailure, ha]
  refine ⟨fun harea => refuse ?_, fun harea hc => refuse ?_, fun harea hc hs => refuse ?_, fun harea hc hs hfull => refuse ?_⟩
  · simp [hslot, State.slotChecks, State.hasPickArea, harea]
  · simp [hslot, State.slotChecks, State.hasPickArea, harea, State.unclaimed, hc]
  · simp [hslot, State.slotChecks, State.hasPickArea, harea, State.unclaimed, hc, hs]
  · have hroom : s.hasRoomFor n p.kind = false := decide_eq_false hfull
    rw [hslot, State.slotChecks_pass harea hc hs, hroom]
    rfl

/-! ## What a restore leaves -/

/-- The saws once a STRANDED gantry's task has ended: the offer of a remnant return has left its saw's list (R116, R168). -/
def State.sawsWithout (s : State) (g : Gantry) : PerSaw SawRecord :=
  match (s.gantry g).task.map Task.kind with
  | some (.remnantReturn w) => s.saws.set w { s.saw w with offers := dropOffer g (s.saw w).offers }
  | _ => s.saws

theorem State.endStrandedTask_eq (s : State) (g : Gantry) : s.endStrandedTask g = { s with saws := s.sawsWithout g } := by
  unfold State.endStrandedTask State.sawsWithout
  rcases (s.gantry g).task.map Task.kind with _ | _ | w | _ <;> rfl

/-- The state that a restore leaves, but for what becomes of the panel and for what this prompts (R116, steps 2 to 5). -/
def State.restoredTo (s : State) (g : Gantry) (ws : List Word) : State :=
  State.latch
    { s with
      gantries := s.gantries.set g ((s.gantry g).restored (word ws 1) (s.geom.standing g (word ws 1)) (s.restoredState g ws))
      saws := s.sawsWithout g } (.gantry g) .serviceChanged

/-- The same with the panel laid on a slot or returned to the free list. -/
def State.withStore (s : State) (slots : List Slot) (free : FreeList) : State := { s with slots := slots, free := free }

section
variable {s : State} {g : Gantry}

/-- A restore beside a gantry that waits for nothing. -/
theorem State.restore_eq {ws : List Word} {slots : List Slot} {free : FreeList} (hwaits : (s.gantry (otherGantry g)).waits = false)
    (hp : s.disposePanel g ws = s.withStore slots free) :
    ∃ d, s.restore g ws = { (s.restoredTo g ws).withStore slots free with duties := d } := by
  let u := (s.withStore slots free).endStrandedTask g
  have hu : u = { s.withStore slots free with saws := s.sawsWithout g } := State.endStrandedTask_eq _ _
  let q := (u.gantry g).restored (word ws 1) (u.geom.standing g (word ws 1)) (s.restoredState g ws)
  let w := ((u.setGantry g q).latch (.gantry g) .serviceChanged).opportunity
  have hother : (w.gantry (otherGantry g)).waits = false := by
    have hkeep : w.gantry (otherGantry g) = u.gantry (otherGantry g) := State.setGantry_gantry_other _ _ _
    rw [hkeep, hu]
    exact hwaits
  have hrestore : s.restore g ws = w := by
    unfold State.restore
    rw [hp]
    exact State.retry_of_not_waits hother
  refine ⟨w.duties, ?_⟩
  rw [hrestore]
  simp only [w, q, hu]
  rfl

/-- A restore that passes the checks of TABLE 6.5, beside a gantry that waits for nothing and where no task is there to give. -/
theorem State.exec_gantryRestore_accepted {x d a v : Word} {slots : List Slot} {free : FreeList} (hn : s.cell ≠ .noLayout)
    (hd : d.toNat ≤ 2) (hv : v.toNat ≤ 1) (h : s.Ready .planner ⟨0x0E, restoreWords g x d a v⟩ 1)
    (hgrant : (s.gantry (otherGantry g)).state ≠ .waitGrant) (hwaits : (s.gantry (otherGantry g)).waits = false)
    (hf : s.restoreFailure g (restoreWords g x d a v) = none)
    (hp : s.disposePanel g (restoreWords g x d a v) = s.withStore slots free)
    (hg : ((s.restoredTo g (restoreWords g x d a v)).withStore slots free).NothingToGive) :
    exec (.gantryRestore .planner (restoreWords g x d a v)) s =
      .next (((s.restoredTo g (restoreWords g x d a v)).withStore slots free).answered .planner
        (.accepted 0x0E 0 (some (restoreData s ((s.restoredTo g (restoreWords g x d a v)).withStore slots free) g
          (restoreWords g x d a v))))) := by
  let ws := restoreWords g x d a v
  let u := s.taken .planner
  let E := (s.restoredTo g ws).withStore slots free
  have hp' : u.disposePanel g ws = u.withStore slots free := by
    have hcommute : u.disposePanel g ws = (s.disposePanel g ws).taken .planner := by
      have hpanel : u.restorePanel g = s.restorePanel g := rfl
      have hslot : u.restoreSlot g ws = s.restoreSlot g ws := rfl
      unfold State.disposePanel
      rw [hpanel, hslot]
      cases s.restorePanel g with
      | none => rfl
      | some p => cases s.restoreSlot g ws <;> rfl
    rw [hcommute, hp]
    rfl
  obtain ⟨e, he⟩ := State.restore_eq (s := u) (g := g) (ws := ws) hwaits hp'
  have hE : ∃ ps, (∀ q, (ps.get q).carrierUp = (E.port q).carrierUp) ∧ u.restore g ws = { E with ports := ps, duties := e } ∧
      { E with ports := ps, duties := .none } = E.taken .planner := by
    refine ⟨(E.taken .planner).ports, E.taken_carriers _, ?_, State.quiet_of_quiet (s := E.taken .planner) h.settled⟩
    rw [he]
    cases g <;> rfl
  obtain ⟨ps, hcarriers, hrestore, htaken⟩ := hE
  have hreply : u.gantryRestore g ws = (u.restore g ws, .accepted 0x0E 0 (some (restoreData s E g ws))) := by
    have hf' : u.restoreFailure g ws = none := hf
    have hdata : restoreData u (u.restore g ws) g ws = restoreData s E g ws := by
      rw [hrestore]
      rfl
    rw [State.gantryRestore, hf', hdata]
    rfl
  have hEg : E.gantry g = (s.gantry g).restored x.toNat (s.geom.standing g x.toNat) (s.restoredState g ws) := PerGantry.get_set_same _ _ _
  have hEo : E.gantry (otherGantry g) = s.gantry (otherGantry g) := PerGantry.get_set_other _ _ _
  have hstate : (E.gantry g).state = .idle ∨ (E.gantry g).state = .offline ∨ (E.gantry g).state = .parked := by
    rw [hEg]
    show s.restoredState g ws = _ ∨ _ ∨ _
    unfold State.restoredState
    split
    · split
      · exact .inl rfl
      · exact .inr (.inl rfl)
    · exact .inr (.inr rfl)
  have hown : (E.gantry g).state ≠ .waitGrant ∧ (E.gantry g).waits = false := by
    rcases hstate with hs | hs | hs <;>
      exact ⟨by rw [hs]; decide, GantryRecord.waits_of_state (by rw [hs]; decide) (by rw [hs]; decide)⟩
  rw [State.exec_gantryRestore]
  refine congrArg Host.Outcome.next (State.message_effect (m := .gantryRestore) (E := E) h (gantryRestore_check hd hv)
    (by simpa [Message.accepts] using hn) rfl ?_ ?_ rfl)
  · rw [hreply]
  · rw [hreply, ← htaken]
    exact State.settle_waiting_none_eq hrestore hcarriers (both_gantries g hown.2 (by rwa [hEo]))
      (both_gantries g hown.1 (by rwa [hEo])) hg
end

/-- Settles O42: what becomes of the panel, by the disposition, and the state and the data that the restore leaves. -/
theorem gantryRestoreReturns : Obligations.GantryRestoreReturns := by
  intro s g x d a v hn hd hv ws h l panel hs hlo hhi hfree hgrant hwaits gantry saws t answered
  let words := restoreWords g x d a v
  have hpanel : s.restorePanel g = panel := rfl
  have ht : s.restoredTo g words = t := rfl
  have hclear : s.isClear g (s.geom.standing g x.toNat) = true := by
    rw [State.isClear_iff]
    cases g <;> exact hfree
  have hfailure : s.restoreFailure g words = s.dispositionFailure g words :=
    State.restoreFailure_of_position ((GantryState.restorable_iff _).mpr hs) ((GantryGeometry.reaches_iff _ _).mpr ⟨hlo, hhi⟩) hclear
  have accept {slots : List Slot} {free : FreeList} (hf : s.dispositionFailure g words = none)
      (hp : s.disposePanel g words = s.withStore slots free) (hg : (t.withStore slots free).NothingToGive) :
      answered (t.withStore slots free) (restoreData s (t.withStore slots free) g words) :=
    State.exec_gantryRestore_accepted hn hd hv h hgrant hwaits (hfailure.trans hf) hp hg
  have hslot (n : Option Nat) (hn : (if panel.isSome ∧ d.toNat = 2 then s.addressed a.toNat else none) = n) :
      s.restoreSlot g words = n := hn
  refine ⟨fun hp hg => ?_, fun p hp hd1 => ?_, fun p n hp hd2 ha hin harea hc hsus hlen hheight => ?_⟩
  · have hnone := hslot none (by rw [hp]; rfl)
    have hdata : restoreData s t g words = ⟨0, none, 0, 0⟩ := by
      rw [restoreData, hnone, hpanel, hp]
      rfl
    rw [← hdata]
    refine accept (slots := s.slots) (free := s.free) ?_ ?_ hg
    · rw [State.dispositionFailure, hpanel, hp]
    · rw [State.disposePanel, hpanel, hp]
      rfl
  · intro u hg
    have hnone := hslot none (if_neg (by omega))
    have hdata : restoreData s u g words = ⟨p.serial, none, 0, 0⟩ := by
      rw [restoreData, hnone, hpanel, hp]
      rfl
    rw [← hdata]
    refine accept (slots := s.slots) (free := s.free.return p.record) ?_ ?_ hg
    · have hword : word words 2 = 1 := hd1
      rw [State.dispositionFailure, hpanel, hp]
      dsimp only
      rw [hword]
      rfl
    · rw [State.disposePanel, hpanel, hp, hnone]
      rfl
  · intro u hg
    have hsome := hslot (some n) (by rw [hp, if_pos ⟨rfl, hd2⟩, ha])
    have hus : u.slot n = { s.slot n with stack := (s.slot n).stack ++ [p] } := (t.slot_setSlot n _).trans (if_pos hin)
    have hlength : (u.slot n).stack.length = (s.slot n).stack.length + 1 := by simp [hus]
    have hstands : u.height n = s.height n + s.thickness p.kind := by
      show s.heightOf (u.slot n).stack = _
      rw [hus, State.heightOf_append]
      simp [State.height, State.heightOf]
    have hdata : restoreData s u g words = ⟨p.serial, some ⟨n, n / l.bays, n % l.bays + 1⟩, (s.slot n).stack.length + 1,
        s.height n + s.thickness p.kind⟩ := by
      rw [restoreData, hsome, hpanel, hp, Option.map_some, Option.map_some, Option.map_some, Option.map_some, hlength, hstands]
      rfl
    rw [← hdata]
    refine accept (slots := s.slots.set n { s.slot n with stack := (s.slot n).stack ++ [p] }) (free := s.free) ?_ ?_ hg
    · have hroom : s.hasRoomFor n p.kind = true := decide_eq_true ⟨hlen, hheight⟩
      have hword : word words 2 = 2 := hd2
      have haddress : s.addressed (word words 3) = some n := ha
      rw [State.dispositionFailure, hpanel, hp]
      dsimp only
      rw [hword, if_neg (by decide), if_pos rfl, State.placeOnFailure, haddress]
      dsimp only
      rw [State.slotChecks_pass harea hc hsus, hroom]
      rfl
    · rw [State.disposePanel, hpanel, hp, hsome]
      rfl

end Sys2Proof.Machine
end

section
/-! PROOFS. What the consequences of an event leave of the stacks (R33 to R35): only the moves of panels change them. -/

namespace Sys2Proof.Machine

theorem State.slot_of_length_le {s : State} {n : Nat} (h : s.slots.length ≤ n) : s.slot n = emptySlot :=
  List.getD_eq_default _ _ h

/-- A slot's record is replaced by one with a field that agrees: the field is as it was at every slot. -/
theorem State.setSlot_keeps {α : Type} (s : State) {n : Nat} {r : Slot} (f : Slot → α) (hr : f r = f (s.slot n)) (m : Nat) :
    f ((s.setSlot n r).slot m) = f (s.slot m) := by
  by_cases hm : m = n
  · subst hm
    rw [State.slot_setSlot]
    split
    · exact hr
    · next hlen => rw [State.slot_of_length_le (Nat.not_lt.mp hlen)]
  · rw [State.slot_setSlot_of_ne _ _ hm]

/-- Every stack is the same. -/
def State.SamePiles (s t : State) : Prop := ∀ n, (t.slot n).stack = (s.slot n).stack

theorem State.samePiles_closed (s : State) : Closed s.SamePiles where
  gantry _ _ _ _ h := h
  saw _ _ _ _ h := h
  push _ _ _ h := h
  latch _ _ _ h := h
  duties _ _ h := h
  freeNext _ _ h := h
  pointer _ _ h := h
  free _ _ h := h
  serial _ _ h := h
  search t g w e h n := by
    rw [State.slot_of_slots (t.locatorStep_differs g w e).slots]
    exact h n
  claim t n g k h m := by
    unfold State.claim
    split
    · exact (t.setSlot_keeps Slot.stack (r := { t.slot n with claim := some ⟨g, k⟩ }) rfl m).trans (h m)
    · exact h m
  unclaim t n h m := (t.setSlot_keeps Slot.stack (r := { t.slot n with claim := none }) rfl m).trans (h m)
  suspect t n h _ m := (t.setSlot_keeps Slot.stack (r := { t.slot n with suspect := true }) rfl m).trans (h m)

end Sys2Proof.Machine
end

section
/-! PROOFS. HOVER_TIMEOUT (R119, R157): the end of the book (R137, R138) and the return of the panel on the head (R159, R163). -/

namespace Sys2Proof.Machine

/-! ## The end of a book -/

/-- The saw's record once a book has ended aborted, reported and left the list (R137). -/
def SawRecord.withoutBook (r : SawRecord) (tag : Word) : SawRecord :=
  { r with
    books := r.books.filter fun x => decide (x.tag ≠ tag)
    aborted := r.aborted.step
    lastBookReport := some (tag, .aborted) }

/-- The report of a book that a gantry assembles and that ends aborted (R138). -/
def Book.abortedReport (b : Book) (c : BookFault) : BookReport :=
  ⟨b.tag, .aborted, b.placed, b.firstFault.or (some (c, b.lift)), some c⟩

theorem State.abortAssembling_eq {s : State} {w : Saw} {tag : Word} {b : Book} (hb : s.bookOf w tag = some b) (c : BookFault) :
    s.abortAssembling w tag c =
      ((s.setSaw w ((s.saw w).withoutBook b.tag)).push (.saw w) (.bookReport (b.abortedReport c))).opportunity := by
  obtain ⟨-, -, hstate⟩ := State.bookOf_spec hb
  simp only [State.abortAssembling, hb, State.abortBook, Book.abortReport_endWith hstate]
  rfl

/-! ## The return of a panel -/

/-- What a gantry's return leaves as it is on its way to a destination, beside a gantry that stays where it is. -/
structure State.TurnsBack (s t : State) (g : Gantry) : Prop where
  carried : (t.gantry g).carried = (s.gantry g).carried
  hold : (t.gantry g).hold = (s.gantry g).hold
  begun : (t.gantry g).taskBegun = (s.gantry g).taskBegun
  busy : (t.gantry g).state = .idle → (s.gantry g).state = .idle
  other : t.gantry (otherGantry g) = s.gantry (otherGantry g)
  saws : t.saws = s.saws
  ports : ∀ w, t.port (.saw w) = s.port (.saw w)
  retry : t.duties.retry = s.duties.retry
  retest : t.duties.retest.get g = s.duties.retest.get g

section
variable {s t : State} {g : Gantry}

theorem State.TurnsBack.trans {u : State} (h : s.TurnsBack t g) (k : t.TurnsBack u g) : s.TurnsBack u g where
  carried := k.carried.trans h.carried
  hold := k.hold.trans h.hold
  begun := k.begun.trans h.begun
  busy hs := h.busy (k.busy hs)
  other := k.other.trans h.other
  saws := k.saws.trans h.saws
  ports w := (k.ports w).trans (h.ports w)
  retry := k.retry.trans h.retry
  retest := k.retest.trans h.retest

theorem State.setGantry_retest_own (s : State) (g : Gantry) (r : GantryRecord) :
    (s.setGantry g r).duties.retest.get g = s.duties.retest.get g := by
  unfold State.setGantry
  dsimp only
  split
  · rfl
  · cases g <;> rfl

theorem State.turnsBack_setGantry {r : GantryRecord} (hc : r.carried = (s.gantry g).carried) (hh : r.hold = (s.gantry g).hold)
    (hb : r.taskBegun = (s.gantry g).taskBegun) (hs : r.state = .idle → (s.gantry g).state = .idle) :
    s.TurnsBack (s.setGantry g r) g where
  carried := by rw [State.setGantry_gantry_same, hc]
  hold := by rw [State.setGantry_gantry_same, hh]
  begun := by rw [State.setGantry_gantry_same, hb]
  busy := by rw [State.setGantry_gantry_same]; exact hs
  other := State.setGantry_gantry_other _ _ _
  saws := rfl
  ports _ := rfl
  retry := (s.setGantry_duties g r).1
  retest := s.setGantry_retest_own g r

/-- A message to the planner or to a gantry touches no port of a saw. -/
theorem State.turnsBack_setPort {p : Port} (hp : ∀ w, p ≠ .saw w) (r : PortRecord) : s.TurnsBack (s.setPort p r) g :=
  ⟨rfl, rfl, rfl, id, rfl, rfl, fun w => by rw [State.setPort_port, if_neg (hp w).symm], rfl, rfl⟩

theorem State.turnsBack_slots {slots : List Slot} : s.TurnsBack { s with slots := slots } g :=
  ⟨rfl, rfl, rfl, id, rfl, rfl, fun _ => rfl, rfl, rfl⟩

theorem State.turnsBack_issue (s : State) (g : Gantry) (step : Step) (v : Span) : s.TurnsBack (s.issue g step v) g :=
  (State.turnsBack_setGantry (r := s.issuedRecord g step v) rfl rfl rfl (fun h => by cases h)).trans
    (State.turnsBack_setPort (fun _ h => by cases h) _)

/-- A put is prepared where the other gantry neither yields nor waits itself. -/
theorem State.turnsBack_prepare {step : Step} (hp : step.kind ≠ .place) (ho : step.kind ≠ .travelOnly)
    (hidle : (s.gantry (otherGantry g)).state ≠ .idle) (hstranded : (s.gantry (otherGantry g)).state ≠ .stranded)
    (hgrant : (s.gantry (otherGantry g)).state ≠ .waitGrant) : s.TurnsBack (s.prepare g step).1 g := by
  rcases s.prepare_cases g step with ⟨m, hm⟩ | hrequest
  · rw [hm]
    exact State.turnsBack_setGantry (r := s.dwellRecord g step m) rfl rfl rfl (fun h => by cases h)
  rw [hrequest, State.request_eq_judge _ _ _ hp ho]
  by_cases hclear : s.isClear g (s.requestedSpan g step) = true
  · rw [State.judge, if_pos hclear]
    exact s.turnsBack_issue g step _
  cases hs : (s.gantry (otherGantry g)).state with
  | idle => exact absurd hs hidle
  | stranded => exact absurd hs hstranded
  | waitGrant => exact absurd hs hgrant
  | dwell | stepping | hoverHold =>
    rw [State.judge_of_passing hclear (by simp [hs])]
    exact State.turnsBack_setGantry (r := s.waitingRecord g step _ .waiting) rfl rfl rfl (fun h => by cases h)
  | offline | parked | faulted =>
    rw [State.judge_of_immovable hclear (by simp [hs])]
    exact State.turnsBack_setGantry rfl rfl rfl id

theorem State.turnsBack_claim (n : Nat) (p : Purpose) : s.TurnsBack (s.claim n g p) g := by
  unfold State.claim
  split
  · exact State.turnsBack_slots
  · exact ⟨rfl, rfl, rfl, id, rfl, rfl, fun _ => rfl, rfl, rfl⟩

theorem State.turnsBack_releaseClaim (hw : s.NobodyWaits) (n : Nat) : s.TurnsBack (s.releaseClaim n) g := by
  by_cases hc : (s.slot n).claim = none
  · rw [State.releaseClaim, if_pos hc]
    exact ⟨rfl, rfl, rfl, id, rfl, rfl, fun _ => rfl, rfl, rfl⟩
  · rw [State.releaseClaim_of_nobodyWaits hw hc]
    exact State.turnsBack_slots

/-- The gantry's record once its panel finds no place (R164). -/
def State.strandedRecord (s : State) (g : Gantry) : GantryRecord :=
  { s.gantry g with
    state := .stranded
    task := (s.gantry g).task.map fun t => { t with phase := .stranded, destination := none, putFailures := 0 }
    current := none
    dwellEnd := none }

theorem State.turnsBack_strand (s : State) (g : Gantry) : s.TurnsBack (s.strand g) g := by
  have hrecord : s.TurnsBack (s.setGantry g (s.strandedRecord g)) g :=
    State.turnsBack_setGantry rfl rfl (by rw [GantryRecord.taskBegun, State.strandedRecord, Option.map_map]; rfl)
      (fun h => GantryState.noConfusion h)
  exact hrecord.trans (State.turnsBack_setPort (p := .planner) (fun _ => Port.noConfusion) _)

/-- A return looks for its destination where the other gantry stays where it is and no search waits (R163, R164). -/
theorem State.turnsBack_seekPut (hw : s.NobodyWaits) (hown : (s.gantry g).state ≠ .stranded) (hdwell : (s.gantry g).state ≠ .dwell)
    (hidle : (s.gantry (otherGantry g)).state ≠ .idle) (hstranded : (s.gantry (otherGantry g)).state ≠ .stranded)
    (hgrant : (s.gantry (otherGantry g)).state ≠ .waitGrant) : s.TurnsBack (s.seekPut g) g := by
  unfold State.seekPut
  split
  case h_2 => exact s.turnsBack_strand g
  case h_1 n _ =>
    let u := s.beginPut g n
    have hug : u.gantry g = _ := State.beginPut_gantry n
    have huo : u.gantry (otherGantry g) = s.gantry (otherGantry g) := State.beginPut_other n
    have hbegin : s.TurnsBack u g := by
      refine (State.turnsBack_claim n .put).trans (State.turnsBack_setGantry rfl rfl ?_ id)
      rw [GantryRecord.taskBegun, Option.map_map]
      rfl
    have hkind : (s.putStep n).kind ≠ .place ∧ (s.putStep n).kind ≠ .travelOnly := ⟨by simp [State.putStep], by simp [State.putStep]⟩
    have hprepare : s.TurnsBack (u.prepare g (s.putStep n)).1 g :=
      hbegin.trans (State.turnsBack_prepare hkind.1 hkind.2 (by rwa [huo]) (by rwa [huo]) (by rwa [huo]))
    obtain ⟨-, -, -, hkeep⟩ := State.prepare_moves (s := u) (g := g) hkind.1 hkind.2 (by rwa [huo]) (by rwa [huo]) (by rwa [huo])
    unfold State.putTo
    split
    · next heq =>
      rw [heq] at hprepare
      exact hprepare
    · next v heq =>
      rw [heq] at hprepare hkeep
      have hstate : (v.gantry g).state = (s.gantry g).state := (hkeep rfl).trans (by rw [hug])
      have hwait : v.NobodyWaits :=
        both_gantries g (GantryRecord.waits_of_state (by rwa [hstate]) (by rwa [hstate])) (by rw [hprepare.other]; exact hw _)
      exact (hprepare.trans (State.turnsBack_releaseClaim hwait n)).trans (State.turnsBack_strand _ g)

/-- A return under way, beside a gantry that has nothing to take up: nothing is due. -/
theorem State.TurnsBack.settle (h : s.TurnsBack t g) (hretry : ∀ k, s.duties.retry.get k = false)
    (hretest : s.duties.retest.get g = false) (hown : (s.gantry g).state ≠ .idle)
    (hidle : (s.gantry (otherGantry g)).state ≠ .idle) (hgrant : (s.gantry (otherGantry g)).state ≠ .waitGrant) :
    t.settle = t.quiet := by
  have hpass : t.passDue = false := by
    have hempty : t.stillIdle [.west, .east] = [] :=
      List.filter_eq_nil_iff.mpr fun k _ => by
        have hk := both_gantries (P := fun k => (t.gantry k).state ≠ .idle) g (fun hs => hown (h.busy hs)) (by rwa [h.other]) k
        simpa using hk
    rw [State.passDue, hempty]
    exact Bool.and_false _
  refine t.settle_of_none_due fun d => ?_
  cases d with
  | retry k => simp [State.due, h.retry, hretry]
  | retest k =>
    exact both_gantries (P := fun k => t.due (.retest k) = false) g (by simp [State.due, h.retest, hretest])
      (by simp [State.due, h.other, hgrant]) k
  | dispatch => simp [State.due, hpass]
end

/-! ## The hover hold -/

section
variable {s : State} {g : Gantry}

theorem State.holdOverdue_of_running (h : (s.gantry g).state ≠ .hoverHold ∨
    ∀ k, (s.gantry g).hold = some k → elapsed s.clock k.ends.since < k.ends.duration) : s.holdOverdue g = false := by
  refine Bool.eq_false_iff.mpr fun hover => ?_
  simp only [State.holdOverdue, Bool.and_eq_true, decide_eq_true_iff, Option.any_eq_true, Moment.reached] at hover
  obtain ⟨hs, k, hk, hends⟩ := hover
  rcases h with h | h
  · exact h hs
  · have hlt := h k hk
    omega

theorem State.holdOverdue_of_reached {k : HoverHold} (hs : (s.gantry g).state = .hoverHold) (hk : (s.gantry g).hold = some k)
    (h : k.ends.duration ≤ elapsed s.clock k.ends.since) : s.holdOverdue g = true := by
  simp [State.holdOverdue, hs, hk, Moment.reached, h]

/-- The gantry's record as the return of the panel on its head begins (R163). -/
def State.returningRecord (s : State) (g : Gantry) (source : Option Nat) : GantryRecord :=
  { s.gantry g with
    task := some (returnTask s.clock source)
    current := none
    setAside := none
    former := none
    dwellEnd := none
    hold := none }

/-- What the end of a book leaves as the return of the panel on the head begins (R137, R159): the book is reported and has left its
saw's list, the gantry's task is the return, and nothing is prompted but a dispatch pass. -/
structure State.BookReturned (s t : State) (g : Gantry) (w : Saw) (b : Book) (c : BookFault) : Prop where
  own : t.gantry g = s.returningRecord g ((s.gantry g).task.bind Task.source)
  other : t.gantry (otherGantry g) = s.gantry (otherGantry g)
  saw : t.saw w = (s.saw w).withoutBook b.tag
  port : t.port (.saw w) = (s.port (.saw w)).push (.bookReport (b.abortedReport c))
  slots : t.slots = s.slots
  retry : t.duties.retry = s.duties.retry
  retest : t.duties.retest.get g = s.duties.retest.get g

/-- A book whose panel is on the head ends aborted: its report goes out, and the panel's destination is searched (R159). -/
theorem State.endBook_carried {w : Saw} {tag : Word} {b : Book} {p : Panel} (ht : s.bookTask g = some (w, tag))
    (hb : s.bookOf w tag = some b) (hp : (s.gantry g).carried = some p) (c : BookFault) :
    ∃ t, s.BookReturned t g w b c ∧ s.endBook g c = t.seekPut g := by
  let m : Pushed := .bookReport (b.abortedReport c)
  let u := ((s.setSaw w ((s.saw w).withoutBook b.tag)).push (.saw w) m).opportunity
  have hup : (u.gantry g).carried = some p := hp
  have hport : u.port (.saw w) = (s.port (.saw w)).push m :=
    State.setPort_port_same (s.setSaw w ((s.saw w).withoutBook b.tag)) (.saw w) ((s.port (.saw w)).push m)
  refine ⟨u.setGantry g (s.returningRecord g ((s.gantry g).task.bind Task.source)),
    ⟨State.setGantry_gantry_same _ _ _, State.setGantry_gantry_other _ _ _, State.setSaw_saw_same _ _ _,
      hport, rfl, (u.setGantry_duties g _).1, u.setGantry_retest_own g _⟩, ?_⟩
  have habort : s.abortAssembling w tag c = u := State.abortAssembling_eq hb c
  have hafter (source : Option Nat) : u.afterBook g source = u.beginReturn g source := by rw [State.afterBook, hup]
  rw [State.endBook, ht]
  show (s.abortAssembling w tag c).afterBook g _ = _
  rw [habort, hafter]
  rfl

/-- The end of a book over the table begins the return of its panel, beside a gantry that has nothing to take up. -/
theorem State.BookReturned.turnsBack {t : State} {w : Saw} {b : Book} {c : BookFault} (h : s.BookReturned t g w b c)
    (hs : (s.gantry g).state = .hoverHold) (hidle : (s.gantry (otherGantry g)).state ≠ .idle)
    (hstranded : (s.gantry (otherGantry g)).state ≠ .stranded) (hgrant : (s.gantry (otherGantry g)).state ≠ .waitGrant)
    (hwaits : (s.gantry (otherGantry g)).waits = false) : t.TurnsBack (t.seekPut g) g := by
  have hstate : (t.gantry g).state = .hoverHold := (congrArg GantryRecord.state h.own).trans hs
  have hnobody : t.NobodyWaits :=
    both_gantries g (GantryRecord.waits_of_state (by simp [hstate]) (by simp [hstate])) (by rwa [h.other])
  exact State.turnsBack_seekPut hnobody (by simp [hstate]) (by simp [hstate]) (by rwa [h.other]) (by rwa [h.other]) (by rwa [h.other])
end

/-- Settles O49: the book ends, and its panel's return is under way with nothing further due. -/
theorem hoverTimeoutEndsBook : Obligations.HoverTimeoutEndsBook := by
  intro s g hq
  refine ⟨fun hover => ?_, fun h a w tag b p hs hh hends ha hk hb hp hidle hstranded hgrant hwaits => ?_⟩
  · show Host.Outcome.next (if s.holdOverdue g then s.timeOutHold g else s) = _
    rw [State.holdOverdue_of_running hover]
    rfl
  let v : State := { s with gantries := s.gantries.set g { s.gantry g with hold := none } }
  have hv : s.setGantry g { s.gantry g with hold := none } = v := State.setGantry_of_same rfl rfl
  have hvg : v.gantry g = { s.gantry g with hold := none } := PerGantry.get_set_same _ _ _
  have hvo : v.gantry (otherGantry g) = s.gantry (otherGantry g) := PerGantry.get_set_other _ _ _
  have hvs : (v.gantry g).state = .hoverHold := (congrArg GantryRecord.state hvg).trans hs
  obtain ⟨r, hr, hend⟩ := State.endBook_carried (State.bookTask_eq ((congrArg GantryRecord.task hvg).trans ha) hk) hb
    ((congrArg GantryRecord.carried hvg).trans hp) .hoverTimeout
  have hreturn := hr.turnsBack hvs (by rwa [hvo]) (by rwa [hvo]) (by rwa [hvo]) (by rwa [hvo])
  have hother : r.gantry (otherGantry g) = s.gantry (otherGantry g) := hr.other.trans hvo
  have hspares := State.spares_of_quiet (s := v) hq g
  have hsettle : (r.seekPut g).settle = (r.seekPut g).quiet :=
    hreturn.settle (fun k => by rw [hr.retry]; exact hspares.retry k) (by rw [hr.retest]; exact hspares.retest)
      (by rw [hr.own, State.returningRecord, hvs]; decide) (by rwa [hother]) (by rwa [hother])
  have hrun : exec (.hoverTimeout g) s = .next (r.seekPut g).quiet := by
    show Host.Outcome.next (if s.holdOverdue g then s.timeOutHold g else s) = _
    rw [State.holdOverdue_of_reached hs hh hends, if_pos rfl, State.timeOutHold, hv, ← hsettle, ← hend]
  have hsaw : (r.seekPut g).saw w = (s.saw w).withoutBook b.tag :=
    (congrArg (fun saws => saws.get w) hreturn.saws).trans hr.saw
  have hport : (r.seekPut g).port (.saw w) = (s.port (.saw w)).push (.bookReport (b.abortedReport .hoverTimeout)) :=
    (hreturn.ports w).trans hr.port
  have hpiles : s.SamePiles (r.seekPut g) := s.samePiles_closed.seekPut (fun n => by rw [State.slot_of_slots hr.slots]; rfl) g
  have hbegun : ((r.seekPut g).gantry g).taskBegun = some (.panelReturn, s.clock) := by
    rw [hreturn.begun, hr.own]
    rfl
  obtain ⟨task, htask, hbegins⟩ := Option.map_eq_some_iff.mp hbegun
  obtain ⟨hkind, hstart⟩ := Prod.mk.inj hbegins
  refine ⟨(r.seekPut g).quiet, task, hrun, ?_, ?_, htask, hkind, hstart, ?_, ?_, ?_, hport, hpiles⟩
  · exact hreturn.hold.trans (by rw [hr.own]; rfl)
  · exact hreturn.carried.trans (by rw [hr.own]; exact (congrArg GantryRecord.carried hvg).trans hp)
  · exact congrArg SawRecord.books hsaw
  · exact congrArg SawRecord.aborted hsaw
  · exact congrArg SawRecord.lastBookReport hsaw

end Sys2Proof.Machine
end

section
/-! PROOFS. What becoming FAULTED leaves, block by block: the claims and the suspect marks (R26, R27), the free list (R21), the ports
(R110, R122, R191), the book and the offer (R137, R141). -/

namespace Sys2Proof.Machine

/-! ## Claims and suspect marks -/

theorem Slot.unclaimed {r : Slot} (h : r.claim = none) : { r with claim := none } = r := by
  cases r
  cases h
  rfl

/-- Nothing but the slots and what is prompted differs. -/
def State.ClaimsDiffer (s t : State) : Prop := t = { s with slots := t.slots, duties := t.duties }

theorem State.ClaimsDiffer.trans {s t u : State} (h : s.ClaimsDiffer t) (k : t.ClaimsDiffer u) : s.ClaimsDiffer u :=
  calc u = { t with slots := u.slots, duties := u.duties } := k
    _ = { s with slots := u.slots, duties := u.duties } := by rw [h]

section
variable (s : State) (g : Gantry) (n m : Nat)

theorem State.retry_differs : s.ClaimsDiffer (s.retry g) := by
  unfold State.retry
  split <;> rfl

theorem State.releaseClaim_differs : s.ClaimsDiffer (s.releaseClaim n) := by
  unfold State.releaseClaim
  split
  · rfl
  · have hset : s.ClaimsDiffer (s.setSlot n { s.slot n with claim := none }) := rfl
    exact (hset.trans (State.retry_differs _ _)).trans (State.retry_differs _ _)

theorem State.releaseClaim_length : (s.releaseClaim n).slots.length = s.slots.length := by
  unfold State.releaseClaim
  split
  · rfl
  · rw [State.storeChange_slots]
    exact List.length_set

theorem State.releaseClaim_slot : (s.releaseClaim n).slot m = if m = n then { s.slot m with claim := none } else s.slot m := by
  unfold State.releaseClaim
  split
  · next hc =>
    split
    · next hm => exact (Slot.unclaimed (by rwa [hm])).symm
    · rfl
  · next hc =>
    obtain ⟨k, hk⟩ := Option.ne_none_iff_exists'.mp hc
    rw [State.slot_of_slots (State.storeChange_slots _)]
    split
    · next hm => rw [hm, State.slot_setSlot, if_pos (State.lt_of_claimed hk)]
    · next hm => rw [State.slot_setSlot_of_ne _ _ hm]

theorem State.markSuspect_eq : s.markSuspect n =
    { s with
      slots := (s.markSuspect n).slots
      duties := (s.markSuspect n).duties
      lastMarked := some n
      ports := (s.latch .planner .suspectMarked).ports } := by
  have h := s.releaseClaim_differs n
  unfold State.markSuspect
  generalize s.releaseClaim n = t at h ⊢
  rw [h]
  rfl

theorem State.markSuspect_slot : (s.markSuspect n).slot m =
    if n = m ∧ m < s.slots.length then { s.slot m with suspect := true, claim := none } else s.slot m := by
  show ((s.releaseClaim n).setSlot n { (s.releaseClaim n).slot n with suspect := true }).slot m = _
  by_cases hm : n = m
  · subst hm
    rw [State.slot_setSlot, State.releaseClaim_length, State.releaseClaim_slot, if_pos rfl]
    by_cases hlt : n < s.slots.length
    · rw [if_pos hlt, if_pos ⟨rfl, hlt⟩]
    · rw [if_neg hlt, if_neg (fun h => hlt h.2), State.slot_of_length_le (Nat.not_lt.mp hlt)]
  · rw [State.slot_setSlot_of_ne _ _ (Ne.symm hm), State.releaseClaim_slot, if_neg (Ne.symm hm), if_neg (fun h => hm h.1)]

theorem State.markSuspect_length : (s.markSuspect n).slots.length = s.slots.length :=
  (List.length_set (as := (s.releaseClaim n).slots)).trans (s.releaseClaim_length n)

theorem State.mem_claimedBy : m ∈ s.claimedBy g ↔ (s.slot m).claim.map Claim.gantry = some g := by
  rw [State.claimedBy, List.mem_filter, State.mem_slotNumbers, decide_eq_true_iff, and_iff_right_iff_imp]
  intro h
  obtain ⟨k, hk, -⟩ := Option.map_eq_some_iff.mp h
  exact State.lt_of_claimed hk

/-- Claims are released one after the other. -/
theorem State.foldl_releaseClaim (l : List Nat) : s.ClaimsDiffer (l.foldl State.releaseClaim s) ∧
    (l.foldl State.releaseClaim s).slots.length = s.slots.length ∧
    (l.foldl State.releaseClaim s).slot m = if m ∈ l then { s.slot m with claim := none } else s.slot m := by
  induction l generalizing s with
  | nil => exact ⟨rfl, rfl, rfl⟩
  | cons n l ih =>
    obtain ⟨hdiffer, hlength, hslot⟩ := ih (s.releaseClaim n)
    refine ⟨(s.releaseClaim_differs n).trans hdiffer, hlength.trans (s.releaseClaim_length n), ?_⟩
    rw [List.foldl_cons, hslot, State.releaseClaim_slot]
    by_cases hm : m = n <;> by_cases hl : m ∈ l <;> simp [hm, hl]

theorem State.releaseClaims_differs : s.ClaimsDiffer (s.releaseClaims g) := (s.foldl_releaseClaim 0 _).1

theorem State.releaseClaims_length : (s.releaseClaims g).slots.length = s.slots.length := (s.foldl_releaseClaim 0 _).2.1

theorem State.releaseClaims_slot : (s.releaseClaims g).slot m =
    if (s.slot m).claim.map Claim.gantry = some g then { s.slot m with claim := none } else s.slot m := by
  rw [State.releaseClaims, (s.foldl_releaseClaim m _).2.2]
  simp only [s.mem_claimedBy]
end

/-! ## What a fault leaves of the claims -/

section
variable (s : State) (g : Gantry) (cause : FaultCause) (subCode : BitVec 8)

/-- The ports once the slot of a pick, if there is one, has become suspect. -/
def State.markedPorts (s : State) (n : Option Nat) : PerPort PortRecord :=
  if n.isSome then (s.latch .planner .suspectMarked).ports else s.ports

theorem State.markSuspectOpt_eq (n : Option Nat) : s.markSuspectOpt n =
    { s with
      slots := (s.markSuspectOpt n).slots
      duties := (s.markSuspectOpt n).duties
      lastMarked := n.or s.lastMarked
      ports := s.markedPorts n } := by
  cases n with
  | none => rfl
  | some n => exact s.markSuspect_eq n

theorem State.markSuspectOpt_length (n : Option Nat) : (s.markSuspectOpt n).slots.length = s.slots.length := by
  cases n with
  | none => rfl
  | some n => exact s.markSuspect_length n

theorem State.markSuspectOpt_slot (n : Option Nat) (m : Nat) : (s.markSuspectOpt n).slot m =
    if n = some m ∧ m < s.slots.length then { s.slot m with suspect := true, claim := none } else s.slot m := by
  cases n with
  | none => simp [State.markSuspectOpt]
  | some n =>
    simp only [Option.some_inj]
    exact s.markSuspect_slot n m

/-- The records of the free list once a BLANK record, if there is one, has gone back. -/
theorem FreeList.return_getD (f : FreeList) (b : Option Nat) : (b.map f.return).getD f = { f with returned := f.returned ++ b.toList } := by
  cases b with
  | none => simp
  | some r => rfl

/-- What a fault leaves, apart from the slots' records and what is prompted. -/
theorem State.faultDisposed_eq : s.faultDisposed g cause subCode =
    { s with
      gantries := s.gantries.set g (s.faultedRecord g cause subCode)
      free := { s.free with returned := s.free.returned ++ (s.gantry g).blank.toList }
      slots := (s.faultDisposed g cause subCode).slots
      duties := (s.faultDisposed g cause subCode).duties
      lastMarked := (s.gantry g).pickedSlot.or s.lastMarked
      ports := s.markedPorts (s.gantry g).pickedSlot } := by
  unfold State.faultDisposed
  have hfrozen := s.faultFrozen_eq (g := g) cause subCode
  have hmarked := State.markSuspectOpt_eq (s.faultFrozen g cause subCode) (s.gantry g).pickedSlot
  have hreleased := State.releaseClaims_differs ((s.faultFrozen g cause subCode).markSuspectOpt (s.gantry g).pickedSlot) g
  unfold State.ClaimsDiffer at hreleased
  generalize ((s.faultFrozen g cause subCode).markSuspectOpt (s.gantry g).pickedSlot).releaseClaims g = u at hreleased ⊢
  rw [hreleased, hmarked, hfrozen, FreeList.return_getD]
  rfl

theorem State.faultFrozen_slots : (s.faultFrozen g cause subCode).slots = s.slots := by
  rw [State.faultFrozen_eq]
  rfl

theorem State.faultDisposed_length : (s.faultDisposed g cause subCode).slots.length = s.slots.length := by
  rw [State.faultDisposed, State.releaseClaims_length, State.markSuspectOpt_length, State.faultFrozen_slots]

/-- A slot's record after a fault: the slot of the pick is marked, and the gantry's claims are released. -/
theorem State.faultDisposed_slot (m : Nat) : (s.faultDisposed g cause subCode).slot m =
    if (s.gantry g).pickedSlot = some m ∧ m < s.slots.length then { s.slot m with suspect := true, claim := none }
    else if (s.slot m).claim.map Claim.gantry = some g then { s.slot m with claim := none } else s.slot m := by
  rw [State.faultDisposed, State.releaseClaims_slot, State.markSuspectOpt_slot, State.faultFrozen_slots,
    State.slot_of_slots (State.faultFrozen_slots s g cause subCode)]
  by_cases hm : (s.gantry g).pickedSlot = some m ∧ m < s.slots.length
  · simp [hm]
  · simp [hm]

theorem State.faultDisposed_stack (m : Nat) : ((s.faultDisposed g cause subCode).slot m).stack = (s.slot m).stack := by
  rw [State.faultDisposed_slot]
  split
  · rfl
  · split <;> rfl

theorem State.faultDisposed_suspect {m : Nat} (hm : m < s.slots.length) : ((s.faultDisposed g cause subCode).slot m).suspect =
    ((s.slot m).suspect || decide ((s.gantry g).pickedSlot = some m)) := by
  rw [State.faultDisposed_slot]
  by_cases hp : (s.gantry g).pickedSlot = some m
  · simp [hp, hm]
  · rw [if_neg (fun h => hp h.1)]
    simp only [hp, decide_false, Bool.or_false]
    split <;> rfl

theorem State.faultDisposed_claim (m : Nat) : ((s.faultDisposed g cause subCode).slot m).claim =
    if (s.gantry g).pickedSlot = some m ∨ (s.slot m).claim.map Claim.gantry = some g then none else (s.slot m).claim := by
  rw [State.faultDisposed_slot]
  by_cases hp : (s.gantry g).pickedSlot = some m
  · by_cases hm : m < s.slots.length
    · simp [hp, hm]
    · rw [if_neg (fun h => hm h.2), if_pos (Or.inl hp), State.slot_of_length_le (Nat.not_lt.mp hm)]
      rfl
  · rw [if_neg (fun h => hp h.1)]
    by_cases hg : (s.slot m).claim.map Claim.gantry = some g
    · rw [if_pos hg, if_pos (Or.inr hg)]
    · rw [if_neg hg, if_neg (not_or_intro hp hg)]
end

/-! ## The end of the task -/

section
variable {s : State} {g : Gantry}

/-- What the end of a task with its report leaves: nothing but a saw's record, its port and what is prompted differs. -/
structure State.ReportsTo (s t : State) : Prop where
  eq : t = { s with saws := t.saws, ports := t.ports, duties := t.duties }
  planner : t.port .planner = s.port .planner
  gantries : ∀ g, t.port (.gantry g) = s.port (.gantry g)

theorem State.reportsTo_report (s : State) (w : Saw) (r : SawRecord) (m : Pushed) : s.ReportsTo ((s.setSaw w r).push (.saw w) m) :=
  ⟨rfl, by simp [State.push, State.setPort_port], fun g => by simp [State.push, State.setPort_port]⟩

theorem State.endOffer_eq {w : Saw} {o : Offer} (ho : s.offerOf g w = some o) (outcome : OfferOutcome) (cause : Option BookFault)
    (serial : Nat) (slot : Option SlotName) : s.endOffer g w outcome cause serial slot =
      (s.setSaw w { s.saw w with offers := dropOffer g (s.saw w).offers, lastOfferReport := some outcome }).push (.saw w)
        (.offerReport ⟨o.kind, o.length, o.width, outcome, cause, serial, slot⟩) := by
  rw [State.endOffer, ho]

theorem State.reportsTo_endFaultedTask (s : State) (g : Gantry) (j : Option TaskKind) (serial : Nat) :
    s.ReportsTo (s.endFaultedTask g j serial) := by
  have same : s.ReportsTo s := ⟨rfl, rfl, fun _ => rfl⟩
  rcases j with _ | ⟨w, tag⟩ | w | _
  · exact same
  · show s.ReportsTo (s.abortAssembling w tag .gantryFault)
    cases hb : s.bookOf w tag with
    | none =>
      rw [State.abortAssembling, hb]
      exact same
    | some b =>
      rw [State.abortAssembling_eq hb]
      exact ⟨rfl, (s.reportsTo_report w _ _).planner, (s.reportsTo_report w _ _).gantries⟩
  · show s.ReportsTo (s.endOffer g w .discarded (some .gantryFault) serial none)
    cases ho : s.offerOf g w with
    | none =>
      rw [State.endOffer, ho]
      exact same
    | some o =>
      rw [State.endOffer_eq ho]
      exact s.reportsTo_report w _ _
  · exact same
end

/-! ## The whole fault -/

section
variable (s : State) (g : Gantry) (cause : FaultCause) (subCode : BitVec 8) (silent : Bool)

/-- A port's record once SERVICE_CHANGED has latched, unless the controller itself reported the fault (R122). -/
def PortRecord.serviced (r : PortRecord) (cause : FaultCause) : PortRecord :=
  if cause = .driveFault then r else r.latch .serviceChanged

/-- A port's record without the STEP_ORDERs of its pending list (R191). -/
def PortRecord.withoutOrders (r : PortRecord) : PortRecord :=
  { r with pushedWaiting := r.pushedWaiting.filter fun m => !m.isStepOrder }

/-- The claims released, a fault that is not silent reports the end of the task. -/
def State.faultEnded : State :=
  if silent then s.faultDisposed g cause subCode
  else (s.faultDisposed g cause subCode).endFaultedTask g (s.gantry g).job (((s.gantry g).carried.map Panel.serial).getD 0)

/-- What becoming FAULTED leaves; the saws, their ports and what is prompted aside. -/
structure State.FaultLeaves (s t : State) (g : Gantry) (cause : FaultCause) (subCode : BitVec 8) : Prop where
  eq : t = { s with
    gantries := s.gantries.set g (s.faultedRecord g cause subCode)
    free := { s.free with returned := s.free.returned ++ (s.gantry g).blank.toList }
    slots := (s.faultDisposed g cause subCode).slots
    lastMarked := (s.gantry g).pickedSlot.or s.lastMarked
    saws := t.saws
    ports := t.ports
    duties := t.duties }
  planner : t.port .planner = ((s.markedPorts (s.gantry g).pickedSlot).get .planner).latch .gantryFaulted
  own : t.port (.gantry g) = ((s.port (.gantry g)).serviced cause).withoutOrders
  other : t.port (.gantry (otherGantry g)) = s.port (.gantry (otherGantry g))

theorem State.markedPorts_of_ne (n : Option Nat) {p : Port} (hp : p ≠ .planner) : (s.markedPorts n).get p = s.port p := by
  unfold State.markedPorts
  split
  · exact (State.setPort_port _ _ _ _).trans (if_neg hp)
  · rfl

theorem State.reportsTo_faultEnded : (s.faultDisposed g cause subCode).ReportsTo (s.faultEnded g cause subCode silent) := by
  unfold State.faultEnded
  split
  · exact ⟨rfl, rfl, fun _ => rfl⟩
  · exact State.reportsTo_endFaultedTask _ g _ _

theorem State.latchService_eq : s.latchService g cause = s.setPort (.gantry g) ((s.port (.gantry g)).serviced cause) := by
  unfold State.latchService PortRecord.serviced
  split
  · rw [State.setPort, State.port, PerPort.set_get]
  · rfl

theorem State.becomeFaulted_ends : s.becomeFaulted g cause subCode silent =
    (((s.faultEnded g cause subCode silent).latch .planner .gantryFaulted).setPort (.gantry g)
      (((s.faultEnded g cause subCode silent).port (.gantry g)).serviced cause).withoutOrders) := by
  rw [State.becomeFaulted_eq]
  change ((State.latch (s.faultEnded g cause subCode silent) _ _).latchService g cause).dropStepOrder g = _
  generalize s.faultEnded g cause subCode silent = e
  have hport : (e.latch .planner .gantryFaulted).port (.gantry g) = e.port (.gantry g) :=
    (State.setPort_port _ _ _ _).trans (if_neg (by simp))
  rw [State.dropStepOrder, State.latchService_eq, State.setPort_port_same, State.setPort_setPort, hport, PortRecord.withoutOrders]

theorem State.becomeFaulted_saws : (s.becomeFaulted g cause subCode silent).saws = (s.faultEnded g cause subCode silent).saws := by
  rw [State.becomeFaulted_ends]
  rfl

theorem State.becomeFaulted_port (p : Port) : (s.becomeFaulted g cause subCode silent).port p =
    if p = .gantry g then (((s.faultEnded g cause subCode silent).port (.gantry g)).serviced cause).withoutOrders
    else if p = .planner then ((s.faultEnded g cause subCode silent).port .planner).latch .gantryFaulted
    else (s.faultEnded g cause subCode silent).port p := by
  rw [State.becomeFaulted_ends, State.setPort_port, State.latch, State.setPort_port]

theorem State.becomeFaulted_leaves : s.FaultLeaves (s.becomeFaulted g cause subCode silent) g cause subCode := by
  have hreports := s.reportsTo_faultEnded g cause subCode silent
  have hdisposed := s.faultDisposed_eq g cause subCode
  have hport (p : Port) (hp : p ≠ .planner) : (s.faultDisposed g cause subCode).port p = s.port p :=
    (congrArg (fun t => t.port p) hdisposed).trans (s.markedPorts_of_ne _ hp)
  refine ⟨?_, ?_, ?_, ?_⟩
  · rw [State.becomeFaulted_ends]
    have heq := hreports.eq
    generalize s.faultEnded g cause subCode silent = e at heq ⊢
    rw [heq, hdisposed]
    rfl
  · rw [State.becomeFaulted_port, if_neg (by simp), if_pos rfl, hreports.planner]
    exact congrArg (fun t => (t.port .planner).latch .gantryFaulted) hdisposed
  · rw [State.becomeFaulted_port, if_pos rfl, hreports.gantries, hport _ (by simp)]
  · rw [State.becomeFaulted_port, if_neg (by cases g <;> simp [otherGantry]), if_neg (by simp), hreports.gantries, hport _ (by simp)]
end

end Sys2Proof.Machine
end

section
/-! PROOFS. What makes a gantry FAULTED (R106, R108, R109, R112), beside a gantry that has nothing to take up. -/

namespace Sys2Proof.Machine

/-! ## What the event itself leaves -/

/-- Two ports' records differ in the queues of a gantry's port alone, whose pending list has gained nothing. -/
structure QueuesDiffer (a b : PerPort PortRecord) (g : Gantry) : Prop where
  others : ∀ p, p ≠ .gantry g → b.get p = a.get p
  flags : (b.get (.gantry g)).flags = (a.get (.gantry g)).flags
  attention : (b.get (.gantry g)).attention = (a.get (.gantry g)).attention
  waiting : ∀ m ∈ (b.get (.gantry g)).pushedWaiting, m ∈ (a.get (.gantry g)).pushedWaiting

theorem QueuesDiffer.refl (a : PerPort PortRecord) (g : Gantry) : QueuesDiffer a a g := ⟨fun _ _ => rfl, rfl, rfl, fun _ h => h⟩

theorem QueuesDiffer.set {a : PerPort PortRecord} {g : Gantry} {r : PortRecord} (hf : r.flags = (a.get (.gantry g)).flags)
    (ha : r.attention = (a.get (.gantry g)).attention) (hw : ∀ m ∈ r.pushedWaiting, m ∈ (a.get (.gantry g)).pushedWaiting) :
    QueuesDiffer a (a.set (.gantry g) r) g := by
  have hget : (a.set (.gantry g) r).get (.gantry g) = r := PerPort.get_set_same _ _ _
  exact ⟨fun p hp => by rw [PerPort.get_set, if_neg hp], by rw [hget, hf], by rw [hget, ha], by rw [hget]; exact hw⟩

/-- The state in which an event has been counted in a gantry's record. -/
def State.counted (s : State) (g : Gantry) (r : GantryRecord) (ports : PerPort PortRecord) : State :=
  { s with gantries := s.gantries.set g r, ports := ports }

section
variable {s : State} {g : Gantry} {r : GantryRecord} {before : PerPort PortRecord} {cause : FaultCause} {subCode : BitVec 8}

theorem State.counted_gantry : (s.counted g r before).gantry g = r := PerGantry.get_set_same _ _ _

theorem State.setGantry_counted (hs : r.state = (s.gantry g).state) (hr : r.reservation = (s.gantry g).reservation) :
    s.setGantry g r = s.counted g r s.ports := State.setGantry_of_same hs hr

/-- The state in which the counted event has made the gantry FAULTED. -/
def State.countedFault (s : State) (g : Gantry) (r : GantryRecord) (before : PerPort PortRecord) (cause : FaultCause)
    (subCode : BitVec 8) : State :=
  (s.counted g r before).becomeFaulted g cause subCode false

theorem State.countedFault_leaves : (s.counted g r before).FaultLeaves (s.countedFault g r before cause subCode) g cause subCode :=
  State.becomeFaulted_leaves _ _ _ _ _

theorem State.countedFault_gantry : (s.countedFault g r before cause subCode).gantry g =
    r.faulted ((s.counted g r before).faultRecord g cause subCode) := by
  refine (congrArg (fun t => t.gantry g) State.countedFault_leaves.eq).trans ((PerGantry.get_set_same _ _ _).trans ?_)
  rw [State.faultedRecord, State.counted_gantry]

theorem State.countedFault_other : (s.countedFault g r before cause subCode).gantry (otherGantry g) = s.gantry (otherGantry g) :=
  (congrArg (fun t => t.gantry (otherGantry g)) State.countedFault_leaves.eq).trans
    ((PerGantry.get_set_other _ _ _).trans (PerGantry.get_set_other _ _ _))

theorem State.countedFault_cell : (s.countedFault g r before cause subCode).cell = s.cell :=
  (congrArg State.cell (State.countedFault_leaves (s := s) (r := r) (before := before)).eq :)

/-- A fault prompts nothing at a gantry that has nothing to take up. -/
theorem State.settle_countedFault (h : s.Undisturbed g) :
    (s.countedFault g r before cause subCode).settle = (s.countedFault g r before cause subCode).quiet := by
  have hown : ((s.countedFault g r before cause subCode).gantry g).state = .faulted :=
    congrArg GantryRecord.state State.countedFault_gantry
  have hother : (s.countedFault g r before cause subCode).gantry (otherGantry g) = _ := State.countedFault_other
  have hcell : (s.countedFault g r before cause subCode).cell = s.cell := State.countedFault_cell
  generalize s.countedFault g r before cause subCode = t at *
  refine State.settle_eq_quiet (both_gantries g (GantryRecord.waits_of_state (by simp [hown]) (by simp [hown])) ?_)
    (both_gantries g (by simp [hown]) ?_) fun hpass => ?_
  · rw [hother]
    exact h.search
  · rw [hother]
    exact h.grant
  · have hempty (hopen : t.cell = .opened ∨ t.cell = .halted) : t.stillIdle [.west, .east] = [] :=
      List.filter_eq_nil_iff.mpr fun k _ => by
        have hk := both_gantries (P := fun k => (t.gantry k).state ≠ .idle) g (by simp [hown]) (by
          rw [hother]
          exact h.pass (by rwa [← hcell])) k
        simpa using hk
    simp only [State.passDue, Bool.and_eq_true, decide_eq_true_iff] at hpass
    rw [hempty hpass.1] at hpass
    cases hpass.2
end

/-! ## What the fault leaves -/

section
variable {s : State} {g : Gantry} {r : GantryRecord} {before after : PerPort PortRecord} {cause : FaultCause} {subCode : BitVec 8}

theorem State.countedFault_slots : (s.countedFault g r before cause subCode).slots =
    ((s.counted g r before).faultDisposed g cause subCode).slots :=
  (congrArg State.slots (State.countedFault_leaves (s := s) (r := r) (before := before)).eq :)

/-- A saw's record and port, once a book or an offer has ended with the fault. -/
theorem State.countedFault_reported {w : Saw} {q : SawRecord} {m : Pushed} {t : State}
    (ht : (s.counted g r before).faultEnded g cause subCode false = t) (hq : t.saw w = q) (hm : t.port (.saw w) = (s.port (.saw w)).push m) :
    (s.countedFault g r before cause subCode).saw w = q ∧
      (s.countedFault g r before cause subCode).port (.saw w) = (s.port (.saw w)).push m := by
  constructor
  · rw [State.saw, State.countedFault, State.becomeFaulted_saws, ht]
    exact hq
  · rw [State.countedFault, State.becomeFaulted_port, if_neg (by simp), if_neg (by simp), ht]
    exact hm

theorem State.countedFault_disposed_saws : ((s.counted g r before).faultDisposed g cause subCode).saws = s.saws :=
  (congrArg State.saws ((s.counted g r before).faultDisposed_eq g cause subCode) :)

theorem State.countedFault_disposed_port (hports : QueuesDiffer s.ports before g) (w : Saw) :
    ((s.counted g r before).faultDisposed g cause subCode).port (.saw w) = s.port (.saw w) :=
  (congrArg (fun t => t.port (.saw w)) ((s.counted g r before).faultDisposed_eq g cause subCode)).trans
    (((s.counted g r before).markedPorts_of_ne _ (by simp)).trans (hports.others (.saw w) (by simp)))

theorem State.countedFault_ended : (s.counted g r before).faultEnded g cause subCode false =
    ((s.counted g r before).faultDisposed g cause subCode).endFaultedTask g r.job ((r.carried.map Panel.serial).getD 0) := by
  rw [State.faultEnded, State.counted_gantry]
  rfl

/-- The book of the task ends (R137, R138). -/
theorem State.countedFault_book (hports : QueuesDiffer s.ports before g) {w : Saw} {tag : Word} {b : Book}
    (hj : r.job = some (.book w tag)) (hb : s.bookOf w tag = some b) :
    (s.countedFault g r before cause subCode).saw w = (s.saw w).withoutBook b.tag ∧
      (s.countedFault g r before cause subCode).port (.saw w) =
        (s.port (.saw w)).push (.bookReport (b.abortedReport .gantryFault)) := by
  have hsaws : ((s.counted g r before).faultDisposed g cause subCode).saws = s.saws := State.countedFault_disposed_saws
  have hport := State.countedFault_disposed_port (r := r) (cause := cause) (subCode := subCode) hports w
  have hended := State.countedFault_ended (s := s) (g := g) (r := r) (before := before) (cause := cause) (subCode := subCode)
  rw [hj] at hended
  generalize (s.counted g r before).faultDisposed g cause subCode = d at *
  have hbook : d.bookOf w tag = some b := by rwa [State.bookOf, State.saw, hsaws]
  have habort : d.endFaultedTask g (some (.book w tag)) ((r.carried.map Panel.serial).getD 0) = _ :=
    State.abortAssembling_eq hbook .gantryFault
  refine State.countedFault_reported (hended.trans habort) ?_ ?_
  · show (d.setSaw w _).saw w = _
    rw [State.setSaw_saw_same, State.saw, hsaws, State.saw]
  · rw [← hport]
    exact State.setPort_port_same (d.setSaw w ((d.saw w).withoutBook b.tag)) (.saw w) _

/-- The offer of the task ends (R141). -/
theorem State.countedFault_offer (hports : QueuesDiffer s.ports before g) {w : Saw} {o : Offer}
    (hj : r.job = some (.remnantReturn w)) (ho : s.offerOf g w = some o) :
    (s.countedFault g r before cause subCode).saw w =
        { s.saw w with offers := dropOffer g (s.saw w).offers, lastOfferReport := some .discarded } ∧
      (s.countedFault g r before cause subCode).port (.saw w) = (s.port (.saw w)).push
        (.offerReport ⟨o.kind, o.length, o.width, .discarded, some .gantryFault, (r.carried.map Panel.serial).getD 0, none⟩) := by
  have hsaws : ((s.counted g r before).faultDisposed g cause subCode).saws = s.saws := State.countedFault_disposed_saws
  have hport := State.countedFault_disposed_port (r := r) (cause := cause) (subCode := subCode) hports w
  have hended := State.countedFault_ended (s := s) (g := g) (r := r) (before := before) (cause := cause) (subCode := subCode)
  rw [hj] at hended
  generalize (s.counted g r before).faultDisposed g cause subCode = d at *
  have hoffer : d.offerOf g w = some o := by rwa [State.offerOf, State.saw, hsaws]
  have hend : d.endFaultedTask g (some (.remnantReturn w)) ((r.carried.map Panel.serial).getD 0) = _ :=
    State.endOffer_eq hoffer .discarded (some .gantryFault) _ none
  refine State.countedFault_reported (hended.trans hend) ?_ ?_
  · show (d.setSaw w _).saw w = _
    rw [State.setSaw_saw_same, State.saw, hsaws, State.saw]
  · rw [← hport]
    exact State.setPort_port_same _ _ _

theorem PortRecord.serviced_driveFault (q : PortRecord) : q.serviced .driveFault = q := if_pos rfl

theorem PortRecord.serviced_of_ne (q : PortRecord) (h : cause ≠ .driveFault) : q.serviced cause = q.latch .serviceChanged := if_neg h

theorem State.countedFault_taken (hports : QueuesDiffer s.ports before g)
    (hafter : QueuesDiffer (s.countedFault g r before cause subCode).ports after g) :
    s.FaultTaken { (s.countedFault g r before cause subCode).quiet with ports := after } g r cause subCode := by
  let v := s.counted g r before
  have hleaves := State.countedFault_leaves (s := s) (g := g) (r := r) (before := before) (cause := cause) (subCode := subCode)
  have hgantry := State.countedFault_gantry (s := s) (g := g) (r := r) (before := before) (cause := cause) (subCode := subCode)
  have hother := State.countedFault_other (s := s) (g := g) (r := r) (before := before) (cause := cause) (subCode := subCode)
  have hslots := State.countedFault_slots (s := s) (g := g) (r := r) (before := before) (cause := cause) (subCode := subCode)
  have hbook (w : Saw) (tag : Word) (b : Book) :=
    State.countedFault_book (r := r) (w := w) (tag := tag) (b := b) (cause := cause) (subCode := subCode) hports
  have hoffer (w : Saw) (o : Offer) := State.countedFault_offer (r := r) (w := w) (o := o) (cause := cause) (subCode := subCode) hports
  generalize s.countedFault g r before cause subCode = t at *
  have hslot (n : Nat) : t.slot n = (v.faultDisposed g cause subCode).slot n := State.slot_of_slots hslots n
  have hpicked : (v.gantry g).pickedSlot = r.pickedSlot := by rw [State.counted_gantry]
  have hplanner : after.get .planner = ((v.markedPorts r.pickedSlot).get .planner).latch .gantryFaulted :=
    (hafter.others _ (by simp)).trans (hleaves.planner.trans (by rw [hpicked]))
  have hown : t.port (.gantry g) = ((before.get (.gantry g)).serviced cause).withoutOrders := hleaves.own
  refine ⟨?_, hother, fun n => ?_, fun n hn => ?_, fun n => ?_, ?_, fun w tag b hj hb => ?_, fun w o hj ho => ?_,
    ⟨?_, ?_, fun hsome => ?_⟩, ?_, fun o ho => ?_, ?_⟩
  · refine hgantry.trans ?_
    rw [State.faultRecord, State.counted_gantry]
    rfl
  · exact (congrArg Slot.stack (hslot n)).trans (v.faultDisposed_stack g cause subCode n)
  · refine (congrArg Slot.suspect (hslot n)).trans ((v.faultDisposed_suspect g cause subCode hn).trans ?_)
    rw [hpicked]
    rfl
  · refine (congrArg Slot.claim (hslot n)).trans ((v.faultDisposed_claim g cause subCode n).trans ?_)
    rw [hpicked]
    rfl
  · have hfree := congrArg State.free hleaves.eq
    refine hfree.trans ?_
    rw [State.counted_gantry, GantryRecord.blank]
    cases r.task.bind Task.blank with
    | none => exact congrArg (FreeList.mk s.free.fresh) (List.append_nil _)
    | some k => rfl
  · obtain ⟨hsaw, hport⟩ := hbook w tag b hj hb
    exact ⟨hsaw, (hafter.others _ (by simp)).trans hport⟩
  · obtain ⟨hsaw, hport⟩ := hoffer w o hj ho
    exact ⟨hsaw, (hafter.others _ (by simp)).trans hport⟩
  · show _ ∈ (after.get .planner).flags
    rw [hplanner]
    exact (mem_latchFlag _ _ _).mpr (Or.inl rfl)
  · show (after.get .planner).attention = true
    rw [hplanner]
    rfl
  · show _ ∈ (after.get .planner).flags
    rw [hplanner, State.markedPorts, if_pos hsome]
    refine (mem_latchFlag _ _ _).mpr (Or.inr ?_)
    rw [State.latch, State.setPort, PerPort.get_set_same]
    exact (mem_latchFlag _ _ _).mpr (Or.inl rfl)
  · have hflags := hafter.flags.trans (congrArg PortRecord.flags hown)
    have hattention := hafter.attention.trans (congrArg PortRecord.attention hown)
    by_cases hcause : cause = .driveFault
    · rw [if_pos hcause]
      refine hflags.trans ?_
      rw [hcause, PortRecord.serviced_driveFault]
      exact hports.flags
    · rw [if_neg hcause]
      rw [PortRecord.serviced_of_ne _ hcause] at hflags hattention
      exact ⟨hflags ▸ (mem_latchFlag _ _ _).mpr (Or.inl rfl), hattention⟩
  · have hwaits := hafter.waiting _ ho
    rw [← State.port, hown] at hwaits
    simpa [Pushed.isStepOrder] using (List.mem_filter.mp hwaits).2
  · exact ⟨(congrArg State.cell hleaves.eq :), (congrArg State.clock hleaves.eq :), (congrArg State.layout hleaves.eq :),
      (congrArg State.kinds hleaves.eq :), (congrArg State.windows hleaves.eq :)⟩
end

/-! ## The events -/

theorem PortRecord.wake_eq (q : PortRecord) : q.wake = { q with sending := q.wake.sending } := by
  unfold PortRecord.wake
  split <;> rfl

theorem PortRecord.serviced_outbound (q : PortRecord) (cause : FaultCause) : (q.serviced cause).outbound = q.outbound := by
  unfold PortRecord.serviced
  split <;> rfl

section
variable {s : State} {g : Gantry} {r : GantryRecord} {cause : FaultCause} {subCode : BitVec 8}

/-- An event that counts in the gantry's record and is no message makes the gantry FAULTED. -/
theorem State.event_fault {before : PerPort PortRecord} (h : s.Undisturbed g) (hports : QueuesDiffer s.ports before g) :
    s.FaultTaken (s.countedFault g r before cause subCode).settle g r cause subCode := by
  rw [State.settle_countedFault h]
  exact State.countedFault_taken hports (QueuesDiffer.refl _ g)

/-- A message of the gantry's port that counts in the gantry's record makes the gantry FAULTED. -/
theorem State.message_fault {m : Message} {ws : List Word} {body : State → State × Reply} (hu : s.Undisturbed g)
    (h : s.Ready (.gantry g) ⟨m.code, ws⟩ 1) (hc : m.check (.gantry g) ws = none) (ha : m.accepts s.cell = true)
    (hb : body (s.taken (.gantry g)) = (s.countedFault g r (s.taken (.gantry g)).ports cause subCode, acceptedReply m)) :
    s.FaultTaken (s.message m (.gantry g) ws body) g r cause subCode := by
  have hhandle : (s.taken (.gantry g)).handleMessage m (.gantry g) ws body =
      (s.countedFault g r (s.taken (.gantry g)).ports cause subCode, acceptedReply m) := by
    have ha' : m.accepts (s.taken (.gantry g)).cell = true := ha
    simp only [State.handleMessage, hc, ha', if_true, hb]
  have hmessage : s.message m (.gantry g) ws body =
      (s.countedFault g r (s.taken (.gantry g)).ports cause subCode).quiet.placeReply (.gantry g) (acceptedReply m) := by
    rw [State.message, State.process_ready (by rw [hhandle]; exact h), hhandle, State.settle_countedFault hu]
  have hports : QueuesDiffer s.ports (s.taken (.gantry g)).ports g := QueuesDiffer.set rfl rfl fun _ h => h
  have hqueue : ((s.countedFault g r (s.taken (.gantry g)).ports cause subCode).quiet.port (.gantry g)).outbound =
      (s.port (.gantry g)).outbound := by
    refine (congrArg PortRecord.outbound State.countedFault_leaves.own).trans ((PortRecord.serviced_outbound _ _).trans ?_)
    show ((s.taken (.gantry g)).port (.gantry g)).outbound = _
    rw [State.taken, State.setPort_port_same]
  rw [hmessage, State.placeReply_room (by rw [hqueue]; exact h.room), PortRecord.wake_eq]
  exact State.countedFault_taken hports (QueuesDiffer.set rfl rfl fun _ h => h)
end

section
variable {s : State} {g : Gantry}

theorem State.overdue_eq {c : Step} {i : Issued} (hs : (s.gantry g).state = .stepping) (hc : (s.gantry g).current = some c)
    (hi : c.issued = some i) : s.overdue g = decide (i.limit ≤ elapsed s.clock i.time) := by
  simp [State.overdue, hs, hc, hi]

theorem State.exec_overrun_of_not_overdue (h : s.overdue g = false) : exec (.overrun g) s = .next s := by
  show Host.Outcome.next (if s.overdue g then s.overrunNow g else s) = _
  rw [h]
  rfl

theorem State.exec_overrun_of_overdue (h : s.overdue g = true) : exec (.overrun g) s =
    .next (s.countedFault g { s.gantry g with overruns := (s.gantry g).overruns.step } s.ports .overrun 0).settle := by
  show Host.Outcome.next (if s.overdue g then s.overrunNow g else s) = _
  have hcounted : s.setGantry g { s.gantry g with overruns := (s.gantry g).overruns.step } = _ := State.setGantry_counted rfl rfl
  rw [h, if_pos rfl, State.overrunNow, hcounted]
  rfl

/-- A STEP_DONE outside the granted span makes the gantry FAULTED (R106). -/
theorem State.stepDone_outside {k x d : Word} {c : Step} {i : Issued} (hs : (s.gantry g).state = .stepping)
    (hc : (s.gantry g).current = some c) (hi : c.issued = some i) (hk : i.token.toNat = k.toNat)
    (hx : x.toNat < i.span.lo ∨ i.span.hi < x.toNat) :
    s.stepDone g [k, x, d] =
      (s.countedFault g { s.gantry g with lastOutcome := some (stepOutcomeOf d.toNat) } s.ports .spanViolation 0,
        acceptedReply .stepDone) := by
  have hout : (s.gantry g).outstanding (word [k, x, d] 0) = some (c, i.span) := by
    simp [GantryRecord.outstanding, hs, hc, hi, word, hk]
  have hholds : i.span.holds x.toNat = false := by
    rw [Span.holds, decide_eq_false_iff_not]
    omega
  have hnoted : s.noteOutcome g (stepOutcomeOf d.toNat) = _ := State.setGantry_counted rfl rfl
  simp only [State.stepDone, hout]
  show (s.acceptStep g c i.span x.toNat (stepOutcomeOf d.toNat), _) = _
  rw [State.acceptStep, hholds, if_neg Bool.false_ne_true, hnoted]
  rfl

theorem State.gantryFault_accepted {d : Word} (ho : (s.gantry g).state ≠ .offline) (hf : (s.gantry g).state ≠ .faulted) :
    s.gantryFault g [d] = (s.countedFault g { s.gantry g with driveFaults := (s.gantry g).driveFaults.step } s.ports .driveFault
      (BitVec.ofNat 8 d.toNat), acceptedReply .gantryFault) := by
  have hcounted : s.setGantry g { s.gantry g with driveFaults := (s.gantry g).driveFaults.step } = _ :=
    State.setGantry_counted rfl rfl
  rw [State.gantryFault, if_neg (not_or_intro ho hf), State.driveFault, hcounted]
  rfl

theorem gantryFault_check (g : Gantry) (d : Word) (hd : d.toNat ≤ 255) : Message.gantryFault.check (.gantry g) [d] = none := by
  simp [Message.check, Message.onPort, Message.payloadLength, Message.checkedFields, word, hd]

/-- The loss of the link in a working state other than STEPPING makes the gantry FAULTED (R112). -/
theorem State.exec_carrierLoss_working (hup : (s.port (.gantry g)).carrierUp = true)
    (hs : (s.gantry g).state = .dwell ∨ (s.gantry g).state = .waitGrant ∨ (s.gantry g).state = .hoverHold ∨
      (s.gantry g).state = .stranded) : exec (.carrierLoss (.gantry g)) s =
    .next (s.countedFault g (s.gantry g) (s.ports.set (.gantry g) (s.port (.gantry g)).lostCarrier) .linkLost 0).settle := by
  let t := s.setPort (.gantry g) (s.port (.gantry g)).lostCarrier
  have ht : s.counted g (s.gantry g) t.ports = t := by
    rw [State.counted, State.gantry, PerGantry.set_get]
    rfl
  have hlost : t.gantryLinkLost g = t.becomeFaulted g .linkLost 0 false := by
    have hstate : (t.gantry g).state = (s.gantry g).state := rfl
    rw [State.gantryLinkLost, hstate]
    rcases hs with hs | hs | hs | hs <;> rw [hs]
  show Host.Outcome.next (s.carrierLoss (.gantry g)) = _
  rw [State.carrierLoss, if_pos hup]
  show Host.Outcome.next (t.gantryLinkLost g).settle = _
  rw [hlost, ← ht]
  rfl
end

/-- Settles O47: each event counts in the gantry's record, makes it FAULTED and prompts nothing further. -/
theorem faultStopsGantry : Obligations.FaultStopsGantry := by
  intro s g hq
  refine ⟨fun c i hs hc hi => ⟨fun hlt => ?_, fun hle hu => ?_⟩, fun hs => ?_, fun c i k x d hs hc hi hn h hd hk hx hu => ?_,
    fun d hd hn h => ⟨fun hs => ?_, fun ho hf hu => ?_⟩, fun hup hu hs => ?_⟩
  · refine State.exec_overrun_of_not_overdue ?_
    rw [State.overdue_eq hs hc hi, decide_eq_false_iff_not]
    omega
  · refine ⟨_, State.exec_overrun_of_overdue ?_, State.event_fault hu (QueuesDiffer.refl _ g)⟩
    rw [State.overdue_eq hs hc hi, decide_eq_true_iff]
    exact hle
  · exact State.exec_overrun_of_not_overdue (by simp [State.overdue, hs])
  · have htaken := State.message_fault (m := .stepDone) hu h (stepDone_check g k x d hd) (by simpa [Message.accepts] using hn)
      (body := fun t => t.stepDone g [k, x, d]) (State.stepDone_outside (s := s.taken (.gantry g)) hs hc hi hk hx)
    refine ⟨_, rfl, ?_⟩
    generalize d.toNat = o at htaken ⊢
    rcases o with _ | _ | _ | _ <;> exact htaken
  · have hrefused : (s.taken (.gantry g)).gantryFault g [d] =
        (s.taken (.gantry g), refusedReply .gantryFault .gantryState (s.gantry g).state.number) := if_pos hs
    exact congrArg Host.Outcome.next
      (State.message_refused h (gantryFault_check g d hd) (by simpa [Message.accepts] using hn) hrefused)
  · exact ⟨_, rfl, State.message_fault hu h (gantryFault_check g d hd) (by simpa [Message.accepts] using hn)
      (State.gantryFault_accepted (s := s.taken (.gantry g)) ho hf)⟩
  · exact ⟨_, State.exec_carrierLoss_working hup hs,
      State.event_fault hu (QueuesDiffer.set rfl rfl fun _ hm => absurd hm List.not_mem_nil)⟩

end Sys2Proof.Machine
end

section
/-! PROOFS. CELL_RESET, block by block (R118, R143, R184, TABLE 9.6): each gantry, the saws, the claims, and the answer. -/

namespace Sys2Proof.Machine

/-! ## Change flags -/

/-- Nothing but the change flags and the attention latch of a port differs, and no flag is lost. -/
structure PortRecord.Latches (r q : PortRecord) : Prop where
  eq : q = { r with flags := q.flags, attention := q.attention }
  kept : ∀ f ∈ r.flags, f ∈ q.flags

theorem PortRecord.Latches.refl (r : PortRecord) : r.Latches r := ⟨rfl, fun _ h => h⟩

theorem PortRecord.Latches.trans {r q p : PortRecord} (h : r.Latches q) (k : q.Latches p) : r.Latches p := by
  refine ⟨?_, fun f hf => k.kept f (h.kept f hf)⟩
  calc p = { q with flags := p.flags, attention := p.attention } := k.eq
    _ = { r with flags := p.flags, attention := p.attention } := by rw [h.eq]

theorem PortRecord.latches_latch (r : PortRecord) (f : ChangeFlag) : r.Latches (r.latch f) :=
  ⟨rfl, fun _ h => (mem_latchFlag _ _ _).mpr (Or.inr h)⟩

theorem PortRecord.mem_latch (r : PortRecord) (f : ChangeFlag) : f ∈ (r.latch f).flags := (mem_latchFlag _ _ _).mpr (Or.inl rfl)

/-! ## A gantry's record -/

/-- A gantry works over the runway or carries a panel (R118). -/
def GantryRecord.Works (r : GantryRecord) : Prop :=
  r.state = .stepping ∨ r.state = .hoverHold ∨ r.state = .stranded ∨ ((r.state = .dwell ∨ r.state = .waitGrant) ∧ r.carried.isSome)

/-- A gantry prepares a step with an empty head (R118). -/
def GantryRecord.Unladen (r : GantryRecord) : Prop := (r.state = .dwell ∨ r.state = .waitGrant) ∧ r.carried = none

/-- A gantry that CELL_RESET leaves in its state (R118). -/
def GantryRecord.Stays (r : GantryRecord) : Prop := r.state = .idle ∨ r.state = .parked ∨ r.state = .offline

theorem GantryRecord.works_or (r : GantryRecord) : r.Works ∨ r.Unladen ∨ r.Stays ∨ r.state = .faulted := by
  unfold GantryRecord.Works GantryRecord.Unladen GantryRecord.Stays
  cases hc : r.carried <;> cases r.state <;> simp

theorem GantryRecord.Unladen.not_works {r : GantryRecord} (h : r.Unladen) : ¬r.Works := by
  obtain ⟨hs, hc⟩ := h
  rcases hs with hs | hs <;> simp [GantryRecord.Works, hs, hc]

theorem GantryRecord.Stays.not_works {r : GantryRecord} (h : r.Stays) : ¬r.Works := by
  rcases h with hs | hs | hs <;> simp [GantryRecord.Works, hs]

theorem GantryRecord.not_works_of_faulted {r : GantryRecord} (hs : r.state = .faulted) : ¬r.Works := by simp [GantryRecord.Works, hs]

/-- The pool record that CELL_RESET returns to the free list for a gantry (R21, R37). -/
def GantryRecord.returned (r : GantryRecord) : List Nat :=
  match r.state with
  | .stepping | .hoverHold | .stranded | .dwell | .waitGrant => r.blank.toList
  | _ => []

theorem GantryRecord.Works.returned {r : GantryRecord} (h : r.Works) : r.returned = r.blank.toList := by
  rcases h with hs | hs | hs | ⟨hs | hs, -⟩ <;> simp only [GantryRecord.returned, hs]

theorem GantryRecord.Unladen.returned {r : GantryRecord} (h : r.Unladen) : r.returned = r.blank.toList := by
  rcases h.1 with hs | hs <;> simp only [GantryRecord.returned, hs]

theorem GantryRecord.Stays.returned {r : GantryRecord} (h : r.Stays) : r.returned = [] := by
  rcases h with hs | hs | hs <;> simp only [GantryRecord.returned, hs]

theorem GantryRecord.returned_of_faulted {r : GantryRecord} (hs : r.state = .faulted) : r.returned = [] := by
  simp only [GantryRecord.returned, hs]

/-- What CELL_RESET makes of a gantry's record at a time (R118, R110, R111). -/
structure GantryRecord.ResetTo (r q : GantryRecord) (now : Time) : Prop where
  works : r.Works → q = r.faulted
    { cause := .cellReset, subCode := 0, time := now, state := r.state, step := r.faultStep, panel := r.carried,
      task := r.task.map Task.kind, span := r.reservation, second := none }
  unladen : r.Unladen → q =
    { r with state := .idle, task := none, current := none, setAside := none, former := none, dwellEnd := none }
  stays : r.Stays → q = r
  again : ∀ f, r.state = .faulted → r.fault = some f →
    q = { r with fault := some { f with second := f.second.or (some ⟨.cellReset, now⟩) } }

/-! ## A gantry -/

/-- What CELL_RESET leaves of the rest, as it takes one gantry: the pick's slot is marked, the free list has its record, and only this
gantry's port and the planner's have changed. -/
structure State.GantryCleared (s t : State) (g : Gantry) : Prop where
  eq : t = { s with
    gantries := t.gantries
    free := { s.free with returned := s.free.returned ++ (s.gantry g).returned }
    slots := t.slots
    lastMarked := t.lastMarked
    ports := t.ports
    duties := t.duties }
  apart : t.gantry (otherGantry g) = s.gantry (otherGantry g)
  record : (s.gantry g).ResetTo (t.gantry g) s.clock
  length : t.slots.length = s.slots.length
  stack : ∀ n, (t.slot n).stack = (s.slot n).stack
  planner : (s.port .planner).Latches (t.port .planner)
  faulted : (s.gantry g).Works → .gantryFaulted ∈ (t.port .planner).flags
  again : ∀ f, (s.gantry g).state = .faulted → (s.gantry g).fault = some f → f.second = none →
    .gantryFaulted ∈ (t.port .planner).flags
  marked : (s.gantry g).Works → t.lastMarked = (s.gantry g).pickedSlot.or s.lastMarked ∧
    ((s.gantry g).pickedSlot.isSome → .suspectMarked ∈ (t.port .planner).flags) ∧
    ∀ n, n < s.slots.length → (t.slot n).suspect = ((s.slot n).suspect || decide ((s.gantry g).pickedSlot = some n))
  unmarked : ¬(s.gantry g).Works → t.lastMarked = s.lastMarked ∧ ∀ n, (t.slot n).suspect = (s.slot n).suspect
  service : (s.gantry g).Works → (s.port (.gantry g)).withoutOrders.Latches (t.port (.gantry g)) ∧
    .serviceChanged ∈ (t.port (.gantry g)).flags
  own : ¬(s.gantry g).Works → t.port (.gantry g) = s.port (.gantry g)
  other : t.port (.gantry (otherGantry g)) = s.port (.gantry (otherGantry g))
  saws : ∀ w, t.port (.saw w) = s.port (.saw w)

section
variable {s : State} {g : Gantry}

theorem State.latches_markedPorts (n : Option Nat) : (s.port .planner).Latches ((s.markedPorts n).get .planner) := by
  unfold State.markedPorts
  split
  · rw [State.latch, State.setPort, PerPort.get_set_same]
    exact PortRecord.latches_latch _ _
  · exact PortRecord.Latches.refl _

theorem State.resetGantry_of_works (h : (s.gantry g).Works) : s.resetGantry g = s.becomeFaulted g .cellReset 0 true := by
  unfold State.resetGantry
  rcases h with hs | hs | hs | ⟨hs | hs, hc⟩ <;> simp only [hs]
  · rw [if_pos hc]
  · rw [if_pos hc]

theorem State.gantryCleared_works (h : (s.gantry g).Works) : s.GantryCleared (s.becomeFaulted g .cellReset 0 true) g := by
  have hleaves := s.becomeFaulted_leaves g .cellReset 0 true
  have hdisposed := s.faultDisposed_eq g .cellReset 0
  have hsaws : (s.becomeFaulted g .cellReset 0 true).saws = s.saws := by
    rw [State.becomeFaulted_saws, State.faultEnded, if_pos rfl, hdisposed]
  have hports (w : Saw) : (s.becomeFaulted g .cellReset 0 true).port (.saw w) = s.port (.saw w) := by
    rw [State.becomeFaulted_port, if_neg (by simp), if_neg (by simp), State.faultEnded, if_pos rfl]
    exact (congrArg (fun t => t.port (.saw w)) hdisposed).trans (s.markedPorts_of_ne _ (by simp))
  generalize s.becomeFaulted g .cellReset 0 true = t at *
  have hown : t.gantry g = s.faultedRecord g .cellReset 0 :=
    (congrArg (fun t => t.gantry g) hleaves.eq).trans (PerGantry.get_set_same _ _ _)
  have hslots : t.slots = (s.faultDisposed g .cellReset 0).slots := (congrArg State.slots hleaves.eq :)
  have hmarked : t.lastMarked = (s.gantry g).pickedSlot.or s.lastMarked := (congrArg State.lastMarked hleaves.eq :)
  have hgantries : t.gantries = s.gantries.set g (s.faultedRecord g .cellReset 0) := (congrArg State.gantries hleaves.eq :)
  have hslot (n : Nat) : t.slot n = (s.faultDisposed g .cellReset 0).slot n := State.slot_of_slots hslots n
  have hlatched : (s.port .planner).Latches ((s.markedPorts (s.gantry g).pickedSlot).get .planner) := s.latches_markedPorts _
  refine
    { eq := ?_
      apart := (congrArg (fun t => t.gantry (otherGantry g)) hleaves.eq).trans (PerGantry.get_set_other _ _ _)
      record := ⟨fun _ => hown, fun hp => absurd h hp.not_works, fun hp => absurd h hp.not_works,
        fun _ hs _ => absurd h (GantryRecord.not_works_of_faulted hs)⟩
      length := by rw [hslots, State.faultDisposed_length]
      stack := fun n => by rw [hslot, State.faultDisposed_stack]
      planner := by rw [hleaves.planner]; exact hlatched.trans (PortRecord.latches_latch _ _)
      faulted := fun _ => by rw [hleaves.planner]; exact PortRecord.mem_latch _ _
      again := fun _ hs => absurd h (GantryRecord.not_works_of_faulted hs)
      marked := fun _ => ⟨hmarked, fun hsome => ?_,
        fun n hn => by rw [hslot, State.faultDisposed_suspect _ _ _ _ hn]⟩
      unmarked := fun hn => absurd h hn
      service := fun _ => ?_
      own := fun hn => absurd h hn
      other := hleaves.other
      saws := hports }
  · have heq := hleaves.eq
    rwa [hsaws, ← hmarked, ← hslots, ← hgantries, ← h.returned] at heq
  · rw [hleaves.planner, State.markedPorts, if_pos hsome, State.latch, State.setPort, PerPort.get_set_same]
    exact (PortRecord.latches_latch _ _).kept _ (PortRecord.mem_latch _ _)
  · rw [hleaves.own, PortRecord.serviced_of_ne _ (by decide)]
    exact ⟨⟨rfl, (PortRecord.latches_latch _ _).kept⟩, PortRecord.mem_latch _ _⟩

/-- A gantry whose record alone changes; GANTRY_FAULTED may latch. -/
theorem State.gantryCleared_record {q : GantryRecord} {d : Duties} {ports : PerPort PortRecord} (h : ¬(s.gantry g).Works)
    (hrecord : (s.gantry g).ResetTo q s.clock) (hports : ports = s.ports ∨ ports = (s.latch .planner .gantryFaulted).ports)
    (hagain : ∀ f, (s.gantry g).state = .faulted → (s.gantry g).fault = some f → f.second = none →
      ports = (s.latch .planner .gantryFaulted).ports) :
    s.GantryCleared
      { s with
        gantries := s.gantries.set g q
        free := { s.free with returned := s.free.returned ++ (s.gantry g).returned }
        ports := ports
        duties := d } g := by
  have hown : (s.gantries.set g q).get g = q := PerGantry.get_set_same _ _ _
  have hlatch (p : Port) : (s.latch .planner .gantryFaulted).ports.get p =
      if p = .planner then (s.port .planner).latch .gantryFaulted else s.port p := State.setPort_port _ _ _ _
  have hother (p : Port) (hp : p ≠ .planner) : ports.get p = s.port p := by
    rcases hports with rfl | rfl
    · rfl
    · rw [hlatch, if_neg hp]
  have hplanner : (s.port .planner).Latches (ports.get .planner) := by
    rcases hports with rfl | rfl
    · exact PortRecord.Latches.refl _
    · rw [hlatch, if_pos rfl]
      exact PortRecord.latches_latch _ _
  refine
    { eq := rfl
      apart := PerGantry.get_set_other _ _ _
      record := ?_
      length := rfl
      stack := fun _ => rfl
      planner := hplanner
      faulted := fun hw => absurd hw h
      again := fun f hs hf hnone => ?_
      marked := fun hw => absurd hw h
      unmarked := fun _ => ⟨rfl, fun _ => rfl⟩
      service := fun hw => absurd hw h
      own := fun _ => hother _ (by simp)
      other := hother _ (by simp)
      saws := fun _ => hother _ (by simp) }
  · show (s.gantry g).ResetTo ((s.gantries.set g q).get g) s.clock
    rwa [hown]
  · rw [State.port, hagain f hs hf hnone, hlatch, if_pos rfl]
    exact PortRecord.mem_latch _ _

theorem State.gantryCleared_unladen (h : (s.gantry g).Unladen) : s.GantryCleared (s.idleByReset g) g := by
  let q : GantryRecord :=
    { s.gantry g with state := .idle, task := none, current := none, setAside := none, former := none, dwellEnd := none }
  have hrecord : (s.gantry g).ResetTo q s.clock :=
    ⟨fun hw => absurd hw h.not_works, fun _ => rfl, fun hs => by
      rcases h.1 with hd | hd <;> rcases hs with hs | hs | hs <;> simp [hd] at hs,
      fun f hs => by rcases h.1 with hd | hd <;> simp [hd] at hs⟩
  have hagain : ∀ f, (s.gantry g).state = .faulted → (s.gantry g).fault = some f → f.second = none →
      s.ports = (s.latch .planner .gantryFaulted).ports := fun f hs => by rcases h.1 with hd | hd <;> simp [hd] at hs
  have hfree : s.freeRecordOpt ((s.gantry g).task.bind Task.blank) =
      { s with free := { s.free with returned := s.free.returned ++ (s.gantry g).returned } } := by
    rw [h.returned, GantryRecord.blank]
    cases (s.gantry g).task.bind Task.blank with
    | none => rw [Option.toList_none, List.append_nil]; rfl
    | some n => rfl
  have hidle : ∃ d, s.idleByReset g =
      { s with
        gantries := s.gantries.set g q
        free := { s.free with returned := s.free.returned ++ (s.gantry g).returned }
        ports := s.ports
        duties := d } := by
    rw [State.idleByReset, hfree]
    exact State.setGantry_eq _ g q
  obtain ⟨d, hd⟩ := hidle
  rw [hd]
  exact State.gantryCleared_record h.not_works hrecord (Or.inl rfl) hagain

/-- Nothing changes at a gantry, whose record is what CELL_RESET makes of it. -/
theorem State.gantryCleared_refl (h : ¬(s.gantry g).Works) (hreturned : (s.gantry g).returned = [])
    (hrecord : (s.gantry g).ResetTo (s.gantry g) s.clock)
    (hagain : ∀ f, (s.gantry g).state = .faulted → (s.gantry g).fault = some f → f.second ≠ none) : s.GantryCleared s g := by
  have hself := State.gantryCleared_record (d := s.duties) h hrecord (Or.inl rfl) (fun f hs hf hnone => absurd hnone (hagain f hs hf))
  have hset : s.gantries.set g (s.gantry g) = s.gantries := PerGantry.set_get _ _
  rw [hset, hreturned, List.append_nil] at hself
  exact hself

theorem State.gantryCleared_stays (h : (s.gantry g).Stays) : s.GantryCleared s g := by
  refine State.gantryCleared_refl h.not_works h.returned
    ⟨fun hw => absurd hw h.not_works, fun hp => ?_, fun _ => rfl, fun f hs => ?_⟩ fun f hs => ?_
  · rcases hp.1 with hd | hd <;> rcases h with hs | hs | hs <;> simp [hd] at hs
  · rcases h with hd | hd | hd <;> simp [hd] at hs
  · rcases h with hd | hd | hd <;> simp [hd] at hs

theorem GantryRecord.not_unladen_of_faulted {r : GantryRecord} (hs : r.state = .faulted) : ¬r.Unladen := by
  simp [GantryRecord.Unladen, hs]

theorem GantryRecord.not_stays_of_faulted {r : GantryRecord} (hs : r.state = .faulted) : ¬r.Stays := by
  simp [GantryRecord.Stays, hs]

theorem State.gantryCleared_faulted (hs : (s.gantry g).state = .faulted) : s.GantryCleared (s.secondCause g .cellReset) g := by
  have hworks := GantryRecord.not_works_of_faulted hs
  have hreturned := GantryRecord.returned_of_faulted hs
  have resets (q : GantryRecord)
      (hq : ∀ f, (s.gantry g).fault = some f →
        q = { s.gantry g with fault := some { f with second := f.second.or (some ⟨.cellReset, s.clock⟩) } }) :
      (s.gantry g).ResetTo q s.clock :=
    ⟨fun hw => absurd hw hworks, fun hp => absurd hp (GantryRecord.not_unladen_of_faulted hs),
      fun hp => absurd hp (GantryRecord.not_stays_of_faulted hs), fun f _ => hq f⟩
  unfold State.secondCause
  cases hf : (s.gantry g).fault with
  | none => exact State.gantryCleared_refl hworks hreturned (resets _ (by simp [hf])) (by simp [hf])
  | some f =>
    dsimp only
    cases hsecond : f.second with
    | some k =>
      have hsame : s.gantry g = { s.gantry g with fault := some { f with second := f.second.or (some ⟨.cellReset, s.clock⟩) } } := by
        rw [hsecond, Option.some_or, ← hsecond, ← hf]
      rw [if_neg (by simp)]
      refine State.gantryCleared_refl hworks hreturned (resets _ fun e he => ?_) fun e _ he => ?_
      · obtain rfl := Option.some.inj (hf.symm.trans he)
        exact hsame
      · obtain rfl := Option.some.inj (hf.symm.trans he)
        simp [hsecond]
    | none =>
      let q : GantryRecord := { s.gantry g with fault := some { f with second := some ⟨.cellReset, s.clock⟩ } }
      have hq : s.setGantry g q = { s with gantries := s.gantries.set g q } := State.setGantry_of_same rfl rfl
      rw [if_pos rfl]
      show s.GantryCleared ((s.setGantry g q).latch .planner .gantryFaulted) g
      have hcleared := State.gantryCleared_record (q := q) (d := s.duties) hworks (resets q fun e he => by
        obtain rfl := Option.some.inj (hf.symm.trans he)
        rw [hsecond]
        rfl) (Or.inr rfl) (fun _ _ _ _ => rfl)
      rw [hreturned, List.append_nil] at hcleared
      rw [hq]
      exact hcleared

theorem State.gantryCleared_resetGantry (s : State) (g : Gantry) : s.GantryCleared (s.resetGantry g) g := by
  rcases (s.gantry g).works_or with h | h | h | h
  · rw [State.resetGantry_of_works h]
    exact State.gantryCleared_works h
  · have hidle : s.resetGantry g = s.idleByReset g := by
      unfold State.resetGantry
      rcases h.1 with hs | hs <;> simp only [hs] <;> rw [if_neg (by simp [h.2])]
    rw [hidle]
    exact State.gantryCleared_unladen h
  · have hsame : s.resetGantry g = s := by
      unfold State.resetGantry
      rcases h with hs | hs | hs <;> simp only [hs]
    rw [hsame]
    exact State.gantryCleared_stays h
  · have hagain : s.resetGantry g = s.secondCause g .cellReset := by
      unfold State.resetGantry
      simp only [h]
    rw [hagain]
    exact State.gantryCleared_faulted h
end

/-! ## Both gantries -/

/-- The slot that CELL_RESET makes suspect for a gantry, if it makes one (R118, R27). -/
def GantryRecord.Marks (r : GantryRecord) (m : Option Nat) : Prop := (r.Works → m = r.pickedSlot) ∧ (¬r.Works → m = none)

section
variable {s t u : State} {g : Gantry}

theorem State.GantryCleared.lastMarked (h : s.GantryCleared t g) {m : Option Nat} (hm : (s.gantry g).Marks m) :
    t.lastMarked = m.or s.lastMarked := by
  by_cases hw : (s.gantry g).Works
  · rw [(h.marked hw).1, hm.1 hw]
  · rw [(h.unmarked hw).1, hm.2 hw, Option.none_or]

theorem State.GantryCleared.flagged (h : s.GantryCleared t g) {m : Option Nat} (hm : (s.gantry g).Marks m) (hsome : m.isSome) :
    .suspectMarked ∈ (t.port .planner).flags := by
  by_cases hw : (s.gantry g).Works
  · exact (h.marked hw).2.1 (by rwa [← hm.1 hw])
  · rw [hm.2 hw] at hsome
    cases hsome

theorem State.GantryCleared.suspect (h : s.GantryCleared t g) {m : Option Nat} (hm : (s.gantry g).Marks m) {n : Nat}
    (hn : n < s.slots.length) : (t.slot n).suspect = true ↔ (s.slot n).suspect = true ∨ m = some n := by
  by_cases hw : (s.gantry g).Works
  · rw [(h.marked hw).2.2 n hn, hm.1 hw, Bool.or_eq_true, decide_eq_true_iff]
  · rw [(h.unmarked hw).2 n, hm.2 hw]
    simp

/-- What CELL_RESET leaves once it has taken the west gantry and then the east one. -/
structure State.GantriesCleared (s u : State) : Prop where
  eq : u = { s with
    gantries := u.gantries
    free := { s.free with returned := s.free.returned ++ (s.gantry .west).returned ++ (s.gantry .east).returned }
    slots := u.slots
    lastMarked := u.lastMarked
    ports := u.ports
    duties := u.duties }
  record : ∀ g, (s.gantry g).ResetTo (u.gantry g) s.clock
  stack : ∀ n, (u.slot n).stack = (s.slot n).stack
  planner : (s.port .planner).Latches (u.port .planner)
  faulted : ∀ g, (s.gantry g).Works → .gantryFaulted ∈ (u.port .planner).flags
  again : ∀ g f, (s.gantry g).state = .faulted → (s.gantry g).fault = some f → f.second = none →
    .gantryFaulted ∈ (u.port .planner).flags
  service : ∀ g, (s.gantry g).Works → (s.port (.gantry g)).withoutOrders.Latches (u.port (.gantry g)) ∧
    .serviceChanged ∈ (u.port (.gantry g)).flags
  own : ∀ g, ¬(s.gantry g).Works → u.port (.gantry g) = s.port (.gantry g)
  saws : ∀ w, u.port (.saw w) = s.port (.saw w)
  lastMarked : ∀ m : Gantry → Option Nat, (∀ g, (s.gantry g).Marks (m g)) →
    u.lastMarked = ((m .east).or (m .west)).or s.lastMarked
  flagged : ∀ m : Gantry → Option Nat, (∀ g, (s.gantry g).Marks (m g)) → (∃ g, (m g).isSome) →
    .suspectMarked ∈ (u.port .planner).flags
  suspect : ∀ m : Gantry → Option Nat, (∀ g, (s.gantry g).Marks (m g)) → ∀ n, n < s.slots.length →
    ((u.slot n).suspect = true ↔ (s.slot n).suspect = true ∨ ∃ g, m g = some n)

theorem State.GantryCleared.both (h : s.GantryCleared t .west) (k : t.GantryCleared u .east) : s.GantriesCleared u := by
  have heast : t.gantry .east = s.gantry .east := h.apart
  have hwest : u.gantry .west = t.gantry .west := k.apart
  have hpeast : t.port (.gantry .east) = s.port (.gantry .east) := h.other
  have hpwest : u.port (.gantry .west) = t.port (.gantry .west) := k.other
  have hclock : t.clock = s.clock := (congrArg State.clock h.eq :)
  have hfree : t.free = { s.free with returned := s.free.returned ++ (s.gantry .west).returned } := (congrArg State.free h.eq :)
  refine
    { eq := ?_
      record := both_gantries .west (by rw [hwest]; exact h.record) (by have := k.record; rwa [heast, hclock] at this)
      stack := fun n => (k.stack n).trans (h.stack n)
      planner := h.planner.trans k.planner
      faulted := both_gantries .west (fun hw => k.planner.kept _ (h.faulted hw)) (by have := k.faulted; rwa [heast] at this)
      again := both_gantries .west (fun f hs hf hn => k.planner.kept _ (h.again f hs hf hn)) (by have := k.again; rwa [heast] at this)
      service := both_gantries .west (by rw [hpwest]; exact h.service) (by have := k.service; rwa [heast, hpeast] at this)
      own := both_gantries .west (by rw [hpwest]; exact h.own) (by have := k.own; rwa [heast, hpeast] at this)
      saws := fun w => (k.saws w).trans (h.saws w)
      lastMarked := fun m hm => ?_
      flagged := fun m hm => ?_
      suspect := fun m hm n hn => ?_ }
  · have heq := k.eq
    rw [hfree, heast] at heq
    rw [heq, h.eq]
  · rw [k.lastMarked (by rw [heast]; exact hm .east), h.lastMarked (hm .west), Option.or_assoc]
  · rintro ⟨g, hg⟩
    cases g with
    | west => exact k.planner.kept _ (h.flagged (hm .west) hg)
    | east => exact k.flagged (by rw [heast]; exact hm .east) hg
  · rw [k.suspect (by rw [heast]; exact hm .east) (by rwa [h.length]), h.suspect (hm .west) hn, or_assoc]
    refine or_congr_right ⟨fun hor => ?_, fun ⟨g, hg⟩ => ?_⟩
    · rcases hor with hg | hg
      · exact ⟨_, hg⟩
      · exact ⟨_, hg⟩
    · cases g with
      | west => exact Or.inl hg
      | east => exact Or.inr hg
end

/-! ## The saws and the claims -/

section
variable (s : State) (w : Saw)

theorem State.resetSaw_saw (v : Saw) : (s.resetSaw v).saw w =
    if w = v then SawRecord.repaced { s.saw w with books := [], offers := [] } s.clock else s.saw w := by
  refine (State.setSaw_saw _ _ _ _).trans ?_
  split
  · next h => rw [h]
  · rfl

theorem State.resetSaw_port (v : Saw) (p : Port) : (s.resetSaw v).port p =
    if p = .saw v then (s.port (.saw v)).latch .resetSeen else s.port p := State.setPort_port _ _ _ _

theorem State.resetSaws_saw : s.resetSaws.saw w = SawRecord.repaced { s.saw w with books := [], offers := [] } s.clock := by
  have hclock (t : State) (v : Saw) : (t.resetSaw v).clock = t.clock := rfl
  cases w <;> simp [State.resetSaws, State.resetSaw_saw, hclock]

theorem State.resetSaws_port_saw : s.resetSaws.port (.saw w) = (s.port (.saw w)).latch .resetSeen := by
  cases w <;> simp [State.resetSaws, State.resetSaw_port]

theorem State.resetSaws_port {p : Port} (hp : ∀ w, p ≠ .saw w) : s.resetSaws.port p = s.port p := by
  simp [State.resetSaws, State.resetSaw_port, hp]

theorem State.resetClaims_slot (n : Nat) : s.resetClaims.slot n = { s.slot n with claim := none } := by
  have hslots : s.resetClaims.slots = s.slots.map fun r => { r with claim := none } := rfl
  rw [State.slot, State.slot, hslots, List.getD_eq_getElem?_getD, List.getD_eq_getElem?_getD, List.getElem?_map]
  cases s.slots[n]? <;> rfl
end

/-! ## The answer -/

theorem State.exec_cellReset {s v : State} (h : s.Ready .planner ⟨0x0F, [9]⟩ 1) (hv : (s.taken .planner).cellReset = v)
    (hd : v.duties = .none) (hqueue : (v.port .planner).outbound = (s.port .planner).outbound) :
    exec (.cellReset .planner) s = .next (v.setPort .planner
      (PortRecord.wake { v.port .planner with outbound := (v.port .planner).outbound ++ acceptedCommand.frames .planner })) := by
  have hcheck : Message.cellCommand.check .planner [BitVec.ofNat 16 CellCommand.cellReset.number] = none := by decide
  have hhandle : (s.taken .planner).handleCommand .cellReset .planner (fun t => (t.cellReset, acceptedCommand)) =
      (v, acceptedCommand) := by
    simp only [State.handleCommand, hcheck, CellCommand.accepts, if_true, hv]
  show Host.Outcome.next (s.command .cellReset .planner fun t => (t.cellReset, acceptedCommand)) = _
  rw [State.command, State.process_ready (by rw [hhandle]; exact h), hhandle, State.settle_of_quiet v hd,
    State.placeReply_room (by rw [hqueue]; exact h.room)]

/-- The state in which CELL_RESET takes the gantries. -/
def State.resetting (s : State) : State := (s.taken .planner).setCell s.cell.afterReset

section
variable (s : State)

theorem State.resetting_gantry (g : Gantry) : s.resetting.gantry g = s.gantry g := rfl

theorem State.resetting_slot (n : Nat) : s.resetting.slot n = s.slot n := rfl

theorem State.resetting_port {p : Port} (hp : p ≠ .planner) : s.resetting.port p = s.port p :=
  (State.setPort_port _ _ _ _).trans (if_neg hp)

theorem State.resetting_planner :
    s.resetting.port .planner = { s.port .planner with inbound := (s.port .planner).inbound.tail } :=
  State.setPort_port_same s .planner _

end

/-- Nothing but the saws and the ports differs. -/
def State.SawsDiffer (s t : State) : Prop := t = { s with saws := t.saws, ports := t.ports }

theorem State.SawsDiffer.trans {s t u : State} (h : s.SawsDiffer t) (k : t.SawsDiffer u) : s.SawsDiffer u :=
  calc u = { t with saws := u.saws, ports := u.ports } := k
    _ = { s with saws := u.saws, ports := u.ports } := by rw [h]

theorem State.resetSaw_differs (s : State) (w : Saw) : s.SawsDiffer (s.resetSaw w) := rfl

theorem State.resetSaws_differs (s : State) : s.SawsDiffer s.resetSaws :=
  (((s.resetSaw_differs _).trans (State.resetSaw_differs _ _)).trans (State.resetSaw_differs _ _)).trans (State.resetSaw_differs _ _)

theorem State.resetClaims_eq (s : State) : s.resetClaims =
    { s with
      slots := s.resetClaims.slots
      locator := List.replicate 32 (List.replicate 4 .invalid)
      pinMode := false
      duties := .none } := rfl

theorem State.resetClaims_port (s : State) (p : Port) : s.resetClaims.port p = s.port p :=
  (congrArg (fun t => t.port p) s.resetClaims_eq :)

theorem State.resetClaims_saw (s : State) (w : Saw) : s.resetClaims.saw w = s.saw w :=
  (congrArg (fun t => t.saw w) s.resetClaims_eq :)

/-- What CELL_RESET leaves: what the gantries leave, the saws and the claims reset, and the answer on the planner's port. -/
structure State.CellCleared (s u t : State) : Prop where
  eq : t = { s with
    cell := s.cell.afterReset
    gantries := u.gantries
    free := { s.free with returned := s.free.returned ++ (s.gantry .west).returned ++ (s.gantry .east).returned }
    slots := t.slots
    lastMarked := u.lastMarked
    saws := t.saws
    ports := t.ports
    locator := List.replicate 32 (List.replicate 4 .invalid)
    pinMode := false
    duties := .none }
  slot : ∀ n, t.slot n = { u.slot n with claim := none }
  saw : ∀ w, t.saw w = SawRecord.repaced { s.saw w with books := [], offers := [] } s.clock
  planner : t.port .planner = PortRecord.wake { s.port .planner with
    inbound := (s.port .planner).inbound.tail
    outbound := (s.port .planner).outbound ++ [⟨.reply (.accepted 0x0F 0 none), 1, 1⟩]
    flags := (u.port .planner).flags
    attention := (u.port .planner).attention }
  gantries : ∀ g, t.port (.gantry g) = u.port (.gantry g)
  saws : ∀ w, t.port (.saw w) = (s.port (.saw w)).latch .resetSeen

theorem State.exec_cellReset_cleared {s : State} (h : s.Ready .planner ⟨0x0F, [9]⟩ 1) :
    ∃ u t, s.resetting.GantriesCleared u ∧ s.CellCleared u t ∧ exec (.cellReset .planner) s = .next t := by
  obtain ⟨u, hu⟩ : ∃ u, u = (s.resetting.resetGantry .west).resetGantry .east := ⟨_, rfl⟩
  have hcleared : s.resetting.GantriesCleared u := by
    rw [hu]
    exact (s.resetting.gantryCleared_resetGantry .west).both (State.gantryCleared_resetGantry _ .east)
  have hreset : (s.taken .planner).cellReset = u.resetSaws.resetClaims := by
    rw [State.cellReset_eq, hu]
    rfl
  have hsaws : u.saws = s.saws := (congrArg State.saws hcleared.eq :)
  have hclock : u.clock = s.clock := (congrArg State.clock hcleared.eq :)
  have hplanner : u.resetSaws.resetClaims.port .planner = u.port .planner := by
    rw [State.resetClaims_port, State.resetSaws_port _ fun _ => Port.noConfusion]
  have hlatched : u.port .planner = _ := hcleared.planner.eq
  rw [State.resetting_planner] at hlatched
  have hqueue : (u.resetSaws.resetClaims.port .planner).outbound = (s.port .planner).outbound := by
    rw [hplanner, hlatched]
  have hgantries (g : Gantry) : u.resetSaws.resetClaims.port (.gantry g) = u.port (.gantry g) := by
    rw [State.resetClaims_port, State.resetSaws_port _ fun _ => Port.noConfusion]
  have hlatchedSaw (w : Saw) : u.resetSaws.resetClaims.port (.saw w) = (s.port (.saw w)).latch .resetSeen := by
    rw [State.resetClaims_port, State.resetSaws_port_saw, hcleared.saws, State.resetting_port _ (by simp)]
  have hsaw (w : Saw) : u.resetSaws.resetClaims.saw w = SawRecord.repaced { s.saw w with books := [], offers := [] } s.clock := by
    rw [State.resetClaims_saw, State.resetSaws_saw, hclock, State.saw, hsaws, State.saw]
  have hslot (n : Nat) : u.resetSaws.resetClaims.slot n = { u.slot n with claim := none } := by
    have hslots : u.resetSaws.slots = u.slots := (congrArg State.slots u.resetSaws_differs :)
    rw [State.resetClaims_slot, State.slot_of_slots hslots]
  have hclaims := u.resetSaws.resetClaims_eq
  have hdiffer : u.resetSaws = { u with saws := u.resetSaws.saws, ports := u.resetSaws.ports } := u.resetSaws_differs
  have hduties : u.resetSaws.resetClaims.duties = .none := rfl
  generalize u.resetSaws.resetClaims = v at *
  generalize u.resetSaws = a at *
  have hframe : v = { s with
      cell := s.cell.afterReset
      gantries := u.gantries
      free := { s.free with returned := s.free.returned ++ (s.gantry .west).returned ++ (s.gantry .east).returned }
      slots := v.slots
      lastMarked := u.lastMarked
      saws := v.saws
      ports := v.ports
      locator := List.replicate 32 (List.replicate 4 .invalid)
      pinMode := false
      duties := .none } := by
    rw [hclaims, hdiffer, hcleared.eq]
    rfl
  refine ⟨u, _, hcleared, ?_, State.exec_cellReset h hreset hduties hqueue⟩
  refine ⟨?_, hslot, hsaw, ?_, fun g => ?_, fun w => ?_⟩
  · exact congrArg (fun t : State => { t with ports := v.ports.set .planner (PortRecord.wake { v.port .planner with
      outbound := (v.port .planner).outbound ++ acceptedCommand.frames .planner }) }) hframe
  · rw [State.setPort_port_same, hplanner, hlatched]
    rfl
  · rw [State.setPort_port, if_neg (by simp), hgantries]
  · rw [State.setPort_port, if_neg (by simp), hlatchedSaw]

/-- Settles O59: both gantries, the saws and the claims are reset, and the planner's port answers. -/
theorem cellResetEndsWork : Obligations.CellResetEndsWork := by
  intro s h works prepares bound marked queues
  obtain ⟨u, t, hu, ht, hrun⟩ := State.exec_cellReset_cleared h
  have hframe := ht.eq
  have hplanner := ht.planner.trans (PortRecord.wake_eq _)
  have hgantry (g : Gantry) : t.gantry g = u.gantry g := (congrArg (fun t => t.gantry g) hframe :)
  have hflags : (t.port .planner).flags = (u.port .planner).flags := (congrArg PortRecord.flags hplanner :)
  have hmarks (g : Gantry) : (s.gantry g).Marks (marked g) := ⟨fun hw => if_pos hw, fun hw => if_neg hw⟩
  have hbound (g : Gantry) : bound g = (s.gantry g).returned := by
    dsimp only [bound]
    unfold GantryRecord.returned
    cases (s.gantry g).state <;> rfl
  have hservice (g : Gantry) (hw : works g) : (s.port (.gantry g)).withoutOrders.Latches (t.port (.gantry g)) ∧
      .serviceChanged ∈ (t.port (.gantry g)).flags := by
    have := hu.service g hw
    rwa [State.resetting_port _ (by simp), ← ht.gantries] at this
  have hown (g : Gantry) (hw : ¬works g) : t.port (.gantry g) = s.port (.gantry g) := by
    rw [ht.gantries, hu.own g hw, State.resetting_port _ (by simp)]
  have hrecord (g : Gantry) : (s.gantry g).ResetTo (t.gantry g) s.clock := by
    rw [hgantry]
    exact hu.record g
  refine ⟨t, hrun, (congrArg State.cell hframe :), (congrArg State.layout hframe :), (congrArg State.clock hframe :),
    (congrArg State.loader hframe :), (congrArg State.memory hframe :), (congrArg State.kinds hframe :),
    (congrArg State.windows hframe :), (congrArg State.serialCounter hframe :), (congrArg State.pointer hframe :),
    (congrArg State.duties hframe :), (congrArg State.pinMode hframe :), (congrArg State.locator hframe :),
    ⟨(congrArg State.verifiedHits hframe :), (congrArg State.failedHits hframe :), (congrArg State.misses hframe :)⟩,
    fun n => ⟨?_, ?_, fun hn => ?_⟩, ?_, fun hsome => ?_, ?_, ?_, ?_, fun w => ⟨?_, ?_⟩, fun g => ?_, ?_,
    fun w => ⟨?_, ?_, ?_⟩, fun g => ⟨fun hw => ⟨?_, ?_, ?_⟩, fun hp => ?_, fun hs => ?_, fun f hs hf => ⟨fun hnone => ?_, ?_⟩⟩⟩
  · rw [ht.slot]
    exact hu.stack n
  · rw [ht.slot]
  · rw [ht.slot]
    exact hu.suspect marked hmarks n hn
  · exact (congrArg State.lastMarked hframe :).trans (hu.lastMarked marked hmarks)
  · rw [hflags]
    exact hu.flagged marked hmarks hsome
  · exact (congrArg PortRecord.outbound hplanner :)
  · exact (congrArg PortRecord.inbound hplanner :)
  · exact (congrArg PortRecord.pushedWaiting hplanner :)
  · rw [ht.saws]
    rfl
  · rw [ht.saws]
    rfl
  · by_cases hw : works g
    · rw [if_pos hw, (hservice g hw).1.eq]
      exact ⟨rfl, rfl⟩
    · rw [if_neg hw, hown g hw]
      exact ⟨rfl, rfl⟩
  · rw [hbound, hbound]
    exact (congrArg State.free hframe :)
  · rw [ht.saw]
    rfl
  · rw [ht.saws]
    exact PortRecord.mem_latch _ _
  · rw [ht.saws]
    rfl
  · rw [hflags]
    exact hu.faulted g hw
  · exact (hservice g hw).2
  · exact (hrecord g).works hw
  · exact (hrecord g).unladen hp
  · exact (hrecord g).stays hs
  · rw [hflags]
    exact hu.again g f hs hf hnone
  · exact (hrecord g).again f hs hf

end Sys2Proof.Machine
end

section
/-! PROOFS. STEP_DONE (R105 to R107): the panel moves as the step and its outcome say (R33 to R35), and what follows moves none. -/

namespace Sys2Proof.Machine

/-! ## What the consequences of a completion leave -/

theorem GantryRecord.HoldsAs.trans {r q p : GantryRecord} (h : r.HoldsAs q) (k : q.HoldsAs p) : r.HoldsAs p :=
  ⟨⟨h.stands.position.trans k.stands.position, h.stands.direction.trans k.stands.direction,
    h.stands.completion.trans k.stands.completion, h.stands.outcome.trans k.stands.outcome, h.stands.steps.trans k.stands.steps⟩,
    h.carried.trans k.carried, h.material.trans k.material⟩

theorem SawRecord.KeepsAs.trans {r q p : SawRecord} (h : r.KeepsAs q) (k : q.KeepsAs p) : r.KeepsAs p :=
  ⟨h.settings.trans k.settings, h.table.trans k.table, h.taken.trans k.taken, h.placed.trans k.placed, h.extra.trans k.extra⟩

/-- No panel moves, no gantry's report and no saw's count changes, and no suspect mark is lost. -/
structure State.Rests (s t : State) : Prop where
  holds : ∀ g, (t.gantry g).HoldsAs (s.gantry g)
  keeps : ∀ w, (t.saw w).KeepsAs (s.saw w)
  piles : s.SamePiles t
  suspects : ∀ n, (s.slot n).suspect = true → (t.slot n).suspect = true

theorem State.Rests.refl (s : State) : s.Rests s :=
  ⟨fun _ => ⟨⟨rfl, rfl, rfl, rfl, rfl⟩, rfl, rfl⟩, fun _ => ⟨rfl, rfl, rfl, rfl, rfl⟩, fun _ => rfl, fun _ h => h⟩

/-- The updates of slots that leave the stack and no mark off. -/
theorem State.Rests.setSlot {s t : State} (h : s.Rests t) {n : Nat} {r : Slot} (hstack : r.stack = (t.slot n).stack)
    (hsuspect : (t.slot n).suspect = true → r.suspect = true) : s.Rests (t.setSlot n r) := by
  refine ⟨h.holds, h.keeps, fun m => (t.setSlot_keeps Slot.stack hstack m).trans (h.piles m), fun m hm => ?_⟩
  have hmarked := h.suspects m hm
  by_cases hmn : m = n
  · subst hmn
    rw [State.slot_setSlot]
    split
    · exact hsuspect hmarked
    · next hlen =>
      rw [State.slot_of_length_le (Nat.not_lt.mp hlen)] at hmarked
      exact hmarked
  · rwa [State.slot_setSlot_of_ne _ _ hmn]

theorem State.rests_closed (s : State) : Closed s.Rests where
  gantry t g r hr h := by
    refine ⟨both_gantries g ?_ ?_, h.keeps, h.piles, h.suspects⟩
    · rw [State.setGantry_gantry_same]
      exact hr.trans (h.holds g)
    · rw [State.setGantry_gantry_other]
      exact h.holds _
  saw t w r hr h := by
    refine ⟨h.holds, fun v => ?_, h.piles, h.suspects⟩
    rw [State.setSaw_saw]
    split
    · next hv => exact hv ▸ hr.trans (h.keeps w)
    · exact h.keeps v
  push _ _ _ h := ⟨h.holds, h.keeps, h.piles, h.suspects⟩
  latch _ _ _ h := ⟨h.holds, h.keeps, h.piles, h.suspects⟩
  duties _ _ h := ⟨h.holds, h.keeps, h.piles, h.suspects⟩
  freeNext _ _ h := ⟨h.holds, h.keeps, h.piles, h.suspects⟩
  pointer _ _ h := ⟨h.holds, h.keeps, h.piles, h.suspects⟩
  free _ _ h := ⟨h.holds, h.keeps, h.piles, h.suspects⟩
  serial _ _ h := ⟨h.holds, h.keeps, h.piles, h.suspects⟩
  search t g w e h := by
    rw [t.locatorStep_differs g w e]
    exact ⟨h.holds, h.keeps, h.piles, h.suspects⟩
  claim t n g k h := by
    unfold State.claim
    split
    · exact h.setSlot rfl id
    · exact h
  unclaim t n h := h.setSlot rfl id
  suspect t n h _ := by
    have hset := h.setSlot (n := n) (r := { t.slot n with suspect := true }) rfl fun _ => rfl
    exact ⟨hset.holds, hset.keeps, hset.piles, hset.suspects⟩

/-! ## The move of the panel -/

section
variable (s : State) (g : Gantry) (w : Saw) (n : Nat)

/-- The top panel of a slot is on the head (R33). -/
def State.toppedOff : State :=
  match (s.slot n).top with
  | some p => (s.takeOnHead g p).unlay n 1
  | none => s

/-- The offcut of an offer is on the head (R35). -/
def State.offcutTaken : State :=
  match s.offerOf g w, (s.gantry g).task.bind Task.blank, (s.gantry g).task.bind Task.destination with
  | some o, some r, some _ => s.giveSerial.takeOnHead g (s.offcut r o)
  | _, _, _ => s

/-- The panel on the head has been placed on a saw's table (R35). -/
def State.panelPlaced : State :=
  match (s.gantry g).carried with
  | some p => s.placePanel g w p
  | none => s

/-- The panel on the head lies on top of a slot (R34). -/
def State.panelLaid : State :=
  match (s.gantry g).carried with
  | some p => (s.setGantry g { s.gantry g with carried := none }).lay n p
  | none => s

/-- The state in which a completed step has moved its panel, or has marked its slot suspect, and nothing else has followed
(R33 to R35, R156, R164). -/
def State.panelMoved (step : Step) (ok : Bool) : State :=
  match step.kind, step.slot, step.saw, ok with
  | .travelPick, some n, _, true => s.toppedOff g n
  | .travelPick, some n, _, false => s.markSuspect n
  | .travelPick, none, some w, true => s.offcutTaken g w
  | .place, _, some w, true => s.panelPlaced g w
  | .travelPut, some n, _, true => s.panelLaid g n
  | .travelPut, some n, _, false => s.markSuspect n
  | _, _, _, _ => s

theorem State.toppedOff_some {p : Panel} (h : (s.slot n).top = some p) : s.toppedOff g n = (s.takeOnHead g p).unlay n 1 := by
  rw [State.toppedOff, h]

theorem State.offcutTaken_some {o : Offer} {r m : Nat} (ho : s.offerOf g w = some o) (hr : (s.gantry g).task.bind Task.blank = some r)
    (hm : (s.gantry g).task.bind Task.destination = some m) :
    s.offcutTaken g w = s.giveSerial.takeOnHead g (s.offcut r o) := by
  rw [State.offcutTaken, ho, hr, hm]

theorem State.panelPlaced_some {p : Panel} (h : (s.gantry g).carried = some p) : s.panelPlaced g w = s.placePanel g w p := by
  rw [State.panelPlaced, h]

theorem State.panelLaid_some {p : Panel} (h : (s.gantry g).carried = some p) :
    s.panelLaid g n = (s.setGantry g { s.gantry g with carried := none }).lay n p := by
  rw [State.panelLaid, h]

/-! ## What follows the move -/

theorem State.rests_pickOk : (s.toppedOff g n).Rests (s.pickOk g w n) := by
  have hpanel : (s.toppedOff g n).Rests (s.pickPanel g n) := by
    unfold State.toppedOff State.pickPanel
    cases (s.slot n).top with
    | some p => exact (State.rests_closed _).releaseClaim (State.Rests.refl _) n
    | none => exact (State.rests_closed _).releaseClaim (State.Rests.refl _) n
  have closed := (s.toppedOff g n).rests_closed
  unfold State.pickOk
  split
  · exact closed.endBook hpanel _ _
  · exact closed.handOver (closed.gantry _ _ _ (by exact ⟨⟨rfl, rfl, rfl, rfl, rfl⟩, rfl, rfl⟩) hpanel) _ _

theorem State.rests_pickMiss : (s.markSuspect n).Rests (s.pickMiss g n) := by
  have closed := (s.markSuspect n).rests_closed
  have hnoted := closed.updateBookAt (State.Rests.refl _) g fun b => b.noteFault .pickMiss b.lift
  unfold State.pickMiss
  dsimp only
  split
  · exact closed.endBook hnoted _ _
  · split
    · exact closed.endBook hnoted _ _
    · exact closed.startLift (closed.updateBookAt hnoted _ _) _

theorem State.rests_pickupOk : (s.offcutTaken g w).Rests (s.pickupOk g w) := by
  unfold State.offcutTaken State.pickupOk
  cases s.offerOf g w with
  | none => exact State.Rests.refl s
  | some o => cases (s.gantry g).task.bind Task.blank with
    | none => exact State.Rests.refl s
    | some r => cases (s.gantry g).task.bind Task.destination with
      | none => exact State.Rests.refl s
      | some m =>
        have closed := (s.giveSerial.takeOnHead g (s.offcut r o)).rests_closed
        exact closed.handOver
          (closed.gantry _ _ _ (by exact ⟨⟨rfl, rfl, rfl, rfl, rfl⟩, rfl, rfl⟩) (State.Rests.refl _)) _ _

theorem State.rests_placeOk : (s.panelPlaced g w).Rests (s.placeOk g w) := by
  unfold State.panelPlaced State.placeOk
  cases (s.gantry g).carried with
  | none => exact State.Rests.refl s
  | some p =>
    have closed := (s.placePanel g w p).rests_closed
    have hplaced := State.Rests.refl (s.placePanel g w p)
    dsimp only
    split
    · exact closed.endBook hplaced _ _
    · split
      · exact closed.startLift
          (closed.gantry _ _ _ (by exact ⟨⟨rfl, rfl, rfl, rfl, rfl⟩, rfl, rfl⟩) (closed.updateBookAt hplaced _ _)) _
      · unfold State.finishBook
        split
        · exact closed.becomeIdle (closed.releaseBook hplaced _ _) _
        · exact hplaced

theorem State.rests_putOk : (s.panelLaid g n).Rests (s.putOk g n) := by
  unfold State.panelLaid State.putOk
  cases (s.gantry g).carried with
  | none => exact State.Rests.refl s
  | some p =>
    have closed := ((s.setGantry g { s.gantry g with carried := none }).lay n p).rests_closed
    have hreleased := closed.releaseClaim (State.Rests.refl _) n
    refine closed.becomeIdle ?_ g
    unfold State.putEnds
    split
    · exact closed.endOffer hreleased _ _ _ _ _ _
    · exact hreleased

theorem State.rests_putFail : (s.markSuspect n).Rests (s.putFail g n) := by
  have closed := (s.markSuspect n).rests_closed
  unfold State.putFail
  split
  · exact closed.seekPut (closed.gantry _ _ _ (by exact ⟨⟨rfl, rfl, rfl, rfl, rfl⟩, rfl, rfl⟩) (State.Rests.refl _)) g
  · exact closed.strand (State.Rests.refl _) g

/-- What follows a completed step moves no panel. -/
theorem State.rests_stepCompleted (step : Step) (ok : Bool) : (s.panelMoved g step ok).Rests (s.stepCompleted g step ok) := by
  have closed := s.rests_closed
  have hs := State.Rests.refl s
  obtain ⟨kind, -, slot, saw, -, -⟩ := step
  cases kind with
  | travelPick => cases slot with
    | some n => cases ok with
      | true => exact s.rests_pickOk g _ n
      | false => exact s.rests_pickMiss g n
    | none => cases saw with
      | none => cases ok <;> exact hs
      | some w => cases ok with
        | true => exact s.rests_pickupOk g w
        | false => exact closed.discardPickup hs _ _ _
  | travelHover => cases saw with
    | none => exact hs
    | some w => exact closed.hoverDone hs _ _
  | place => cases saw with
    | none => exact hs
    | some w => cases ok with
      | true => exact s.rests_placeOk g w
      | false => exact closed.endBook hs _ _
  | travelPut => cases slot with
    | none => exact hs
    | some n => cases ok with
      | true => exact s.rests_putOk g n
      | false => exact s.rests_putFail g n
  | travelOnly => exact closed.yieldDone hs _

/-! ## The gantries in the move -/

/-- The gantry's report stands, and the other gantry's record is the same. -/
structure State.MovesAt (s t : State) (g : Gantry) : Prop where
  stands : (t.gantry g).StandsAs (s.gantry g)
  other : t.gantry (otherGantry g) = s.gantry (otherGantry g)

theorem State.MovesAt.refl : s.MovesAt s g := ⟨⟨rfl, rfl, rfl, rfl, rfl⟩, rfl⟩

theorem State.movesAt_of_gantries {t : State} (h : ∀ k, t.gantry k = s.gantry k) : s.MovesAt t g :=
  ⟨by rw [h]; exact ⟨rfl, rfl, rfl, rfl, rfl⟩, h _⟩

theorem State.movesAt_setGantry {r : GantryRecord} (hr : r.StandsAs (s.gantry g)) : s.MovesAt (s.setGantry g r) g :=
  ⟨by rw [State.setGantry_gantry_same]; exact hr, State.setGantry_gantry_other _ _ _⟩

theorem State.movesAt_markSuspect : s.MovesAt (s.markSuspect n) g :=
  s.movesAt_of_gantries g fun k => s.markSuspectOpt_gantry (some n) k

theorem State.movesAt_takeOnHead (p : Panel) : s.MovesAt (s.takeOnHead g p) g :=
  s.movesAt_setGantry g (r := { s.gantry g with carried := some p, lastMaterial := some (s.material p.kind) })
    ⟨rfl, rfl, rfl, rfl, rfl⟩

theorem State.movesAt_emptyHead : s.MovesAt (s.setGantry g { s.gantry g with carried := none }) g :=
  s.movesAt_setGantry g (r := { s.gantry g with carried := none }) ⟨rfl, rfl, rfl, rfl, rfl⟩

theorem State.placePanel_gantry (p : Panel) (k : Gantry) :
    (s.placePanel g w p).gantry k = (s.setGantry g { s.gantry g with carried := none }).gantry k :=
  State.updateBookAt_gantry ((s.freeRecord p.record).setGantry g { s.gantry g with carried := none }) g _ k

theorem State.movesAt_panelMoved (step : Step) (ok : Bool) : s.MovesAt (s.panelMoved g step ok) g := by
  have hs : s.MovesAt s g := State.MovesAt.refl s g
  obtain ⟨kind, -, slot, saw, -, -⟩ := step
  have hpick (n : Nat) : s.MovesAt (s.toppedOff g n) g := by
    unfold State.toppedOff
    split
    · next p _ => exact ⟨(s.movesAt_takeOnHead g p).stands, (s.movesAt_takeOnHead g p).other⟩
    · exact hs
  have hoffcut (w : Saw) : s.MovesAt (s.offcutTaken g w) g := by
    unfold State.offcutTaken
    split
    · exact ⟨(s.giveSerial.movesAt_takeOnHead g _).stands, (s.giveSerial.movesAt_takeOnHead g _).other⟩
    · exact hs
  have hplace (w : Saw) : s.MovesAt (s.panelPlaced g w) g := by
    unfold State.panelPlaced
    split
    · have hempty := s.movesAt_emptyHead g
      exact ⟨by rw [State.placePanel_gantry]; exact hempty.stands, by rw [State.placePanel_gantry]; exact hempty.other⟩
    · exact hs
  have hlay (n : Nat) : s.MovesAt (s.panelLaid g n) g := by
    unfold State.panelLaid
    split
    · exact ⟨(s.movesAt_emptyHead g).stands, (s.movesAt_emptyHead g).other⟩
    · exact hs
  cases kind with
  | travelPick => cases slot with
    | some n => cases ok with
      | true => exact hpick n
      | false => exact s.movesAt_markSuspect g n
    | none => cases saw with
      | none => cases ok <;> exact hs
      | some w => cases ok with
        | true => exact hoffcut w
        | false => exact hs
  | place => cases saw with
    | none => exact hs
    | some w => cases ok with
      | true => exact hplace w
      | false => exact hs
  | travelPut => cases slot with
    | none => exact hs
    | some n => cases ok with
      | true => exact hlay n
      | false => exact s.movesAt_markSuspect g n
  | travelHover | travelOnly => exact hs

/-! ## The slots in the move -/

theorem State.unlay_stack (k m : Nat) : ((s.unlay n k).slot m).stack =
    if m = n then (s.slot n).stack.take ((s.slot n).stack.length - k) else (s.slot m).stack := by
  unfold State.unlay
  by_cases hm : m = n
  · subst hm
    rw [if_pos rfl, State.slot_setSlot]
    split
    · rfl
    · next hlen =>
      rw [State.slot_of_length_le (Nat.not_lt.mp hlen)]
      exact List.take_nil.symm
  · rw [if_neg hm, State.slot_setSlot_of_ne _ _ hm]

theorem State.lay_stack {n : Nat} (hn : n < s.slots.length) (p : Panel) (m : Nat) : ((s.lay n p).slot m).stack =
    if m = n then (s.slot n).stack ++ [p] else (s.slot m).stack := by
  unfold State.lay
  by_cases hm : m = n
  · subst hm
    rw [if_pos rfl, State.slot_setSlot, if_pos hn]
  · rw [if_neg hm, State.slot_setSlot_of_ne _ _ hm]

theorem State.markSuspect_stack (m : Nat) : ((s.markSuspect n).slot m).stack = (s.slot m).stack := by
  rw [State.markSuspect_slot]
  split <;> rfl

theorem State.markSuspect_suspect {n : Nat} (hn : n < s.slots.length) : ((s.markSuspect n).slot n).suspect = true := by
  rw [State.markSuspect_slot, if_pos ⟨rfl, hn⟩]

theorem State.rests_updateBookAt (f : Book → Book) : s.Rests (s.updateBookAt g f) :=
  s.rests_closed.updateBookAt (State.Rests.refl s) g f

/-- What a PLACE that completes OK leaves of the stacks and of the saw's count (R35, R158). -/
theorem State.placePanel_stack (p : Panel) (m : Nat) : ((s.placePanel g w p).slot m).stack = (s.slot m).stack :=
  (State.rests_updateBookAt ((s.freeRecord p.record).setGantry g { s.gantry g with carried := none }) g _).piles m

theorem State.placePanel_placed (p : Panel) : ((s.placePanel g w p).saw w).panelsPlaced = (s.saw w).panelsPlaced.step := by
  refine (congrArg SawRecord.panelsPlaced (State.setSaw_saw_same _ _ _)).trans (congrArg Counter.step ?_)
  exact ((State.rests_updateBookAt ((s.freeRecord p.record).setGantry g { s.gantry g with carried := none }) g _).keeps w).placed

/-! ## The moves, one by one -/

variable {step : Step}

theorem State.panelMoved_pick {n : Nat} (hk : step.kind = .travelPick) (hs : step.slot = some n) :
    s.panelMoved g step true = s.toppedOff g n ∧ s.panelMoved g step false = s.markSuspect n := by
  simp only [State.panelMoved, hk, hs, and_self]

theorem State.panelMoved_pickup {w : Saw} (hk : step.kind = .travelPick) (hs : step.slot = none) (hw : step.saw = some w) :
    s.panelMoved g step true = s.offcutTaken g w := by
  simp only [State.panelMoved, hk, hs, hw]

theorem State.panelMoved_place {w : Saw} (hk : step.kind = .place) (hw : step.saw = some w) :
    s.panelMoved g step true = s.panelPlaced g w := by
  simp only [State.panelMoved, hk, hw]

theorem State.panelMoved_place_failed (hk : step.kind = .place) : s.panelMoved g step false = s := by
  obtain ⟨kind, _, _, saw, _, _⟩ := step
  obtain rfl : kind = .place := hk
  cases saw <;> rfl

theorem State.panelMoved_put {n : Nat} (hk : step.kind = .travelPut) (hs : step.slot = some n) :
    s.panelMoved g step true = s.panelLaid g n ∧ s.panelMoved g step false = s.markSuspect n := by
  simp only [State.panelMoved, hk, hs, and_self]

theorem State.panelMoved_travel (hk : step.kind = .travelHover ∨ step.kind = .travelOnly) (ok : Bool) :
    s.panelMoved g step ok = s := by
  rcases hk with hk | hk <;> simp only [State.panelMoved, hk]
end

/-! ## The serial of an offcut -/

theorem State.findSerial_congr {s t : State} (h : t.livePanels = s.livePanels) (fuel n : Nat) :
    t.findSerial fuel n = s.findSerial fuel n := by
  induction fuel generalizing n with
  | zero => rfl
  | succ fuel ih => rw [State.findSerial, State.findSerial, State.serialLive, State.serialLive, h, ih]

theorem State.serialToGive_congr {s t : State} (h : t.livePanels = s.livePanels) (hc : t.serialCounter = s.serialCounter) :
    t.serialToGive = s.serialToGive := by
  rw [State.serialToGive, State.serialToGive, hc, State.findSerial_congr h]

theorem State.reported_serialToGive (s : State) (g : Gantry) (c : Step) (v : Span) (x : Nat) (o : StepOutcome) (d : Duties) :
    (s.reported g c v x o d).serialToGive = s.serialToGive := by
  have hpanels (k : Gantry) : ((s.reported g c v x o d).gantry k).panels = (s.gantry k).panels :=
    both_gantries (P := fun k => ((s.reported g c v x o d).gantry k).panels = (s.gantry k).panels) g
      (by rw [State.reported_gantry]; rfl) (by rw [State.reported_other]) k
  have hlive : (s.reported g c v x o d).livePanels = s.livePanels :=
    congrArg₂ (fun a b => s.slots.flatMap Slot.stack ++ a ++ b) (hpanels .west) (hpanels .east)
  exact State.serialToGive_congr hlive rfl

/-! ## STEP_DONE -/

theorem stepOutcomeOf_eq_ok {n : Nat} : stepOutcomeOf n = .ok ↔ n = 0 := by
  rcases n with _ | _ | _ | n <;> simp [stepOutcomeOf]

/-- An accepted STEP_DONE within the granted span: the panel moves, and what follows rests. -/
theorem State.exec_stepDone_moves {s : State} {g : Gantry} {k x d : Word} {c : Step} {i : Issued} (hn : s.cell ≠ .noLayout)
    (hd : d.toNat ≤ 3) (h : s.Ready (.gantry g) ⟨0x32, [k, x, d]⟩ 1) (hs : (s.gantry g).state = .stepping)
    (hc : (s.gantry g).current = some c) (hi : c.issued = some i) (hk : i.token.toNat = k.toNat) (hlo : i.span.lo ≤ x.toNat)
    (hhi : x.toNat ≤ i.span.hi) :
    ∃ t e, exec (.stepDone (.gantry g) [k, x, d]) s = .next t ∧
      (((s.taken (.gantry g)).reported g c i.span x.toNat (stepOutcomeOf d.toNat) e).panelMoved g c (decide (d.toNat = 0))).Rests t := by
  obtain ⟨u, hu⟩ : ∃ u, u = s.taken (.gantry g) := ⟨_, rfl⟩
  have hout : (u.gantry g).outstanding (word [k, x, d] 0) = some (c, i.span) := by
    have hgantry : u.gantry g = s.gantry g := by rw [hu]; rfl
    simp [GantryRecord.outstanding, hgantry, hs, hc, hi, word, hk]
  obtain ⟨e, -, he⟩ := State.acceptStep_reported (s := u) (g := g) (c := c) (v := i.span) (x := x.toNat) (by rw [hu]; exact h.settled)
    (by simp [Span.holds, hlo, hhi]) (stepOutcomeOf d.toNat)
  have hok : decide (stepOutcomeOf d.toNat = .ok) = decide (d.toNat = 0) := by simp only [stepOutcomeOf_eq_ok]
  rw [hok] at he
  have hbody : u.stepDone g [k, x, d] =
      ((u.reported g c i.span x.toNat (stepOutcomeOf d.toNat) e).stepCompleted g c (decide (d.toNat = 0)), acceptedReply .stepDone) := by
    rw [← he, State.stepDone, hout]
    rfl
  have hhandle : u.handleMessage .stepDone (.gantry g) [k, x, d] (fun t => t.stepDone g [k, x, d]) = u.stepDone g [k, x, d] := by
    have hcheck := stepDone_check g k x d hd
    have hcell : u.cell = s.cell := by rw [hu]; rfl
    have haccepts : Message.stepDone.accepts u.cell = true := by
      rw [hcell]
      simpa [Message.accepts] using hn
    simp only [State.handleMessage, hcheck, haccepts, if_true]
  have hrests := State.rests_stepCompleted (u.reported g c i.span x.toNat (stepOutcomeOf d.toNat) e) g c (decide (d.toNat = 0))
  have hsettled := (State.rests_closed _).settle hrests
  refine ⟨_, e, rfl, ?_⟩
  show State.Rests _ (s.process (.gantry g) ⟨0x32, [k, x, d]⟩ fun t => t.handleMessage .stepDone (.gantry g) [k, x, d]
    fun t => t.stepDone g [k, x, d])
  rw [State.process_ready (by rw [← hu, hhandle, hbody]; exact h), ← hu, hhandle, hbody]
  exact ⟨hsettled.holds, hsettled.keeps, hsettled.piles, hsettled.suspects⟩

theorem State.exec_stepDone_stale {s : State} {g : Gantry} {k x d : Word} (hn : s.cell ≠ .noLayout) (hd : d.toNat ≤ 3)
    (h : s.Ready (.gantry g) ⟨0x32, [k, x, d]⟩ 1)
    (hstale : (s.gantry g).state ≠ .stepping ∨ ∀ c i, (s.gantry g).current = some c → c.issued = some i → i.token.toNat ≠ k.toNat) :
    exec (.stepDone (.gantry g) [k, x, d]) s = .next (s.answered (.gantry g) (.refused 0x32 .staleStep k)) := by
  have hnone : ((s.taken (.gantry g)).gantry g).outstanding (word [k, x, d] 0) = none := by
    show (s.gantry g).outstanding k.toNat = none
    unfold GantryRecord.outstanding
    split
    · next hs =>
      have hno := hstale.resolve_left (fun hne => hne hs)
      cases hc : (s.gantry g).current with
      | none => rfl
      | some c => cases hi : c.issued with
        | none => simp [hi]
        | some i => simp [hi, hno c i hc hi]
    · rfl
  have hrefused : (s.taken (.gantry g)).stepDone g [k, x, d] =
      (s.taken (.gantry g), refusedReply .stepDone .staleStep k.toNat) := by
    rw [State.stepDone, hnone]
    rfl
  have hanswer := State.message_refused (body := fun t => t.stepDone g [k, x, d]) h (stepDone_check g k x d hd)
    (by simpa [Message.accepts] using hn) hrefused
  rw [BitVec.ofNat_toNat, BitVec.setWidth_eq] at hanswer
  exact congrArg Host.Outcome.next hanswer

/-! ## What each move leaves -/

/-- A gantry's step has completed, and nothing has moved yet: the head, the task, the store and the saws are as they were. -/
structure State.Arrived (s r : State) (g : Gantry) : Prop where
  carried : (r.gantry g).carried = (s.gantry g).carried
  task : (r.gantry g).task = (s.gantry g).task
  other : r.gantry (otherGantry g) = s.gantry (otherGantry g)
  slots : r.slots = s.slots
  saws : r.saws = s.saws
  material : ∀ kind, r.material kind = s.material kind
  serial : r.serialToGive = s.serialToGive

theorem State.arrived_reported (s : State) (g : Gantry) (c : Step) (v : Span) (x : Nat) (o : StepOutcome) (d : Duties) :
    s.Arrived ((s.taken (.gantry g)).reported g c v x o d) g where
  carried := by rw [State.reported_gantry]; rfl
  task := by rw [State.reported_gantry]; rfl
  other := State.reported_other _ _ _ _ _ _ _
  slots := rfl
  saws := rfl
  material _ := rfl
  serial := (State.reported_serialToGive _ _ _ _ _ _ _).trans (State.serialToGive_congr rfl rfl)

section
variable {s r t : State} {g : Gantry} {c : Step} (h : s.Arrived r g)
include h

theorem State.Arrived.stack (n : Nat) : (r.slot n).stack = (s.slot n).stack := by rw [State.slot_of_slots h.slots]

theorem State.Arrived.still {m : State} (hm : m.Rests t) (hstack : ∀ n, (m.slot n).stack = (r.slot n).stack) (n : Nat) :
    (t.slot n).stack = (s.slot n).stack := (hm.piles n).trans ((hstack n).trans (h.stack n))

theorem State.Arrived.rested (hm : r.Rests t) :
    (t.gantry g).carried = (s.gantry g).carried ∧ ∀ n, (t.slot n).stack = (s.slot n).stack :=
  ⟨(hm.holds g).carried.trans h.carried, h.still hm fun _ => rfl⟩

theorem State.Arrived.marked {n : Nat} (hn : n < s.slots.length) (hm : (r.markSuspect n).Rests t) :
    (t.gantry g).carried = (s.gantry g).carried ∧ (t.slot n).suspect = true ∧ ∀ n, (t.slot n).stack = (s.slot n).stack := by
  have hsame : (r.markSuspect n).gantry g = r.gantry g := r.markSuspectOpt_gantry (some n) g
  exact ⟨(hm.holds g).carried.trans (by rw [hsame, h.carried]), hm.suspects n (r.markSuspect_suspect (by rwa [h.slots])),
    h.still hm fun m => r.markSuspect_stack n m⟩

/-- The top panel of the slot is on the head (R33, R95). -/
theorem State.Arrived.picked {n : Nat} {p : Panel} (htop : (s.slot n).stack.getLast? = some p) (hm : (r.toppedOff g n).Rests t) :
    (t.gantry g).carried = some p ∧ (t.gantry g).lastMaterial = some (s.material p.kind) ∧
      (t.slot n).stack = (s.slot n).stack.dropLast ∧ ∀ m, m ≠ n → (t.slot m).stack = (s.slot m).stack := by
  have hhead : ((r.takeOnHead g p).unlay n 1).gantry g =
      { r.gantry g with carried := some p, lastMaterial := some (r.material p.kind) } := State.setGantry_gantry_same _ _ _
  rw [r.toppedOff_some g n (by rw [Slot.top, h.stack]; exact htop)] at hm
  refine ⟨(hm.holds g).carried.trans (by rw [hhead]), (hm.holds g).material.trans (by rw [hhead, h.material]), ?_, fun m hne => ?_⟩
  · rw [hm.piles n, State.unlay_stack, if_pos rfl, List.dropLast_eq_take]
    exact congrArg (fun ps : List Panel => ps.take (ps.length - 1)) (h.stack n)
  · rw [hm.piles m, State.unlay_stack, if_neg hne]
    exact h.stack m

/-- The offcut of the offer is on the head, with a serial of its own (R35, R95). -/
theorem State.Arrived.pickedUp {w : Saw} {o : Offer} {a : Task} {b n : Nat} (ho : s.offerOf g w = some o)
    (ha : (s.gantry g).task = some a) (hb : a.blank = some b) (hn : a.destination = some n) (hm : (r.offcutTaken g w).Rests t) :
    (t.gantry g).carried = some ⟨b, s.serialToGive, o.kind, .remnant, o.length, o.width⟩ ∧
      (t.gantry g).lastMaterial = some (s.material o.kind) ∧ ∀ n, (t.slot n).stack = (s.slot n).stack := by
  have hhead : (r.giveSerial.takeOnHead g (r.offcut b o)).gantry g =
      { r.gantry g with carried := some (r.offcut b o), lastMaterial := some (r.material o.kind) } :=
    State.setGantry_gantry_same _ _ _
  rw [r.offcutTaken_some g w (o := o) (r := b) (m := n) (by rw [State.offerOf, State.saw, h.saws]; exact ho)
    (by rw [h.task, ha]; exact hb) (by rw [h.task, ha]; exact hn)] at hm
  refine ⟨(hm.holds g).carried.trans ?_, (hm.holds g).material.trans (by rw [hhead, h.material]), h.still hm fun _ => rfl⟩
  rw [hhead, State.offcut, h.serial]

/-- The panel on the head has left the cell, and the saw has counted it (R35, R158). -/
theorem State.Arrived.placed {w : Saw} {p : Panel} (hp : (s.gantry g).carried = some p) (hm : (r.panelPlaced g w).Rests t) :
    (t.gantry g).carried = none ∧ (t.saw w).panelsPlaced = (s.saw w).panelsPlaced.step ∧
      ∀ n, (t.slot n).stack = (s.slot n).stack := by
  rw [r.panelPlaced_some g w (h.carried.trans hp)] at hm
  have hhead : ((r.placePanel g w p).gantry g).carried = none := by rw [State.placePanel_gantry, State.setGantry_gantry_same]
  refine ⟨(hm.holds g).carried.trans hhead, ?_, h.still hm fun m => r.placePanel_stack g w p m⟩
  rw [(hm.keeps w).placed, State.placePanel_placed, State.saw, h.saws, State.saw]

/-- The panel on the head lies on top of the slot (R34). -/
theorem State.Arrived.laid {n : Nat} {p : Panel} (hn : n < s.slots.length) (hp : (s.gantry g).carried = some p)
    (hm : (r.panelLaid g n).Rests t) : (t.gantry g).carried = none ∧ (t.slot n).stack = (s.slot n).stack ++ [p] ∧
      ∀ m, m ≠ n → (t.slot m).stack = (s.slot m).stack := by
  rw [r.panelLaid_some g n (h.carried.trans hp)] at hm
  have hlaid := State.lay_stack (r.setGantry g { r.gantry g with carried := none }) (n := n)
    (by rw [State.setGantry_slots, h.slots]; exact hn) p
  refine ⟨(hm.holds g).carried.trans ?_, ?_, fun m hne => ?_⟩
  · exact congrArg GantryRecord.carried (State.setGantry_gantry_same r g { r.gantry g with carried := none })
  · rw [hm.piles n, hlaid, if_pos rfl]
    exact congrArg (· ++ [p]) (h.stack n)
  · rw [hm.piles m, hlaid, if_neg hne]
    exact h.stack m
end

/-- Settles O43: the step completes, its panel moves, and what follows moves none. -/
theorem stepDoneCompletes : Obligations.StepDoneCompletes := by
  intro s g k x d hn hd h
  refine ⟨State.exec_stepDone_stale hn hd h, fun c i hs hc hi hk hlo hhi => ?_⟩
  obtain ⟨t, e, hrun, hrests⟩ := State.exec_stepDone_moves hn hd h hs hc hi hk hlo hhi
  have harrived := s.arrived_reported g c i.span x.toNat (stepOutcomeOf d.toNat) e
  have hrecord := (s.taken (.gantry g)).reported_gantry g c i.span x.toNat (stepOutcomeOf d.toNat) e
  generalize (s.taken (.gantry g)).reported g c i.span x.toNat (stepOutcomeOf d.toNat) e = r at *
  have hmoves := r.movesAt_panelMoved g c (decide (d.toNat = 0))
  have hstands := (hrests.holds g).stands
  have hother := hrests.holds (otherGantry g)
  rw [hmoves.other, harrived.other] at hother
  have hok (h0 : d.toNat = 0) : (r.panelMoved g c true).Rests t := by rwa [decide_eq_true h0] at hrests
  have hfailed (h0 : d.toNat ≠ 0) : (r.panelMoved g c false).Rests t := by rwa [decide_eq_false h0] at hrests
  refine ⟨t, hrun, ?_, ?_, ?_, ?_, ?_, hother.stands.position, hother.carried, hother.stands.steps, ?_⟩
  · exact hstands.position.trans (hmoves.stands.position.trans (by rw [hrecord]; rfl))
  · exact hstands.completion.trans (hmoves.stands.completion.trans (by rw [hrecord]; rfl))
  · refine hstands.outcome.trans (hmoves.stands.outcome.trans ?_)
    rw [hrecord]
    show some (stepOutcomeOf d.toNat) = _
    generalize d.toNat = o
    rcases o with _ | _ | _ | _ <;> rfl
  · exact hstands.steps.trans (hmoves.stands.steps.trans (by rw [hrecord]; rfl))
  · refine hstands.direction.trans (hmoves.stands.direction.trans ?_)
    rw [hrecord]
    exact travelDirection_orElse _ _ _
  intro still others
  cases hkind : c.kind with
  | travelPick =>
    refine ⟨fun n p hsl htop h0 => harrived.picked htop ?_, fun n hsl hlen h0 => harrived.marked hlen ?_,
      fun w o a b n hsl hw h0 ho ha hb hdest => harrived.pickedUp ho ha hb hdest ?_⟩
    · rw [← (r.panelMoved_pick g hkind hsl).1]
      exact hok h0
    · rw [← (r.panelMoved_pick g hkind hsl).2]
      exact hfailed h0
    · rw [← r.panelMoved_pickup g hkind hsl hw]
      exact hok h0
  | place =>
    refine ⟨fun w p hw h0 hp => harrived.placed hp ?_, fun h0 => harrived.rested ?_⟩
    · rw [← r.panelMoved_place g hkind hw]
      exact hok h0
    · have hm := hfailed h0
      rwa [r.panelMoved_place_failed g hkind] at hm
  | travelPut =>
    refine ⟨fun n p hsl hlen h0 hp => harrived.laid hlen hp ?_, fun n hsl hlen h0 => harrived.marked hlen ?_⟩
    · rw [← (r.panelMoved_put g hkind hsl).1]
      exact hok h0
    · rw [← (r.panelMoved_put g hkind hsl).2]
      exact hfailed h0
  | travelHover =>
    rw [r.panelMoved_travel g (Or.inl hkind)] at hrests
    exact harrived.rested hrests
  | travelOnly =>
    rw [r.panelMoved_travel g (Or.inr hkind)] at hrests
    exact harrived.rested hrests

end Sys2Proof.Machine
end

section
/-! PROOFS. The lists of a saw (R128, R131, R132, R139): the parts of a book list, and the changes of a list that keep it sound. -/

namespace Sys2Proof.Machine

/-! ## The order of a book list -/

/-- The states of a book list are in order: RELEASED, then at most one ASSEMBLING, then QUEUED, within the limits (R128, R131). -/
def Arranged (ss : List BookState) : Prop :=
  ∃ released assembling queued : Nat, assembling ≤ 1 ∧ released + assembling ≤ 3 ∧ queued ≤ 4 ∧
    ss = List.replicate released .released ++ List.replicate assembling .assembling ++ List.replicate queued .queued

/-- The three parts of a book list, from its oldest record on. -/
structure Parts (bs released assembling queued : List Book) : Prop where
  whole : bs = released ++ assembling ++ queued
  released : ∀ b ∈ released, b.state = .released
  assembling : ∀ b ∈ assembling, b.state = .assembling
  queued : ∀ b ∈ queued, b.state = .queued

theorem map_state_eq_replicate_iff {bs : List Book} {k : BookState} {n : Nat} :
    bs.map Book.state = List.replicate n k ↔ bs.length = n ∧ ∀ b ∈ bs, b.state = k := by
  simp [List.eq_replicate_iff]

theorem Parts.arranged {bs released assembling queued : List Book} (h : Parts bs released assembling queued)
    (ha : assembling.length ≤ 1) (hr : released.length + assembling.length ≤ 3) (hq : queued.length ≤ 4) :
    Arranged (bs.map Book.state) := by
  refine ⟨released.length, assembling.length, queued.length, ha, hr, hq, ?_⟩
  rw [h.whole, List.map_append, List.map_append, map_state_eq_replicate_iff.mpr ⟨rfl, h.released⟩,
    map_state_eq_replicate_iff.mpr ⟨rfl, h.assembling⟩, map_state_eq_replicate_iff.mpr ⟨rfl, h.queued⟩]

theorem Arranged.parts {bs : List Book} (h : Arranged (bs.map Book.state)) :
    ∃ released assembling queued, Parts bs released assembling queued ∧ assembling.length ≤ 1 ∧
      released.length + assembling.length ≤ 3 ∧ queued.length ≤ 4 := by
  obtain ⟨r, a, q, ha, hr, hq, hs⟩ := h
  obtain ⟨front, queued, rfl, hfront, hqueued⟩ := List.map_eq_append_iff.mp hs
  obtain ⟨released, assembling, rfl, hreleased, hassembling⟩ := List.map_eq_append_iff.mp hfront
  obtain ⟨rfl, hR⟩ := map_state_eq_replicate_iff.mp hreleased
  obtain ⟨rfl, hA⟩ := map_state_eq_replicate_iff.mp hassembling
  obtain ⟨rfl, hQ⟩ := map_state_eq_replicate_iff.mp hqueued
  exact ⟨released, assembling, queued, ⟨rfl, hR, hA, hQ⟩, ha, hr, hq⟩

theorem Arranged.sublist {ss us : List BookState} (h : Arranged ss) (hu : us.Sublist ss) : Arranged us := by
  obtain ⟨r, a, q, ha, hr, hq, rfl⟩ := h
  obtain ⟨front, queued, rfl, hfront, hqueued⟩ := List.sublist_append_iff.mp hu
  obtain ⟨released, assembling, rfl, hreleased, hassembling⟩ := List.sublist_append_iff.mp hfront
  obtain ⟨r', hr', rfl⟩ := List.sublist_replicate_iff.mp hreleased
  obtain ⟨a', ha', rfl⟩ := List.sublist_replicate_iff.mp hassembling
  obtain ⟨q', hq', rfl⟩ := List.sublist_replicate_iff.mp hqueued
  exact ⟨r', a', q', by omega, by omega, by omega, rfl⟩

theorem map_ite_eq_self {bs : List Book} {c : Book → Prop} [DecidablePred c] {f : Book → Book} (hc : ∀ b ∈ bs, ¬c b) :
    (bs.map fun b => if c b then f b else b) = bs := by
  rw [List.map_congr_left fun b hb => if_neg (hc b hb)]
  exact List.map_id' bs

/-- A change of ASSEMBLING records leaves the parts before and behind them. -/
theorem Parts.updateAssembling {bs released assembling queued : List Book} (h : Parts bs released assembling queued) (t : Word)
    (f : Book → Book) : updateAssembling t f bs = released ++ updateAssembling t f assembling ++ queued := by
  have hreleased : ∀ x ∈ released, ¬(x.tag = t ∧ x.state = .assembling) := fun x hx hc => by
    rw [h.released x hx] at hc
    cases hc.2
  have hqueued : ∀ x ∈ queued, ¬(x.tag = t ∧ x.state = .assembling) := fun x hx hc => by
    rw [h.queued x hx] at hc
    cases hc.2
  simp only [Sys2Proof.Machine.updateAssembling, h.whole, List.map_append, map_ite_eq_self hreleased, map_ite_eq_self hqueued]

/-! ## Sound lists -/

/-- A book list is in order with distinct tags, and each of its records meets `P` (R127, R128, R131). -/
structure BookList (P : Book → Prop) (bs : List Book) : Prop where
  order : Arranged (bs.map Book.state)
  tags : (bs.map Book.tag).Nodup
  books : ∀ b ∈ bs, P b

/-- An offer list holds at most 2 offers, and none but the head offer is IN_PROGRESS (R139). -/
structure OfferList (os : List Offer) : Prop where
  offers : os.length ≤ 2
  waiting : ∀ o ∈ os.tail, o.state = .waiting

/-- A saw's record is sound but for its book records, each of which meets `P`. -/
structure SawRecord.SoundFor (P : Book → Prop) (r : SawRecord) : Prop where
  limit : 1 ≤ r.settings.backlogLimit ∧ r.settings.backlogLimit ≤ 3
  windows : r.settings.w1 ≤ 60000 ∧ r.settings.w2 ≤ 60000 ∧ r.settings.w3 ≤ 60000
  pacing : r.pacing.length ≤ 3
  books : BookList P r.books
  offers : OfferList r.offers

theorem SawRecord.sound_iff (r : SawRecord) : r.Sound ↔ r.SoundFor Book.Sound :=
  ⟨fun h => ⟨h.limit, h.windows, h.pacing, ⟨h.order, h.tags, h.books⟩, ⟨h.offers, h.waiting⟩⟩,
    fun h => ⟨h.limit, h.windows, h.pacing, h.books.order, h.books.tags, h.books.books, h.offers.offers, h.offers.waiting⟩⟩

/-! ## Offers -/

theorem OfferList.drop {os : List Offer} (h : OfferList os) (g : Gantry) : OfferList (dropOffer g os) := by
  refine ⟨(List.length_filter_le _ _).trans h.offers, fun o ho => h.waiting o ?_⟩
  cases os with
  | nil => cases ho
  | cons a os =>
    rw [dropOffer, List.filter_cons] at ho
    split at ho
    · exact List.mem_of_mem_filter ho
    · exact List.mem_of_mem_filter (List.mem_of_mem_tail ho)

theorem OfferList.hold {os : List Offer} (h : OfferList os) (g : Gantry) : OfferList (holdOffer g os) := by
  cases os with
  | nil => exact h
  | cons a os => exact ⟨h.offers, h.waiting⟩

theorem OfferList.add {os : List Offer} (h : OfferList os) (hroom : os.length < 2) {o : Offer} (ho : o.state = .waiting) :
    OfferList (os ++ [o]) := by
  refine ⟨by rw [List.length_append]; exact hroom, fun x hx => ?_⟩
  cases os with
  | nil => cases hx
  | cons a os =>
    rcases List.mem_append.mp hx with hx | hx
    · exact h.waiting x hx
    · rw [List.mem_singleton.mp hx]
      exact ho

/-! ## Books -/

section
variable {P Q : Book → Prop} {bs : List Book} (h : BookList P bs)
include h

theorem BookList.mono (hq : ∀ b ∈ bs, P b → Q b) : BookList Q bs := ⟨h.order, h.tags, fun b hb => hq b hb (h.books b hb)⟩

/-- Records leave a list; each one that stays meets `Q`. -/
theorem BookList.filter {keep : Book → Bool} (hq : ∀ b ∈ bs, keep b = true → P b → Q b) : BookList Q (bs.filter keep) where
  order := h.order.sublist (List.filter_sublist.map _)
  tags := h.tags.sublist (List.filter_sublist.map _)
  books b hb := hq b (List.mem_of_mem_filter hb) (List.mem_filter.mp hb).2 (h.books b (List.mem_of_mem_filter hb))

/-- Records are changed, each in its place with its tag and its state. -/
theorem BookList.map {f : Book → Book} (htag : ∀ b, (f b).tag = b.tag) (hstate : ∀ b, (f b).state = b.state)
    (hq : ∀ b ∈ bs, P b → Q (f b)) : BookList Q (bs.map f) where
  order := by
    rw [List.map_map, show Book.state ∘ f = Book.state from funext hstate]
    exact h.order
  tags := by
    rw [List.map_map, show Book.tag ∘ f = Book.tag from funext htag]
    exact h.tags
  books b hb := by
    obtain ⟨a, ha, rfl⟩ := List.mem_map.mp hb
    exact hq a ha (h.books a ha)

/-- The ASSEMBLING record of a tag is changed. -/
theorem BookList.updateAssembling {t : Word} {f : Book → Book} (htag : ∀ b, (f b).tag = b.tag)
    (hstate : ∀ b, (f b).state = b.state) (hf : ∀ b ∈ bs, b.tag = t → b.state = .assembling → P b → Q (f b))
    (helse : ∀ b ∈ bs, ¬(b.tag = t ∧ b.state = .assembling) → P b → Q b) : BookList Q (updateAssembling t f bs) := by
  refine h.map (fun b => ?_) (fun b => ?_) fun b hb hp => ?_
  · split
    · exact htag b
    · rfl
  · split
    · exact hstate b
    · rfl
  · split
    · next hc => exact hf b hb hc.1 hc.2 hp
    · next hc => exact helse b hb hc hp

/-- A QUEUED record joins the end of a list that has fewer than four (R129, R130). -/
theorem BookList.add {b : Book} (hb : b.state = .queued) (hp : P b) (htag : ∀ a ∈ bs, a.tag ≠ b.tag)
    (hroom : (bs.filter fun x => decide (x.state = .queued)).length < 4) : BookList P (bs ++ [b]) where
  order := by
    obtain ⟨released, assembling, queued, hparts, ha, hr, hq⟩ := h.order.parts
    have hlength : queued.length < 4 := by
      refine lt_of_le_of_lt ?_ hroom
      rw [hparts.whole, List.filter_append, List.length_append,
        List.filter_eq_self.mpr fun x hx => decide_eq_true (hparts.queued x hx)]
      exact Nat.le_add_left _ _
    have hmore : Parts (bs ++ [b]) released assembling (queued ++ [b]) := by
      refine ⟨by rw [hparts.whole]; simp, hparts.released, hparts.assembling, fun x hx => ?_⟩
      rcases List.mem_append.mp hx with hx | hx
      · exact hparts.queued x hx
      · rw [List.mem_singleton.mp hx]
        exact hb
    exact hmore.arranged ha hr (by simpa using hlength)
  tags := by
    rw [List.map_append, List.nodup_append]
    refine ⟨h.tags, List.nodup_singleton _, fun t ht u hu => ?_⟩
    obtain ⟨a, ha, rfl⟩ := List.mem_map.mp ht
    rw [List.map_singleton, List.mem_singleton] at hu
    exact hu ▸ htag a ha
  books a ha := by
    rcases List.mem_append.mp ha with ha | ha
    · exact h.books a ha
    · rw [List.mem_singleton.mp ha]
      exact hp

/-- The head book of a list that assembles none starts on a gantry (R128, R131, R152). -/
theorem BookList.start {b : Book} (hb : bs.find? (fun x => decide (x.state = .queued)) = some b)
    (hnone : ∀ x ∈ bs, x.state ≠ .assembling) (hroom : (bs.filter fun x => decide (x.state = .released)).length < 3) (g : Gantry)
    (now : Time) (hstart : ∀ x ∈ bs, x.state = .queued → P x → P (x.start g now)) :
    BookList P (bs.map fun x => if x.tag = b.tag ∧ x.state = .queued then x.start g now else x) where
  order := by
    obtain ⟨released, assembling, queued, hparts, ha, hr, hq⟩ := h.order.parts
    obtain rfl : assembling = [] := List.eq_nil_iff_forall_not_mem.mpr fun x hx =>
      hnone x (by rw [hparts.whole]; simp [hx]) (hparts.assembling x hx)
    have hwhole : bs = released ++ queued := by simpa using hparts.whole
    have hfront : released.find? (fun x => decide (x.state = .queued)) = none := by
      simpa using fun x hx => by rw [hparts.released x hx]; decide
    rw [hwhole, List.find?_append, hfront, Option.none_or] at hb
    cases queued with
    | nil => cases hb
    | cons a rest =>
      have haq : a.state = .queued := hparts.queued a List.mem_cons_self
      rw [List.find?_cons_of_pos (by simpa using haq)] at hb
      obtain rfl := Option.some.inj hb
      have htags := h.tags
      rw [hwhole, List.map_append, List.map_cons] at htags
      have hrest : ∀ x ∈ rest, ¬(x.tag = a.tag ∧ x.state = .queued) := fun x hx hc =>
        (List.nodup_cons.mp (List.nodup_append.mp htags).2.1).1 (hc.1 ▸ List.mem_map_of_mem hx)
      have hreleased : ∀ x ∈ released, ¬(x.tag = a.tag ∧ x.state = .queued) := fun x hx hc => by
        rw [hparts.released x hx] at hc
        cases hc.2
      have hlength : released.length < 3 := by
        refine lt_of_le_of_lt ?_ hroom
        rw [hwhole, List.filter_append, List.length_append,
          List.filter_eq_self.mpr fun x hx => decide_eq_true (hparts.released x hx)]
        exact Nat.le_add_right _ _
      refine Parts.arranged (released := released) (assembling := [a.start g now]) (queued := rest)
        ⟨?_, hparts.released, fun x hx => by rw [List.mem_singleton.mp hx]; rfl,
          fun x hx => hparts.queued x (List.mem_cons_of_mem _ hx)⟩ (Nat.le_refl 1) hlength ?_
      · rw [hwhole, List.map_append, List.map_cons, map_ite_eq_self hreleased, map_ite_eq_self hrest, if_pos ⟨rfl, haq⟩]
        simp
      · rw [List.length_cons] at hq
        omega
  tags := by
    rw [List.map_map, show Book.tag ∘ _ = Book.tag from funext fun x => by dsimp only [Function.comp]; split <;> rfl]
    exact h.tags
  books x hx := by
    obtain ⟨a, ha, rfl⟩ := List.mem_map.mp hx
    split
    · next hc => exact hstart a ha hc.2 (h.books a ha)
    · exact h.books a ha

/-- The ASSEMBLING record of a tag is released (R137). -/
theorem BookList.release {t : Word} {now : Time} (hf : ∀ b ∈ bs, b.tag = t → b.state = .assembling → P b → Q (b.release now))
    (helse : ∀ b ∈ bs, ¬(b.tag = t ∧ b.state = .assembling) → P b → Q b) :
    BookList Q (Sys2Proof.Machine.updateAssembling t (fun b => b.release now) bs) where
  order := by
    obtain ⟨released, assembling, queued, hparts, ha, hr, hq⟩ := h.order.parts
    rw [hparts.updateAssembling]
    by_cases hnone : ∀ x ∈ assembling, ¬(x.tag = t ∧ x.state = .assembling)
    · rw [Sys2Proof.Machine.updateAssembling, map_ite_eq_self hnone, ← hparts.whole]
      exact h.order
    · obtain ⟨a, rfl⟩ : ∃ a, assembling = [a] := List.length_eq_one_iff.mp (by
        rcases Nat.le_one_iff_eq_zero_or_eq_one.mp ha with h0 | h1
        · exact absurd (List.eq_nil_of_length_eq_zero h0 ▸ fun _ => by simp) hnone
        · exact h1)
      have hc : a.tag = t ∧ a.state = .assembling := by simpa using hnone
      refine Parts.arranged (released := released ++ [a.release now]) (assembling := []) (queued := queued)
        ⟨?_, fun x hx => ?_, by simp, hparts.queued⟩ (by simp) (by simpa using hr) hq
      · rw [Sys2Proof.Machine.updateAssembling, List.map_singleton, if_pos hc, List.append_nil]
      rcases List.mem_append.mp hx with hx | hx
      · exact hparts.released x hx
      · rw [List.mem_singleton.mp hx]
        rfl
  tags := by
    rw [Sys2Proof.Machine.updateAssembling, List.map_map,
      show Book.tag ∘ _ = Book.tag from funext fun x => by dsimp only [Function.comp]; split <;> rfl]
    exact h.tags
  books x hx := by
    obtain ⟨a, ha, rfl⟩ := List.mem_map.mp hx
    split
    · next hc => exact hf a ha hc.1 hc.2 (h.books a ha)
    · next hc => exact helse a ha hc (h.books a ha)
end

end Sys2Proof.Machine
end

section
/-! PROOFS. What leaves the saws' records as they are: claims, searches, the requests and the issue of steps, and returns. -/

namespace Sys2Proof.Machine

section
variable (s : State) (g : Gantry)

/-! ## Stores and claims -/

@[simp] theorem State.push_saws (p : Port) (m : Pushed) : (s.push p m).saws = s.saws := rfl

@[simp] theorem State.latch_saws (p : Port) (f : ChangeFlag) : (s.latch p f).saws = s.saws := rfl

@[simp] theorem State.opportunity_saws : s.opportunity.saws = s.saws := rfl

@[simp] theorem State.setSlot_saws (n : Nat) (r : Slot) : (s.setSlot n r).saws = s.saws := rfl

@[simp] theorem State.lay_saws (n : Nat) (p : Panel) : (s.lay n p).saws = s.saws := rfl

@[simp] theorem State.unlay_saws (n k : Nat) : (s.unlay n k).saws = s.saws := rfl

@[simp] theorem State.freeRecord_saws (n : Nat) : (s.freeRecord n).saws = s.saws := rfl

@[simp] theorem State.freeRecordOpt_saws (n : Option Nat) : (s.freeRecordOpt n).saws = s.saws := by cases n <;> rfl

@[simp] theorem State.retry_saws : (s.retry g).saws = s.saws := by
  unfold State.retry
  split <;> rfl

@[simp] theorem State.storeChange_saws : s.storeChange.saws = s.saws := by simp [State.storeChange]

@[simp] theorem State.claim_saws (n : Nat) (k : Purpose) : (s.claim n g k).saws = s.saws := by
  unfold State.claim
  split <;> rfl

@[simp] theorem State.releaseClaim_saws (n : Nat) : (s.releaseClaim n).saws = s.saws := by
  unfold State.releaseClaim
  split <;> simp

@[simp] theorem State.markSuspect_saws (n : Nat) : (s.markSuspect n).saws = s.saws := by
  rw [State.markSuspect, State.latch_saws]
  exact s.releaseClaim_saws n

@[simp] theorem State.markSuspectOpt_saws (n : Option Nat) : (s.markSuspectOpt n).saws = s.saws := by
  cases n with
  | none => rfl
  | some n => exact s.markSuspect_saws n

@[simp] theorem State.releaseClaims_saws : (s.releaseClaims g).saws = s.saws := by
  unfold State.releaseClaims
  generalize s.claimedBy g = l
  induction l generalizing s with
  | nil => rfl
  | cons n l ih => exact (ih (s.releaseClaim n)).trans (s.releaseClaim_saws n)

theorem State.sourceSearch_saws (w : Saw) (e : BookEntry) : (s.sourceSearch g w e).2.saws = s.saws := by
  have hstep := (s.locatorStep_differs g w e).saws
  unfold State.sourceSearch
  split
  · exact s.claim_saws g _ _
  · split
    · exact (State.claim_saws _ g _ _).trans hstep
    · exact hstep

/-! ## Steps -/

variable (step : Step) (v : Span)

@[simp] theorem State.issue_saws : (s.issue g step v).saws = s.saws := rfl

@[simp] theorem State.await_saws (k : Verdict) : (s.await g step v k).saws = s.saws := rfl

@[simp] theorem State.dwellFor_saws (m : Moment) : (s.dwellFor g step m).saws = s.saws := rfl

@[simp] theorem State.requestYield_saws : (s.requestYield g step v).saws = s.saws := by
  unfold State.requestYield
  split <;> rfl

@[simp] theorem State.orderYield_saws (f : Option FormerState) : (s.orderYield g v f).saws = s.saws := by
  unfold State.orderYield State.prepareYield
  split <;> simp

@[simp] theorem State.cross_saws : (s.cross g step v).saws = s.saws := by
  unfold State.cross
  split <;> simp

@[simp] theorem State.judge_saws : (s.judge g step v).1.saws = s.saws := by
  unfold State.judge
  split
  · rfl
  · split
    · simp
    · simp
    · split <;> simp
    all_goals rfl

@[simp] theorem State.request_saws : (s.request g step v).1.saws = s.saws := by
  unfold State.request
  split <;> simp

@[simp] theorem State.prepare_saws : (s.prepare g step).1.saws = s.saws := by
  unfold State.prepare
  split <;> simp

/-! ## Tasks and returns -/

@[simp] theorem State.updateTask_saws (f : Task → Task) : (s.updateTask g f).saws = s.saws := rfl

@[simp] theorem State.becomeIdle_saws : (s.becomeIdle g).saws = s.saws := rfl

@[simp] theorem State.strand_saws : (s.strand g).saws = s.saws := rfl

@[simp] theorem State.beginPut_saws (n : Nat) : (s.beginPut g n).saws = s.saws := s.claim_saws g n .put

@[simp] theorem State.putTo_saws (n : Nat) : (s.putTo g n).saws = s.saws := by
  have hprepare : ((s.beginPut g n).prepare g (s.putStep n)).1.saws = s.saws := by simp
  unfold State.putTo
  split
  · next heq => rw [heq] at hprepare; exact hprepare
  · next heq => rw [heq] at hprepare; simpa using hprepare

@[simp] theorem State.seekPut_saws : (s.seekPut g).saws = s.saws := by
  unfold State.seekPut
  split <;> simp

@[simp] theorem State.seekAgain_saws : (s.seekAgain g).saws = s.saws := by
  unfold State.seekAgain
  split <;> simp

@[simp] theorem State.afterBook_saws (n : Option Nat) : (s.afterBook g n).saws = s.saws := by
  unfold State.afterBook State.beginReturn
  split <;> simp

@[simp] theorem State.releasePick_saws : (s.releasePick g).saws = s.saws := by
  unfold State.releasePick
  split
  · split <;> simp
  · rfl

@[simp] theorem State.releaseDestination_saws : (s.releaseDestination g).saws = s.saws := by
  unfold State.releaseDestination
  split <;> simp

@[simp] theorem State.freeBlank_saws : (s.freeBlank g).saws = s.saws := by
  unfold State.freeBlank
  split <;> rfl

@[simp] theorem State.openWait_saws : (s.openWait g).saws = s.saws := rfl

@[simp] theorem State.takeOnHead_saws (p : Panel) : (s.takeOnHead g p).saws = s.saws := rfl

@[simp] theorem State.pickPanel_saws (n : Nat) : (s.pickPanel g n).saws = s.saws := by
  unfold State.pickPanel
  split <;> simp

@[simp] theorem State.secondCause_saws (c : FaultCause) : (s.secondCause g c).saws = s.saws := by
  unfold State.secondCause
  split
  · split <;> rfl
  · rfl

/-! ## Stacks -/

@[simp] theorem State.registerAll_saws (n : Nat) (es : List StackEntry) : (s.registerAll n es).saws = s.saws := by
  unfold State.registerAll
  induction es generalizing s with
  | nil => rfl
  | cons e es ih => exact ih _

@[simp] theorem State.withdraw_saws (n k : Nat) : (s.withdraw n k).saws = s.saws := by
  unfold State.withdraw
  split
  · rfl
  · rw [State.storeChange_saws, State.freePanels_eq]
    rfl

@[simp] theorem State.slotRelease_saws (ws : List Word) : (s.slotRelease ws).1.saws = s.saws := by
  unfold State.slotRelease State.releaseSlot
  split
  · rfl
  · dsimp only
    split <;> simp

@[simp] theorem State.disposePanel_saws (ws : List Word) : (s.disposePanel g ws).saws = s.saws := by
  unfold State.disposePanel
  split <;> rfl
end

end Sys2Proof.Machine
end

section
/-! PROOFS. Lift Execution, the Dispatcher and the consequences of an event keep the saws' lists sound (R128, R131, R132, R137, R139,
R141, R152, R158, R166). -/

namespace Sys2Proof.Machine

/-! ## Saws -/

theorem State.SawsSound.congr {s t : State} (h : s.SawsSound) (hs : t.saws = s.saws) : t.SawsSound := fun w => by
  rw [State.saw, hs]
  exact h w

theorem State.SawsSound.setSaw {s : State} (h : s.SawsSound) {w : Saw} {r : SawRecord} (hr : r.SoundFor Book.Sound) :
    (s.setSaw w r).SawsSound := fun v => by
  rw [State.setSaw_saw]
  split
  · exact r.sound_iff.mpr hr
  · exact h v

theorem State.SawsSound.saw {s : State} (h : s.SawsSound) (w : Saw) : (s.saw w).SoundFor Book.Sound := (s.saw w).sound_iff.mp (h w)

/-- The ASSEMBLING record of a saw and a tag, when there is one, may be anything; all else of the saws is sound. -/
def State.SawsSoundBut (s : State) (w : Saw) (tag : Word) : Prop :=
  ∀ v, (s.saw v).SoundFor fun b => (v = w ∧ b.tag = tag ∧ b.state = .assembling) ∨ b.Sound

theorem SawRecord.SoundFor.mono {P Q : Book → Prop} {r : SawRecord} (h : r.SoundFor P) (hq : ∀ b ∈ r.books, P b → Q b) :
    r.SoundFor Q := ⟨h.limit, h.windows, h.pacing, h.books.mono hq, h.offers⟩

theorem State.SawsSound.but {s : State} (h : s.SawsSound) (w : Saw) (tag : Word) : s.SawsSoundBut w tag := fun v =>
  (h.saw v).mono fun _ _ => .inr

theorem State.bookOf_eq_none_iff {s : State} {w : Saw} {tag : Word} :
    s.bookOf w tag = none ↔ ∀ b ∈ (s.saw w).books, ¬(b.tag = tag ∧ b.state = .assembling) := by
  simp [State.bookOf, List.find?_eq_none]

/-- A book that is not in the list leaves nothing unsound. -/
theorem State.SawsSoundBut.sound {s : State} {w : Saw} {tag : Word} (h : s.SawsSoundBut w tag) (hb : s.bookOf w tag = none) :
    s.SawsSound := fun v => (s.saw v).sound_iff.mpr <| (h v).mono fun b hmem hp =>
  hp.resolve_left fun ⟨hv, hc⟩ => State.bookOf_eq_none_iff.mp hb b (hv ▸ hmem) hc

/-- A book's saw takes a record that is sound, whatever the ASSEMBLING record of the tag was. -/
theorem State.SawsSoundBut.setSaw {s : State} {w : Saw} {tag : Word} (h : s.SawsSoundBut w tag) {r : SawRecord}
    (hr : r.SoundFor Book.Sound) : (s.setSaw w r).SawsSound := fun v => by
  rw [State.setSaw_saw]
  split
  · exact r.sound_iff.mpr hr
  · next hv => exact (s.saw v).sound_iff.mpr ((h v).mono fun b _ hp => hp.resolve_left fun hc => hv hc.1)

/-! ## Ends of books -/

section
variable {s : State} {w : Saw} {tag : Word}

/-- The record of a book leaves its saw's list. -/
theorem State.SawsSoundBut.abortAssembling (h : s.SawsSoundBut w tag) (c : BookFault) : (s.abortAssembling w tag c).SawsSound := by
  unfold State.abortAssembling
  split
  · next b hb =>
    obtain ⟨-, rfl, -⟩ := State.bookOf_spec hb
    have hw := h w
    have hbooks : BookList Book.Sound ((s.saw w).books.filter fun x => decide (x.tag ≠ b.tag)) :=
      hw.books.filter fun x _ hk hp => hp.resolve_left fun hc => of_decide_eq_true hk hc.2.1
    refine State.SawsSound.congr (h.setSaw (r := { s.saw w with
      books := (s.saw w).books.filter fun x => decide (x.tag ≠ b.tag)
      aborted := (s.saw w).aborted.step
      lastBookReport := some (b.tag, .aborted) }) ?_) rfl
    exact ⟨hw.limit, hw.windows, hw.pacing, hbooks, hw.offers⟩
  · next hb => exact h.sound hb

/-- The ASSEMBLING record of a tag is changed into a sound one. -/
theorem State.SawsSoundBut.updateBook (h : s.SawsSoundBut w tag) {f : Book → Book} (htag : ∀ b, (f b).tag = b.tag)
    (hstate : ∀ b, (f b).state = b.state)
    (hf : ∀ b ∈ (s.saw w).books, b.tag = tag → b.state = .assembling → (f b).Sound) : (s.updateBook w tag f).SawsSound := by
  have hw := h w
  refine h.setSaw ⟨hw.limit, hw.windows, hw.pacing, ?_, hw.offers⟩
  exact hw.books.updateAssembling htag hstate (fun b hb ht hs _ => hf b hb ht hs) fun b _ hn hp =>
    hp.resolve_left fun hc => hn hc.2

/-- A book whose panels are all placed is released. -/
theorem State.SawsSoundBut.releaseBook (h : s.SawsSoundBut w tag)
    (hf : ∀ b ∈ (s.saw w).books, b.tag = tag → b.state = .assembling → (b.release s.clock).Sound) :
    (s.releaseBook w tag).SawsSound := by
  unfold State.releaseBook
  split
  · next b hb =>
    have hw := h w
    refine State.SawsSound.congr (h.setSaw (r := { s.saw w with
      books := updateAssembling tag (fun x => x.release s.clock) (s.saw w).books
      released := (s.saw w).released.step
      lastBookReport := some (tag, .complete) }) ?_) rfl
    refine ⟨hw.limit, hw.windows, hw.pacing, ?_, hw.offers⟩
    exact hw.books.release (fun b hb ht hs _ => hf b hb ht hs) fun b _ hn hp => hp.resolve_left fun hc => hn hc.2
  · next hb => exact h.sound hb

theorem State.SawsSoundBut.endBook {g : Gantry} (h : s.SawsSoundBut w tag) (ht : s.bookTask g = some (w, tag)) (c : BookFault) :
    (s.endBook g c).SawsSound := by
  simp only [State.endBook, ht]
  exact (h.abortAssembling c).congr (State.afterBook_saws _ _ _)
end

section
variable {s : State} (h : s.SawsSound)
include h

theorem State.SawsSound.abortAssembling (w : Saw) (tag : Word) (c : BookFault) : (s.abortAssembling w tag c).SawsSound :=
  (h.but w tag).abortAssembling c

theorem State.SawsSound.endBook (g : Gantry) (c : BookFault) : (s.endBook g c).SawsSound := by
  cases ht : s.bookTask g with
  | none =>
    simp only [State.endBook, ht]
    exact h
  | some k => exact (h.but k.1 k.2).endBook ht c

/-- A change of a gantry's book that keeps what its soundness reads (R127). -/
theorem State.SawsSound.updateBookAt (g : Gantry) {f : Book → Book} (hf : ∀ b, (f b).tag = b.tag ∧ (f b).state = b.state ∧
    (f b).entries = b.entries ∧ (f b).lift = b.lift ∧ (f b).placed = b.placed) : (s.updateBookAt g f).SawsSound := by
  unfold State.updateBookAt
  split
  · next w tag _ =>
    refine (h.but w tag).updateBook (fun b => (hf b).1) (fun b => (hf b).2.1) fun b hb _ _ => ?_
    obtain ⟨-, hstate, hentries, hlift, hplaced⟩ := hf b
    have hsound := (h.saw w).books.books b hb
    exact ⟨by rw [hentries]; exact hsound.entries, by rw [hentries, hlift]; exact hsound.lift,
      by rw [hentries, hlift, hplaced, hstate]; exact hsound.placed, by rw [hstate, hlift]; exact hsound.first⟩
  · exact h

/-! ## Ends of offers -/

theorem State.SawsSound.endOffer (g : Gantry) (w : Saw) (o : OfferOutcome) (c : Option BookFault) (n : Nat)
    (v : Option SlotName) : (s.endOffer g w o c n v).SawsSound := by
  unfold State.endOffer
  split
  · have hw := h.saw w
    refine State.SawsSound.congr (h.setSaw (w := w) (r := { s.saw w with
      offers := dropOffer g (s.saw w).offers, lastOfferReport := some o }) ?_) rfl
    exact ⟨hw.limit, hw.windows, hw.pacing, hw.books, hw.offers.drop g⟩
  · exact h

/-! ## Steps that are handed over -/

theorem State.SawsSound.discardPickup (g : Gantry) (w : Saw) (c : BookFault) : (s.discardPickup g w c).SawsSound :=
  (State.SawsSound.endOffer (h.congr (by simp)) g w _ _ _ _).congr (State.becomeIdle_saws _ _)

theorem State.SawsSound.blocked (g : Gantry) : (s.blocked g).SawsSound := by
  unfold State.blocked
  split
  · split
    · exact State.SawsSound.endBook (h.congr (s.releasePick_saws g)) g _
    · exact h.discardPickup g _ _
    · exact h.congr (by simp)
  · exact h

omit h in
theorem State.SawsSound.settleRequest {r : State × Bool} (h : r.1.SawsSound) (g : Gantry) : (State.settleRequest r g).SawsSound := by
  unfold State.settleRequest
  split
  · exact h.blocked g
  · exact h

theorem State.SawsSound.handOver (g : Gantry) (step : Step) : (s.handOver g step).SawsSound :=
  State.SawsSound.settleRequest (h.congr (s.prepare_saws g step)) g

/-! ## The lift of a book -/

theorem State.SawsSound.startLift (g : Gantry) : (s.startLift g).SawsSound := by
  unfold State.startLift
  split
  · next w e _ =>
    have hsearch := h.congr (s.sourceSearch_saws g w e)
    split
    · next heq =>
      rw [heq] at hsearch
      exact State.SawsSound.handOver (hsearch.congr (State.updateTask_saws _ g _)) g _
    · next heq =>
      rw [heq] at hsearch
      exact hsearch.congr rfl
    · next heq =>
      rw [heq] at hsearch
      exact hsearch.endBook g _
  · exact h

theorem State.SawsSound.pickOk (g : Gantry) (w : Saw) (n : Nat) : (s.pickOk g w n).SawsSound := by
  have hpick := h.congr (s.pickPanel_saws g n)
  unfold State.pickOk
  split
  · exact hpick.endBook g _
  · exact State.SawsSound.handOver (hpick.congr (State.updateTask_saws _ g _)) g _

theorem State.SawsSound.pickMiss (g : Gantry) (n : Nat) : (s.pickMiss g n).SawsSound := by
  have hnoted := State.SawsSound.updateBookAt (h.congr (s.markSuspect_saws n)) g (f := fun b => b.noteFault .pickMiss b.lift)
    fun _ => ⟨rfl, rfl, rfl, rfl, rfl⟩
  unfold State.pickMiss
  dsimp only
  split
  · exact hnoted.endBook g _
  · split
    · exact hnoted.endBook g _
    · exact State.SawsSound.startLift (hnoted.updateBookAt g (f := fun b => { b with replan := true })
        fun _ => ⟨rfl, rfl, rfl, rfl, rfl⟩) g

theorem State.SawsSound.beginPlace (g : Gantry) (w : Saw) : (s.beginPlace g w).SawsSound :=
  State.SawsSound.handOver (h.congr (s.updateTask_saws g _)) g _

theorem State.SawsSound.hoverDone (g : Gantry) (w : Saw) : (s.hoverDone g w).SawsSound := by
  unfold State.hoverDone
  split
  · exact h.endBook g _
  · split
    · exact h.beginPlace g w
    · exact h.congr rfl
end

/-! ## The PLACE of a lift -/

/-- A book record whose lift in progress has placed its panel (R158). -/
structure Book.Landed (b : Book) : Prop where
  entries : b.entries.length ≤ 6
  lift : 1 ≤ b.lift ∧ b.lift ≤ b.entries.length
  placed : b.placed.length = b.lift

theorem Book.Sound.place {b : Book} (h : b.Sound) (hs : b.state = .assembling) (serial : Nat) : (b.place serial).Landed := by
  refine ⟨h.entries, h.lift, ?_⟩
  have hplaced := h.placed
  have hlift := h.lift.1
  rw [hs] at hplaced
  dsimp only at hplaced
  rw [Book.place, List.length_append, List.length_singleton]
  dsimp only
  omega

/-- The next entry of a book record becomes its lift in progress (R158). -/
def Book.nextLift (b : Book) : Book := { b with lift := b.lift + 1, replan := false }

theorem Book.Landed.nextLift {b : Book} (h : b.Landed) (hs : b.state = .assembling) (hmore : b.lift < b.entries.length) :
    b.nextLift.Sound where
  entries := h.entries
  lift := ⟨Nat.succ_le_succ (Nat.zero_le _), hmore⟩
  placed := by
    show b.placed.length = match b.state with
      | .queued => 0
      | .assembling => b.lift + 1 - 1
      | .released => b.entries.length
    rw [hs]
    exact h.placed
  first hq := absurd (hs.symm.trans hq) (by decide)

theorem Book.Landed.release {b : Book} (h : b.Landed) (hlast : ¬b.lift < b.entries.length) (now : Time) : (b.release now).Sound where
  entries := h.entries
  lift := h.lift
  placed := h.placed.trans (Nat.le_antisymm h.lift.2 (Nat.not_lt.mp hlast))
  first hq := BookState.noConfusion hq

theorem State.bookTask_of_task {s t : State} {g : Gantry} (h : (t.gantry g).task = (s.gantry g).task) :
    t.bookTask g = s.bookTask g := by rw [State.bookTask, h, State.bookTask]

theorem State.bookTask_placePanel (s : State) (g : Gantry) (w : Saw) (p : Panel) :
    (s.placePanel g w p).bookTask g = s.bookTask g := by
  refine State.bookTask_of_task ?_
  rw [State.placePanel_gantry, State.setGantry_gantry_same]

/-- A saw counts one panel more (R158). -/
def State.countPlaced (s : State) (w : Saw) : State := s.setSaw w { s.saw w with panelsPlaced := (s.saw w).panelsPlaced.step }

/-- The state in which a panel has left the head and the pool (R35). -/
def State.unloaded (s : State) (g : Gantry) (p : Panel) : State :=
  (s.freeRecord p.record).setGantry g { s.gantry g with carried := none }

theorem State.placePanel_eq_count (s : State) (g : Gantry) (w : Saw) (p : Panel) :
    s.placePanel g w p = ((s.unloaded g p).updateBookAt g (Book.place p.serial)).countPlaced w := rfl

theorem State.bookTask_unloaded (s : State) (g : Gantry) (p : Panel) : (s.unloaded g p).bookTask g = s.bookTask g :=
  State.bookTask_of_task (by rw [State.unloaded, State.setGantry_gantry_same])

theorem State.unloaded_saw (s : State) (g : Gantry) (p : Panel) (w : Saw) : (s.unloaded g p).saw w = s.saw w := rfl

section
variable {s : State} {g : Gantry} {v : Saw} {tag : Word} (ht : s.bookTask g = some (v, tag)) (w : Saw) (p : Panel)
include ht

/-- The placed panel is counted on the book and on the saw (R158). -/
theorem State.placePanel_saw (u : Saw) : ((s.placePanel g w p).saw u).settings = (s.saw u).settings ∧
    ((s.placePanel g w p).saw u).pacing = (s.saw u).pacing ∧ ((s.placePanel g w p).saw u).offers = (s.saw u).offers ∧
    ((s.placePanel g w p).saw u).books =
      if u = v then updateAssembling tag (Book.place p.serial) (s.saw u).books else (s.saw u).books := by
  have htask := (s.bookTask_unloaded g p).trans ht
  simp only [State.placePanel_eq_count, State.updateBookAt_eq htask, State.countPlaced, State.updateBook, State.setSaw_saw,
    State.unloaded_saw]
  by_cases hw : u = w
  · subst hw
    by_cases hv : u = v
    · subst hv
      simp
    · simp [hv]
  · by_cases hv : u = v
    · subst hv
      simp [hw]
    · simp [hw, hv]

/-- Once a book's panel is placed, its record alone counts one panel too many for its lift. -/
theorem State.SawsSound.placePanel (h : s.SawsSound) : (s.placePanel g w p).SawsSoundBut v tag ∧
    ∀ b ∈ ((s.placePanel g w p).saw v).books, b.tag = tag → b.state = .assembling →
      b.Landed ∧ ∃ a, s.bookOf v tag = some a ∧ b = a.place p.serial := by
  refine ⟨fun u => ?_, fun b hb htag hstate => ?_⟩
  · obtain ⟨hsettings, hpacing, hoffers, hbooks⟩ := State.placePanel_saw ht w p u
    have hu := h.saw u
    refine ⟨by rw [hsettings]; exact hu.limit, by rw [hsettings]; exact hu.windows, by rw [hpacing]; exact hu.pacing, ?_,
      by rw [hoffers]; exact hu.offers⟩
    rw [hbooks]
    split
    · next hv =>
      exact hu.books.updateAssembling (fun _ => rfl) (fun _ => rfl) (fun _ _ ht hs _ => .inl ⟨hv, ht, hs⟩) fun _ _ _ => .inr
    · exact hu.books.mono fun _ _ => .inr
  · obtain ⟨-, -, -, hbooks⟩ := State.placePanel_saw ht w p v
    rw [hbooks, if_pos rfl] at hb
    obtain ⟨a, ha, rfl⟩ := List.mem_map.mp hb
    have hc : a.tag = tag ∧ a.state = .assembling := by
      by_contra hc
      rw [if_neg hc] at htag hstate
      exact hc ⟨htag, hstate⟩
    rw [if_pos hc]
    refine ⟨((h.saw v).books.books a ha).place hc.2 _, a, ?_, rfl⟩
    obtain ⟨b, hb⟩ := Option.ne_none_iff_exists'.mp fun hn => State.bookOf_eq_none_iff.mp hn a ha hc
    obtain ⟨hmem, htag, -⟩ := State.bookOf_spec hb
    rw [hb, List.inj_on_of_nodup_map (h.saw v).books.tags hmem ha (htag.trans hc.1.symm)]
end

section
variable {s : State} (h : s.SawsSound)
include h

theorem State.SawsSound.nextLift {g : Gantry} {v : Saw} {tag : Word} (ht : s.bookTask g = some (v, tag))
    (hmore : s.moreEntries g = true) (w : Saw) (p : Panel) : ((s.placePanel g w p).nextLift g).SawsSound := by
  obtain ⟨hbut, hbooks⟩ := h.placePanel ht w p
  have hnext : ((s.placePanel g w p).updateBookAt g Book.nextLift).SawsSound := by
    rw [State.updateBookAt_eq ((s.bookTask_placePanel g w p).trans ht)]
    refine hbut.updateBook (fun _ => rfl) (fun _ => rfl) fun b hb htag hstate => ?_
    obtain ⟨hlanded, a, ha, rfl⟩ := hbooks b hb htag hstate
    refine hlanded.nextLift hstate ?_
    rw [State.moreEntries, State.bookAt_eq ht, ha] at hmore
    exact of_decide_eq_true hmore
  exact State.SawsSound.startLift (hnext.congr (State.updateTask_saws _ g _)) g

theorem State.SawsSound.finishBook {g : Gantry} {v : Saw} {tag : Word} (ht : s.bookTask g = some (v, tag))
    (hlast : s.moreEntries g = false) (w : Saw) (p : Panel) : ((s.placePanel g w p).finishBook g).SawsSound := by
  obtain ⟨hbut, hbooks⟩ := h.placePanel ht w p
  simp only [State.finishBook, s.bookTask_placePanel, ht]
  refine State.SawsSound.congr (hbut.releaseBook fun b hb htag hstate => ?_) (State.becomeIdle_saws _ g)
  obtain ⟨hlanded, a, ha, rfl⟩ := hbooks b hb htag hstate
  refine hlanded.release ?_ _
  rw [State.moreEntries, State.bookAt_eq ht, ha] at hlast
  exact of_decide_eq_false hlast

/-- A panel that is placed for no book changes no list. -/
theorem State.SawsSound.placePanel_none {g : Gantry} (ht : s.bookTask g = none) (w : Saw) (p : Panel) :
    (s.placePanel g w p).SawsSound := by
  have hupdate : (s.unloaded g p).updateBookAt g (Book.place p.serial) = s.unloaded g p := by
    rw [State.updateBookAt, s.bookTask_unloaded, ht]
  rw [State.placePanel_eq_count, hupdate]
  have hw := h.saw w
  exact State.SawsSound.setSaw (h.congr rfl) ⟨hw.limit, hw.windows, hw.pacing, hw.books, hw.offers⟩

theorem State.SawsSound.placeOk (g : Gantry) (w : Saw) : (s.placeOk g w).SawsSound := by
  unfold State.placeOk
  split
  · next p _ =>
    cases ht : s.bookTask g with
    | none =>
      have hplaced := h.placePanel_none ht w p
      have hlast : s.moreEntries g = false := by rw [State.moreEntries, State.bookAt, ht]; rfl
      have hfinish : (s.placePanel g w p).finishBook g = s.placePanel g w p := by
        simp only [State.finishBook, s.bookTask_placePanel, ht]
      split
      · exact hplaced.endBook g _
      · rw [hlast, if_neg Bool.false_ne_true, hfinish]
        exact hplaced
    | some k =>
      obtain ⟨v, tag⟩ := k
      split
      · exact (h.placePanel ht w p).1.endBook ((s.bookTask_placePanel g w p).trans ht) _
      · split
        · next hmore => exact h.nextLift ht hmore w p
        · next hlast => exact h.finishBook ht (Bool.eq_false_iff.mpr hlast) w p
  · exact h

/-! ## Puts, pickups and yields -/

theorem State.SawsSound.putOk (g : Gantry) (n : Nat) : (s.putOk g n).SawsSound := by
  unfold State.putOk
  split
  · next p _ =>
    have hput : (((s.setGantry g { s.gantry g with carried := none }).lay n p).releaseClaim n).SawsSound := h.congr (by simp)
    refine State.SawsSound.congr ?_ (State.becomeIdle_saws _ g)
    unfold State.putEnds
    split
    · exact hput.endOffer g _ _ _ _ _
    · exact hput
  · exact h

theorem State.SawsSound.pickupOk (g : Gantry) (w : Saw) : (s.pickupOk g w).SawsSound := by
  unfold State.pickupOk
  split
  · next o r n _ _ _ =>
    refine State.SawsSound.handOver ?_ g _
    exact h.congr rfl
  · exact h

theorem State.SawsSound.yieldDone (g : Gantry) : (s.yieldDone g).SawsSound := by
  unfold State.yieldDone
  split
  · exact h.congr rfl
  · exact h.congr (State.seekAgain_saws _ g)
  · refine State.SawsSound.handOver ?_ g _
    exact h.congr rfl
  · exact h.congr (s.afterBook_saws g _)

theorem State.SawsSound.putFail (g : Gantry) (n : Nat) : (s.putFail g n).SawsSound := by
  refine h.congr ?_
  unfold State.putFail
  split <;> simp

theorem State.SawsSound.stepCompleted (g : Gantry) (step : Step) (ok : Bool) : (s.stepCompleted g step ok).SawsSound := by
  unfold State.stepCompleted
  split
  · exact h.pickOk g _ _
  · exact h.pickMiss g _
  · exact h.pickupOk g _
  · exact h.discardPickup g _ _
  · exact h.hoverDone g _
  · exact h.placeOk g _
  · exact h.endBook g _
  · exact h.putOk g _
  · exact h.putFail g _
  · exact h.yieldDone g
  · exact h

/-! ## Aborts and faults -/

theorem State.SawsSound.actOnAbort (g : Gantry) : (s.actOnAbort g).SawsSound := by
  have hpick := h.congr (s.releasePick_saws g)
  unfold State.actOnAbort
  split
  · split
    · exact State.SawsSound.congr (hpick.abortAssembling _ _ _) rfl
    · split
      · exact h
      · exact hpick.endBook g _
  · exact h

theorem State.SawsSound.endFaultedTask (g : Gantry) (k : Option TaskKind) (n : Nat) : (s.endFaultedTask g k n).SawsSound := by
  unfold State.endFaultedTask
  split
  · exact h.abortAssembling _ _ _
  · exact h.endOffer g _ _ _ _ _
  · exact h

theorem State.SawsSound.becomeFaulted (g : Gantry) (c : FaultCause) (n : BitVec 8) (silent : Bool) :
    (s.becomeFaulted g c n silent).SawsSound := by
  have hdisposed : (s.faultDisposed g c n).SawsSound := by
    refine h.congr ?_
    simp [State.faultDisposed, State.faultFrozen]
  refine State.SawsSound.congr ?_ (State.becomeFaulted_saws ..)
  unfold State.faultEnded
  split
  · exact hdisposed
  · exact hdisposed.endFaultedTask g _ _

/-! ## Dispatch and consequences -/

omit h in
/-- A present saw whose hold set is empty holds no backlog (R131). -/
theorem State.holdSet_backlog {w : Saw} (hp : s.sawPresent w = true) (hh : (s.holdSet w).isEmpty = true) :
    (s.saw w).count .released < (s.saw w).settings.backlogLimit := by
  rw [State.holdSet, if_pos hp, List.isEmpty_iff, List.filter_eq_nil_iff] at hh
  have hbacklog := hh .backlog (by decide)
  simpa [State.holdActive] using hbacklog

omit h in
theorem Book.Sound.start {b : Book} (h : b.Sound) (hq : b.state = .queued) (g : Gantry) (now : Time) : (b.start g now).Sound where
  entries := h.entries
  lift := ⟨Nat.le_refl 1, (h.first hq ▸ h.lift.2 : 1 ≤ b.entries.length)⟩
  placed := by
    have hplaced := h.placed
    rw [hq] at hplaced
    exact hplaced
  first hs := BookState.noConfusion hs

omit h in
theorem length_recordStart_le (ts : List Time) (t : Time) : (recordStart ts t).length ≤ 3 := by
  rw [recordStart, List.length_drop]
  omega

/-- A saw's head book starts where the Dispatcher may give it: no book of the saw is ASSEMBLING, and fewer RELEASED ones stand in its
list than the backlog limit allows (R131, R150, R152). -/
theorem State.SawsSound.startBook {g : Gantry} {w : Saw} {b : Book} (hb : (s.saw w).headBook = some b)
    (hp : s.sawPresent w = true) (hq : s.bookQualifies w g = true) : (s.startBook g w b).SawsSound := by
  simp only [State.bookQualifies, Bool.and_eq_true, decide_eq_true_iff] at hq
  obtain ⟨⟨⟨-, hhold⟩, hnone⟩, -⟩ := hq
  have hw := h.saw w
  have hroom := (State.holdSet_backlog hp hhold).trans_le hw.limit.2
  have hbooks := hw.books.start hb
    (fun x hx hs => by
      have hempty := List.filter_eq_nil_iff.mp (List.eq_nil_of_length_eq_zero hnone) x hx
      exact hempty (decide_eq_true hs)) hroom g s.clock fun x _ hs hx => hx.start hs g s.clock
  have hstarted := h.setSaw (w := w) (r := (s.saw w).withStart b.tag g s.clock)
    ⟨hw.limit, hw.windows, length_recordStart_le _ _, hbooks, hw.offers⟩
  refine State.SawsSound.startLift ?_ g
  exact hstarted.congr rfl

theorem State.SawsSound.startRemnantReturn (g : Gantry) (w : Saw) (o : Offer) : (s.startRemnantReturn g w o).SawsSound := by
  unfold State.startRemnantReturn
  split
  · next n _ =>
    let u : State := { s.claim n g .put with free := (s.claim n g .put).free.tail }
    have hu : u.SawsSound := h.congr (s.claim_saws g n .put)
    have hw := hu.saw w
    have hheld := hu.setSaw (w := w) (r := { u.saw w with offers := holdOffer g (u.saw w).offers })
      ⟨hw.limit, hw.windows, hw.pacing, hw.books, hw.offers.hold g⟩
    refine State.SawsSound.handOver ?_ g _
    exact hheld.congr rfl
  · exact h

omit h in
/-- A round gives a book only where it is the head book of a present saw that qualifies for the gantry (R149, R150). -/
theorem State.round_book {gs : List Gantry} {g : Gantry} {w : Saw} {b : Book} (hr : s.round gs = some (g, w, .book b)) :
    (s.saw w).headBook = some b ∧ s.sawPresent w = true ∧ s.bookQualifies w g = true := by
  obtain ⟨v, -, hturn⟩ := List.exists_of_findSome?_eq_some hr
  unfold State.turn at hturn
  split at hturn
  case isFalse => cases hturn
  next hp =>
  have hoffer : s.offerTurn gs v ≠ some (g, w, .book b) := fun ho => by
    obtain ⟨o, -, hn⟩ := Option.bind_eq_some_iff.mp ho
    obtain ⟨g', -, he⟩ := Option.map_eq_some_iff.mp hn
    cases he
  have hbook : s.bookTurn gs v = some (g, w, .book b) := by
    cases ho : s.offerTurn gs v with
    | none => rw [ho] at hturn; exact hturn
    | some x => rw [ho] at hturn; exact absurd (ho.trans hturn) hoffer
  obtain ⟨a, ha, hn⟩ := Option.bind_eq_some_iff.mp hbook
  obtain ⟨g', hg', he⟩ := Option.map_eq_some_iff.mp hn
  cases he
  exact ⟨ha, hp, (List.mem_filter.mp (State.nearest_mem hg')).2⟩

theorem State.SawsSound.dispatchRound {t : State} {gs hs : List Gantry} (ht : s.dispatchRound gs = some (t, hs)) :
    t.SawsSound := by
  obtain ⟨⟨g, w, k⟩, hround, he⟩ := Option.map_eq_some_iff.mp ht
  obtain ⟨rfl, -⟩ := Prod.mk.inj he
  have hp : ({ s with pointer := w } : State).SawsSound := h.congr rfl
  cases k with
  | offer o => exact hp.startRemnantReturn g w o
  | book b =>
    obtain ⟨hb, hpresent, hq⟩ := State.round_book hround
    exact hp.startBook hb hpresent hq

theorem State.SawsSound.dispatchPass : s.dispatchPass.SawsSound := by
  unfold State.dispatchPass
  split
  · exact h
  · next t gs ht =>
    split
    · exact h.dispatchRound ht
    · next u _ hu => exact (h.dispatchRound ht).dispatchRound hu

theorem State.SawsSound.take (d : Duty) : (s.take d).SawsSound := by
  have hclear : ({ s with duties := s.duties.clear d } : State).SawsSound := h.congr rfl
  unfold State.take
  cases d with
  | retry g =>
    unfold State.searchAgain
    dsimp only
    split
    · exact hclear.congr (State.seekAgain_saws _ g)
    · exact hclear.startLift g
  | retest g =>
    unfold State.testAgain
    dsimp only
    split
    · exact State.SawsSound.settleRequest (hclear.congr (State.request_saws _ g _ _)) g
    · exact hclear
  | dispatch => exact hclear.dispatchPass

theorem State.SawsSound.settle : s.settle.SawsSound := by
  unfold State.settle
  generalize 1000 = n
  induction n generalizing s with
  | zero => exact h.congr rfl
  | succ n ih =>
    unfold State.settleFor
    split
    · exact h.congr rfl
    · next d ds _ =>
      obtain ⟨-, m, hm⟩ := s.chooseDuty_spec d ds
      have hfree : ({ s with freeNext := m } : State).SawsSound := h.congr rfl
      rw [hm]
      exact ih (hfree.take _)
end

end Sys2Proof.Machine
end

section
/-! PROOFS. Every command keeps the saws' lists sound (R128, R131, R132, R139). -/

namespace Sys2Proof.Machine

theorem sawsSound_settling : Settling State.SawsSound State.SawsSound :=
  ⟨fun _ _ _ h => h.congr rfl, fun _ _ _ h => h.congr rfl, fun _ h => h.settle, fun _ h => h⟩

/-! ## The saws' messages -/

theorem clamp_bounds {lo hi : Nat} (h : lo ≤ hi) (n : Nat) : lo ≤ clamp lo hi n ∧ clamp lo hi n ≤ hi := by
  unfold clamp
  omega

section
variable {s : State} (h : s.SawsSound)
include h

theorem State.SawsSound.applySettings (w : Saw) (ws : List Word) : (s.applySettings w (carriedSettings ws)).SawsSound := by
  have hw := h.saw w
  have hrecord : ((s.saw w).withSettings (carriedSettings ws) s.clock).SoundFor Book.Sound :=
    ⟨clamp_bounds (by decide) _, ⟨(clamp_bounds (Nat.zero_le _) _).2, (clamp_bounds (Nat.zero_le _) _).2,
      (clamp_bounds (Nat.zero_le _) _).2⟩, hw.pacing, hw.books, hw.offers⟩
  refine State.SawsSound.congr (State.SawsSound.setSaw (h.congr ?_) hrecord) (State.opportunity_saws _)
  unfold State.latchSettings
  split <;> rfl

theorem State.SawsSound.sawSet (ws : List Word) : (s.sawSet ws).1.SawsSound := by
  unfold State.sawSet
  split
  · exact h
  · exact State.unless_keeps h fun _ => h.applySettings _ ws

theorem State.SawsSound.sawQuery (ws : List Word) : (s.sawQuery ws).1.SawsSound := by
  refine h.congr ?_
  unfold State.sawQuery
  repeat' split
  all_goals rfl

omit h in
/-- A BOOK_REQUEST that passes TABLE 7.5 finds fewer than four QUEUED books and no book of its tag, and carries 1 to 6 entries. -/
theorem State.bookRequest_room {w : Saw} {ws : List Word} (hf : s.bookRequestFailure w ws = none) :
    (s.saw w).count .queued < 4 ∧ (requestEntries ws).length ≤ 6 := by
  simp only [State.bookRequestFailure, firstOf_eq_none_iff, List.forall_mem_cons, checkOf_eq_none_iff] at hf
  obtain ⟨-, hcount, -, -, hqueue, -⟩ := hf
  have hlength : (requestEntries ws).length = word ws 1 := by simp [requestEntries]
  have hbad := of_decide_eq_false hcount
  have hfull := of_decide_eq_false hqueue
  omega

theorem State.SawsSound.bookRequest (w : Saw) (ws : List Word) : (s.bookRequest w ws).1.SawsSound := by
  refine State.unless_keeps h fun hf => ?_
  obtain ⟨hlength, htag⟩ := State.bookRequest_passes hf
  obtain ⟨hqueue, hentries⟩ := State.bookRequest_room hf
  have hw := h.saw w
  let b := newBook (carriedTag ws) ((requestEntries ws).map RequestEntry.entry)
  have hb : b.Sound := ⟨by simpa [b, newBook] using hentries, ⟨Nat.le_refl 1, by simpa [b, newBook] using hlength⟩, rfl, fun _ => rfl⟩
  have hadd := h.setSaw (w := w) (r := { s.saw w with books := (s.saw w).books ++ [b] })
    ⟨hw.limit, hw.windows, hw.pacing, hw.books.add rfl hb htag hqueue, hw.offers⟩
  exact hadd.congr rfl

/-- Records leave a saw's book list. -/
theorem State.SawsSound.filterBooks (w : Saw) (keep : Book → Bool) {r : SawRecord} (hsettings : r.settings = (s.saw w).settings)
    (hpacing : r.pacing = (s.saw w).pacing) (hbooks : r.books = (s.saw w).books.filter keep)
    (hoffers : r.offers = (s.saw w).offers) : (s.setSaw w r).SawsSound := by
  have hw := h.saw w
  exact h.setSaw ⟨by rw [hsettings]; exact hw.limit, by rw [hsettings]; exact hw.windows, by rw [hpacing]; exact hw.pacing,
    by rw [hbooks]; exact hw.books.filter fun _ _ _ hb => hb, by rw [hoffers]; exact hw.offers⟩

/-- A saw's record is replaced by one with the same settings and lists. -/
theorem State.SawsSound.sameLists (w : Saw) {r : SawRecord} (hsettings : r.settings = (s.saw w).settings)
    (hpacing : r.pacing = (s.saw w).pacing) (hbooks : r.books = (s.saw w).books) (hoffers : r.offers = (s.saw w).offers) :
    (s.setSaw w r).SawsSound :=
  h.filterBooks w (fun _ => true) hsettings hpacing (by rw [hbooks, List.filter_true]) hoffers

theorem State.SawsSound.abortRecord (w : Saw) (b : Book) : (s.abortRecord w b).1.SawsSound := by
  unfold State.abortRecord
  split
  · refine State.SawsSound.congr (h.filterBooks w (fun x => decide (x.tag ≠ b.tag)) (r := _) ?_ ?_ ?_ ?_) (State.push_saws _ _ _)
    all_goals rfl
  · dsimp only
    split
    · exact h
    · have hasked : (s.updateBook w b.tag Book.requestAbort).SawsSound :=
        (h.but w b.tag).updateBook (fun _ => rfl) (fun _ => rfl) fun x hx _ _ => by
          have hsound := (h.saw w).books.books x hx
          exact ⟨hsound.entries, hsound.lift, hsound.placed, hsound.first⟩
      unfold State.actOnAbortBy
      split
      · exact hasked.actOnAbort _
      · exact hasked
  · exact h

theorem State.SawsSound.bookAbort (w : Saw) (ws : List Word) : (s.bookAbort w ws).1.SawsSound := by
  unfold State.bookAbort
  split
  · exact h.congr rfl
  · split
    · exact h.abortRecord w _
    · exact h

theorem State.SawsSound.bookTaken (w : Saw) (ws : List Word) : (s.bookTaken w ws).1.SawsSound := by
  unfold State.bookTaken
  split
  · exact h.congr rfl
  · split
    · next b _ =>
      split
      · refine State.SawsSound.congr (h.filterBooks w (fun x => decide (x.tag ≠ b.tag)) (r := _) ?_ ?_ ?_ ?_)
          (State.opportunity_saws _)
        all_goals rfl
      · exact h
    · exact State.SawsSound.congr (h.sameLists w (r := { s.saw w with extraAcks := (s.saw w).extraAcks.step }) rfl rfl rfl rfl) rfl

theorem State.SawsSound.endHold (w : Saw) (g : Gantry) : (s.endHold w g).SawsSound := by
  unfold State.endHold
  split
  · refine State.SawsSound.beginPlace ?_ g w
    exact h.congr rfl
  · exact h

theorem State.SawsSound.tableState (w : Saw) (ws : List Word) : (s.tableState w ws).1.SawsSound := by
  have hset : (s.setTable w (carriedTable ws)).SawsSound := h.sameLists w rfl rfl rfl rfl
  unfold State.tableState State.reportTable
  split
  · exact h.congr rfl
  · dsimp only
    split
    · exact (hset.endHold w .west).endHold w .east
    · exact hset

theorem State.SawsSound.remnantOffer (w : Saw) (ws : List Word) : (s.remnantOffer w ws).1.SawsSound := by
  refine State.unless_keeps h fun hf => ?_
  simp only [State.offerFailure, firstOf_eq_none_iff, List.forall_mem_cons, checkOf_eq_none_iff] at hf
  obtain ⟨-, -, -, -, hfull, -⟩ := hf
  have hw := h.saw w
  have hadd := h.setSaw (w := w)
    (r := { s.saw w with offers := (s.saw w).offers ++ [⟨word ws 0, word ws 1, word ws 2, s.clock, .waiting⟩] })
    ⟨hw.limit, hw.windows, hw.pacing, hw.books, hw.offers.add (Nat.not_le.mp (of_decide_eq_false hfull)) rfl⟩
  exact hadd.congr rfl

/-! ## The gantries -/

theorem State.SawsSound.stepDone (g : Gantry) (ws : List Word) : (s.stepDone g ws).1.SawsSound := by
  have hnoted (o : StepOutcome) : (s.noteOutcome g o).SawsSound := h.congr rfl
  unfold State.stepDone State.acceptStep State.completeStep
  split
  · dsimp only
    split
    · refine State.SawsSound.stepCompleted ?_ g _ _
      exact State.SawsSound.congr (hnoted (stepOutcomeOf (word ws 2))) rfl
    · exact (hnoted _).becomeFaulted g _ _ _
  · exact h

theorem State.SawsSound.gantryFault (g : Gantry) (ws : List Word) : (s.gantryFault g ws).1.SawsSound := by
  unfold State.gantryFault
  split
  · exact h
  · refine State.SawsSound.becomeFaulted ?_ g _ _ _
    exact h.congr rfl

theorem State.SawsSound.restore (g : Gantry) (ws : List Word) : (s.restore g ws).SawsSound := by
  have hdisposed := h.congr (s.disposePanel_saws g ws)
  have hended : ((s.disposePanel g ws).endStrandedTask g).SawsSound := by
    unfold State.endStrandedTask
    split
    · next w _ =>
      have hw := hdisposed.saw w
      exact hdisposed.setSaw ⟨hw.limit, hw.windows, hw.pacing, hw.books, hw.offers.drop g⟩
    · exact hdisposed
  refine hended.congr ?_
  unfold State.restore
  simp

theorem State.SawsSound.endDwell (g : Gantry) : (s.endDwell g).SawsSound := by
  unfold State.endDwell
  dsimp only
  split
  · refine State.SawsSound.settle (State.SawsSound.settleRequest ?_ g)
    exact h.congr (State.request_saws _ _ _ _)
  · exact h.congr rfl

theorem State.SawsSound.roleLinkLost (p : Port) : (s.roleLinkLost p).SawsSound := by
  cases p with
  | planner => exact h
  | saw w => exact h.sameLists w rfl rfl rfl rfl
  | gantry g =>
    unfold State.roleLinkLost State.gantryLinkLost
    dsimp only
    split
    · exact h
    · exact h
    · exact h.congr rfl
    · exact h.congr rfl
    · exact h.becomeFaulted g _ _ _
    · exact h.becomeFaulted g _ _ _
    · exact h.becomeFaulted g _ _ _
    · exact h.becomeFaulted g _ _ _
    · exact h.congr (s.secondCause_saws g _)

theorem State.SawsSound.carrierLoss (p : Port) : (s.carrierLoss p).SawsSound := by
  have hlost : (s.setPort p (s.port p).lostCarrier).SawsSound := h.congr rfl
  unfold State.carrierLoss
  split
  · exact (hlost.roleLinkLost p).settle
  · exact h

theorem State.SawsSound.carrierReturn (p : Port) : (s.carrierReturn p).SawsSound := by
  unfold State.carrierReturn
  split
  · exact h
  · refine State.SawsSound.settle ?_
    unfold State.roleLinkBack
    split <;> exact h.congr rfl

/-! ## The cell and the layout -/

/-- A saw loses its lists. -/
theorem State.SawsSound.emptied (w : Saw) {r : SawRecord} (hsettings : r.settings = (s.saw w).settings)
    (hpacing : r.pacing = (s.saw w).pacing) (hbooks : r.books = []) (hoffers : r.offers = []) : (s.setSaw w r).SawsSound := by
  have hw := h.saw w
  refine h.setSaw ⟨by rw [hsettings]; exact hw.limit, by rw [hsettings]; exact hw.windows, by rw [hpacing]; exact hw.pacing,
    ?_, ?_⟩
  · rw [hbooks]
    exact ⟨⟨0, 0, 0, by decide, by decide, by decide, rfl⟩, List.nodup_nil, fun _ hb => by cases hb⟩
  · rw [hoffers]
    exact ⟨Nat.zero_le _, fun _ ho => by cases ho⟩

theorem State.SawsSound.resetSaw (w : Saw) : (s.resetSaw w).SawsSound :=
  State.SawsSound.congr (h.emptied w (r := SawRecord.repaced { s.saw w with books := [], offers := [] } s.clock) rfl rfl rfl rfl)
    (State.latch_saws _ _ _)

theorem State.SawsSound.resetGantry (g : Gantry) : (s.resetGantry g).SawsSound := by
  unfold State.resetGantry
  split
  · exact h.becomeFaulted g _ _ _
  · exact h.becomeFaulted g _ _ _
  · exact h.becomeFaulted g _ _ _
  · split
    · exact h.becomeFaulted g _ _ _
    · exact h.congr (by simp [State.idleByReset])
  · split
    · exact h.becomeFaulted g _ _ _
    · exact h.congr (by simp [State.idleByReset])
  · exact h
  · exact h
  · exact h
  · exact h.congr (s.secondCause_saws g _)

theorem State.SawsSound.cellReset : s.cellReset.SawsSound := by
  have hcell : (s.setCell s.cell.afterReset).SawsSound := h.congr rfl
  have hgantries := (hcell.resetGantry .west).resetGantry .east
  exact State.SawsSound.congr ((((hgantries.resetSaw .saw1).resetSaw .saw2).resetSaw .saw3).resetSaw .saw4) rfl

theorem State.SawsSound.loseSaw (l : Layout) (w : Saw) : (s.loseSaw l w).SawsSound := by
  unfold State.loseSaw
  split
  · exact State.SawsSound.congr (h.emptied w (r := { s.saw w with books := [], offers := [] }) rfl rfl rfl rfl) rfl
  · exact h

theorem State.SawsSound.activate (l : Layout) : (s.activate l).SawsSound := by
  unfold State.activate
  split
  · have hsaws := (((h.loseSaw l .saw1).loseSaw l .saw2).loseSaw l .saw3).loseSaw l .saw4
    refine hsaws.congr (Eq.trans (b := (State.renumber _ l).saws) rfl ?_)
    unfold State.renumber
    split <;> rfl
  · exact h.congr rfl

theorem State.SawsSound.layoutSet (ws : List Word) : (s.layoutSet ws).1.SawsSound := by
  have hactive := h.activate (carriedLayout ws)
  unfold State.layoutSet
  split
  · exact h
  · dsimp only
    split
    · exact hactive.congr rfl
    · exact hactive

theorem State.SawsSound.readEnd (b : Bool) : (s.readEnd b).SawsSound := by
  unfold State.readEnd
  split
  · refine State.SawsSound.settle (h.congr ?_)
    unfold State.judgeMemory
    split
    · rfl
    · split
      · rfl
      · split <;> rfl
  · exact h

/-- Every saw keeps its settings and its lists. -/
theorem State.SawsSound.sameListsAll {t : State} (hsame : ∀ w, (t.saw w).settings = (s.saw w).settings ∧
    (t.saw w).pacing = (s.saw w).pacing ∧ (t.saw w).books = (s.saw w).books ∧ (t.saw w).offers = (s.saw w).offers) :
    t.SawsSound := fun w => by
  obtain ⟨hsettings, hpacing, hbooks, hoffers⟩ := hsame w
  have hw := h.saw w
  exact (t.saw w).sound_iff.mpr ⟨by rw [hsettings]; exact hw.limit, by rw [hsettings]; exact hw.windows,
    by rw [hpacing]; exact hw.pacing, by rw [hbooks]; exact hw.books, by rw [hoffers]; exact hw.offers⟩

theorem State.SawsSound.mapCounters (f : Counter → Counter) (k : Timer → Timer) : (s.mapCounters f k).SawsSound :=
  h.sameListsAll fun w => by cases w <;> exact ⟨rfl, rfl, rfl, rfl⟩

theorem State.SawsSound.tick : s.tick.SawsSound := h.sameListsAll fun w => by cases w <;> exact ⟨rfl, rfl, rfl, rfl⟩

theorem State.SawsSound.pacingReached (w : Saw) : (s.pacingReached w).SawsSound := by
  unfold State.pacingReached
  split
  · refine State.SawsSound.settle (State.SawsSound.congr
      (h.sameLists w (r := { s.saw w with pacingEnd := none }) rfl rfl rfl rfl) rfl)
  · exact h

theorem State.SawsSound.repace (w : Saw) : (s.repace w).SawsSound := by
  unfold State.repace
  split
  · exact h
  · exact h.sameLists w rfl rfl rfl rfl
end

/-- Every command keeps the saws' lists sound. -/
theorem State.SawsSound.exec {s t : State} (hs : s.SawsSound) (c : Instr) (ht : exec c s = .next t) : t.SawsSound := by
  have key := sawsSound_settling
  cases c <;> obtain ⟨rfl⟩ := ht
  case powerOn => exact (resetHoldsPowerOnValues.1.saws).congr rfl
  case layoutReadEnd => exact hs.readEnd _
  case layoutWriteEnd =>
    unfold State.writeEnd
    split
    · exact hs.congr rfl
    · exact hs
  case frameReceived | receiveBufferFull | flowStop | flowGo | frameSent | nextEndMarkedWord => exact hs.congr rfl
  case carrierLoss => exact hs.carrierLoss _
  case carrierReturn => exact hs.carrierReturn _
  case unknownMessage =>
    split
    · exact hs
    · exact key.process hs fun _ h => h
  case layoutSet => exact key.message hs fun _ h _ _ => h.layoutSet _
  case layoutQuery | areaQuery | countsQuery | statusPeek => exact key.message hs fun _ h _ _ => h
  case kindQuery =>
    refine key.message hs fun t h _ _ => h.congr ?_
    unfold State.kindQuery
    split <;> rfl
  case kindSet | areaSet => exact key.message hs fun _ h _ _ => State.unless_keeps h fun _ => h.congr rfl
  case stackRegister => exact key.message hs fun t h _ _ => State.unless_keeps h fun _ => h.congr (t.registerAll_saws _ _)
  case stackWithdraw => exact key.message hs fun t h _ _ => State.unless_keeps h fun _ => h.congr (t.withdraw_saws _ _)
  case slotRelease => exact key.message hs fun t h _ _ => h.congr (t.slotRelease_saws _)
  case slotQuery =>
    refine key.message hs fun t h _ _ => h.congr ?_
    unfold State.slotQuery
    repeat' split
    all_goals rfl
  case sawSet => exact key.message hs fun _ h _ _ => h.sawSet _
  case sawQuery => exact key.message hs fun _ h _ _ => h.sawQuery _
  case gantryPark =>
    refine key.message hs fun t h _ _ => h.congr ?_
    unfold State.gantryPark
    split <;> rfl
  case gantryRestore => exact key.message hs fun _ h _ _ => State.unless_keeps h fun _ => h.restore _ _
  case openCell | haltCell | resumeCell | locatorFlush | pinOn | pinOff => exact key.command hs fun _ h _ => h.congr rfl
  case latchCounts | clearCounts => exact key.command hs fun _ h _ => h.mapCounters _ _
  case closeCell =>
    refine key.command hs fun t h _ => h.congr ?_
    unfold State.close
    split <;> rfl
  case cellReset => exact key.command hs fun _ h _ => h.cellReset
  case bookRequest => exact key.message hs fun _ h _ _ => h.bookRequest _ _
  case bookAbort => exact key.message hs fun _ h _ _ => h.bookAbort _ _
  case bookTaken => exact key.message hs fun _ h _ _ => h.bookTaken _ _
  case tableState => exact key.message hs fun _ h _ _ => h.tableState _ _
  case remnantOffer => exact key.message hs fun _ h _ _ => h.remnantOffer _ _
  case gantryReady => exact key.message hs fun _ h _ _ => State.unless_keeps h fun _ => h.congr (State.retry_saws _ _)
  case stepDone => exact key.message hs fun _ h _ _ => h.stepDone _ _
  case gantryFault => exact key.message hs fun _ h _ _ => h.gantryFault _ _
  case statusQuery => exact key.message hs fun _ h _ _ => h.congr rfl
  case overrun =>
    split
    · refine State.SawsSound.settle (State.SawsSound.becomeFaulted ?_ _ _ _ _)
      exact hs.congr rfl
    · exact hs
  case dwellEnd =>
    split
    · exact hs.endDwell _
    · exact hs
  case hoverTimeout =>
    split
    · refine State.SawsSound.settle (State.SawsSound.endBook ?_ _ _)
      exact hs.congr rfl
    · exact hs
  case pacingEnd => exact hs.pacingReached _
  case pacingRuleUnsatisfied => exact hs.repace _
  case sawTimerStep w k => cases k <;> exact hs.sameLists w rfl rfl rfl rfl
  case cellClockTick => exact hs.tick
  case cellCommand =>
    split
    · exact hs
    · exact key.message hs fun _ h _ _ => h

/-- Settles O7: a book list keeps its three parts, since only its head book starts and only its ASSEMBLING one is released, and an offer
list loses its head alone. -/
theorem soundSawsKept : Obligations.SoundSawsKept := by
  intro s t hs ht
  unfold step at ht
  split at ht
  · next c rest _ => exact State.SawsSound.exec (s := { s with pending := rest }) (hs.congr rfl) c ht
  · cases ht
    exact hs

end Sys2Proof.Machine
end

section
/-! PROOFS. A message that prompts a dispatch pass where no task is there to give (R148, R189), and SAW_SET (R124, R125). -/

namespace Sys2Proof.Machine

/-! ## A message that prompts a dispatch pass -/

/-- A dispatch pass that a message has prompted, and that gives out nothing. -/
theorem State.settle_opportunity_taken {s : State} (h : s.duties = .none) (hn : s.NothingToGive) (p : Port) :
    (s.taken p).opportunity.settle = s.taken p := by
  have hquiet : (s.taken p).duties = .none := h
  have hnone : (s.taken p).opportunity.NothingToGive := hn.of_ports _ _ (s.taken_carriers p)
  rw [State.settle_of_nothing_to_give _ (fun g hg => ?_) (fun g hg => ?_) hnone]
  · rw [State.opportunity, ← hquiet]
  · rw [State.opportunity, hquiet] at hg
    cases g <;> cases hg
  · rw [State.opportunity, hquiet] at hg
    cases g <;> cases hg

/-- A message whose effect prompts a dispatch pass that gives out nothing. -/
theorem State.message_prompts {s t : State} {m : Message} {p : Port} {ws : List Word} {body : State → State × Reply} {r : Reply}
    {k : Nat} (h : s.Ready p ⟨m.code, ws⟩ k) (hc : m.check p ws = none) (ha : m.accepts s.cell = true) (hk : r.parts p = k)
    (hb : body (s.taken p) = ((t.taken p).opportunity, r)) (hd : t.duties = s.duties)
    (ho : (t.port p).outbound = (s.port p).outbound) (hn : t.NothingToGive) : s.message m p ws body = t.answered p r := by
  refine State.message_effect h hc ha hk (by rw [hb]) ?_ ho
  rw [hb]
  exact State.settle_opportunity_taken (hd.trans h.settled) hn p

theorem State.NothingToGive.latch {s : State} (hn : s.NothingToGive) (p : Port) (f : ChangeFlag) : (s.latch p f).NothingToGive := by
  refine hn.of_ports _ s.duties fun q => ?_
  show ((s.latch p f).port q).carrierUp = _
  rw [State.latch, State.setPort_port]
  split
  · next hq => rw [hq, PortRecord.latch_carrierUp]
  · rfl

/-! ## SAW_SET -/

theorem sawOfNumber_eq_none {n : Nat} (h : n = 0 ∨ 4 < n) : sawOfNumber n = none :=
  match n, h with
  | 0, _ => rfl
  | _ + 5, _ => rfl
  | 1, h | 2, h | 3, h | 4, h => by omega

theorem sawOfNumber_sawNumber (w : Saw) : sawOfNumber (sawNumber w) = some w := by cases w <;> rfl

theorem sawSet_check {ws : List Word} (h : ws.length = 8) : Message.sawSet.check .planner ws = none := by
  simp [Message.check, Message.onPort, Message.payloadLength, Message.checkedFields, h]

section
variable {s : State} {ws : List Word}

theorem State.exec_sawSet_refused {c : RefusalCode} {d : Nat} (h : s.Ready .planner ⟨0x0B, ws⟩ 1) (hl : ws.length = 8)
    (hn : s.cell ≠ .noLayout) (hb : (s.taken .planner).sawSet ws = (s.taken .planner, refusedReply .sawSet c d)) :
    exec (.sawSet .planner ws) s = .next (s.answered .planner (.refused 0x0B c (BitVec.ofNat 16 d))) :=
  congrArg Host.Outcome.next (State.message_refused h (sawSet_check hl) (by simpa [Message.accepts] using hn) hb)

/-- The checks of a SAW_SET that names a saw. -/
theorem State.sawSet_failure {w : Saw} {f : Failure} (hw : word ws 0 = sawNumber w) (hf : s.sawSetFailure w ws = some f) :
    s.sawSet ws = (s, refusedReply .sawSet f.1 f.2) := by
  simp only [State.sawSet, hw, sawOfNumber_sawNumber, hf, State.unless]
end

/-- The state in which a saw's settings have been replaced (R125). -/
def State.resettled (s : State) (w : Saw) (c : Settings) : State :=
  (s.latchSettings w c).setSaw w ((s.saw w).withSettings c s.clock)

theorem State.applySettings_taken (s : State) (w : Saw) (c : Settings) :
    (s.taken .planner).applySettings w c = ((s.resettled w c).taken .planner).opportunity := by
  have hsaw : (s.taken .planner).saw w = s.saw w := rfl
  simp only [State.applySettings, State.resettled, State.latchSettings, hsaw]
  split <;> rfl

theorem State.exec_sawSet_accepted {s : State} {ws : List Word} {w : Saw} (h : s.Ready .planner ⟨0x0B, ws⟩ 1) (hl : ws.length = 8)
    (hn : s.cell ≠ .noLayout) (hw : word ws 0 = sawNumber w) (hf : s.sawSetFailure w ws = none)
    (hgive : (s.resettled w (carriedSettings ws)).NothingToGive) : exec (.sawSet .planner ws) s =
      .next ((s.resettled w (carriedSettings ws)).answered .planner (.sawReply w (carriedSettings ws))) := by
  have hf' : (s.taken .planner).sawSetFailure w ws = none := hf
  refine congrArg Host.Outcome.next (State.message_prompts h (sawSet_check hl) (by simpa [Message.accepts] using hn) rfl ?_ ?_ ?_ hgive)
  · simp only [State.sawSet, hw, sawOfNumber_sawNumber, hf', State.unless, State.applySettings_taken]
  · unfold State.resettled State.latchSettings
    split <;> rfl
  · unfold State.resettled State.latchSettings
    split <;> rfl

/-- The settings that a SAW_SET carries, each value clamped to its range (R125). -/
theorem carriedSettings_eq (n e b w1 w2 w3 r h : Word) : carriedSettings [n, e, b, w1, w2, w3, r, h] =
    { enabled := decide (e.toNat = 1)
      backlogLimit := if b.toNat = 0 then 1 else min b.toNat 3
      w1 := min w1.toNat 60000
      w2 := min w2.toNat 60000
      w3 := min w3.toNat 60000
      remnantAllowed := decide (r.toNat = 1)
      maxBookHeight := if h.toNat < 30 then 30 else min h.toNat 1500 } := by
  have hlow (x : Nat) : clamp 0 60000 x = min x 60000 := by unfold clamp; omega
  have hbacklog (x : Nat) : clamp 1 3 x = if x = 0 then 1 else min x 3 := by unfold clamp; split <;> omega
  have hheight (x : Nat) : clamp 30 1500 x = if x < 30 then 30 else min x 1500 := by unfold clamp; split <;> omega
  rw [carriedSettings, hlow, hlow, hlow, hbacklog, hheight]
  rfl

/-- Settles O50: the checks in R124's order, and the settings carried against their ranges. -/
theorem sawSetReplacesSettings : Obligations.SawSetReplacesSettings := by
  intro s n e b w1 w2 w3 r h hcell hready run refused
  have refuse {c : RefusalCode} {d : Nat}
      (hb : (s.taken .planner).sawSet [n, e, b, w1, w2, w3, r, h] = (s.taken .planner, refusedReply .sawSet c d)) :
      run = refused c d := State.exec_sawSet_refused hready rfl hcell hb
  refine ⟨fun hn => refuse ?_, ?_⟩
  · have hnone : sawOfNumber (word [n, e, b, w1, w2, w3, r, h] 0) = none := sawOfNumber_eq_none hn
    simp only [State.sawSet, hnone]
  intro w hw bad assembling
  have fail {c : RefusalCode} {d : Nat} (hf : s.sawSetFailure w [n, e, b, w1, w2, w3, r, h] = some (c, d)) :
      run = refused c d := refuse (State.sawSet_failure (s := s.taken .planner) (ws := [n, e, b, w1, w2, w3, r, h]) hw hf)
  have hsound (hbad : ¬bad) (hp : s.sawPresent w = true) : s.sawSetFailure w [n, e, b, w1, w2, w3, r, h] =
      (((s.saw w).books.find? assembling).map Book.tag).map fun t => (.sawBusy, t.toNat) :=
    (if_neg hbad).trans (if_neg (by rw [hp]; decide))
  refine ⟨fun hbad => fail (if_pos hbad), fun hbad hp => fail ((if_neg hbad).trans (if_pos hp)), fun hbad hp x hx => fail ?_, ?_⟩
  · rw [hsound hbad hp, hx]
    rfl
  intro hbad hp hnone c record t u hgive
  have hpass : s.sawSetFailure w [n, e, b, w1, w2, w3, r, h] = none := by
    rw [hsound hbad hp, List.find?_eq_none.mpr fun x hx => by simpa [assembling] using hnone x hx]
    rfl
  have hu : s.resettled w (carriedSettings [n, e, b, w1, w2, w3, r, h]) = u := by
    rw [carriedSettings_eq, State.resettled, State.latchSettings]
    by_cases hsame : (s.saw w).settings = c
    · rw [if_pos hsame]
      exact (if_pos hsame).symm
    · rw [if_neg hsame]
      exact (if_neg hsame).symm
  have hgive' : u.NothingToGive := by
    simp only [u]
    split
    · exact hgive
    · exact hgive.latch _ _
  have hrun := State.exec_sawSet_accepted hready rfl hcell hw hpass (hu ▸ hgive')
  rw [hu, carriedSettings_eq] at hrun
  exact hrun

end Sys2Proof.Machine
end

section
/-! PROOFS. BOOK_REQUEST: the checks of TABLE 7.5, and the QUEUED record that joins the saw's list (R129, R130). -/

namespace Sys2Proof.Machine

/-! ## The entries -/

theorem RequestEntry.halfRequired_iff (e : RequestEntry) :
    e.halfRequired = true ↔ (e.length = 0 ∧ e.width ≠ 0) ∨ (e.length ≠ 0 ∧ e.width = 0) := by simp [RequestEntry.halfRequired]

/-- The requirement of an entry that carries both dimensions or neither (R129). -/
theorem RequestEntry.entry_of_whole {e : RequestEntry} (h : ¬((e.length = 0 ∧ e.width ≠ 0) ∨ (e.length ≠ 0 ∧ e.width = 0))) :
    e.entry = ⟨e.kind, if e.length = 0 then none else some (e.length, e.width)⟩ := by
  have hboth : (e.length = 0 ∧ e.width = 0) ↔ e.length = 0 := by omega
  simp only [RequestEntry.entry, hboth]

/-- The misfit of an entry that carries both dimensions or neither, where its kind is defined. -/
theorem State.badRequirement_iff (s : State) {e : RequestEntry}
    (h : ¬((e.length = 0 ∧ e.width ≠ 0) ∨ (e.length ≠ 0 ∧ e.width = 0))) : s.badRequirement e = true ↔ e.length ≠ 0 ∧
      ∀ k, s.kind e.kind = some k → ¬(200 ≤ e.length ∧ e.length ≤ k.length ∧ 100 ≤ e.width ∧ e.width ≤ k.width) := by
  have hrequired : (e.entry.required.isSome = true) ↔ e.length ≠ 0 := by
    rw [e.entry_of_whole h]
    dsimp only
    split <;> simp_all
  rw [State.badRequirement, Bool.and_eq_true, decide_eq_true_iff, hrequired, Bool.not_eq_true', ← Bool.not_eq_true,
    State.fitsKind_iff]
  simp only [not_exists, not_and]

theorem State.requestHeight_eq (s : State) (ws : List Word) : s.requestHeight (requestEntries ws) =
    ((List.range (word ws 1)).map fun i => s.thickness (word ws (2 + 3 * i))).sum := by
  simp [State.requestHeight, requestEntries, requestEntryAt, Function.comp_def]

/-! ## The message -/

theorem bookRequest_check {w : Saw} {ws : List Word} (h : ws.length = 2 + 3 * word ws 1) :
    Message.bookRequest.check (.saw w) ws = none := by
  simp [Message.check, Message.onPort, Message.payloadLength, Message.checkedFields, h]

section
variable {s : State} {w : Saw} {ws : List Word} (h : s.Ready (.saw w) ⟨0x21, ws⟩ 1) (hl : ws.length = 2 + 3 * word ws 1)
  (hn : s.cell = .opened ∨ s.cell = .halted)
include h hl hn

theorem State.exec_bookRequest_refused {c : RefusalCode} {d : Nat} (hf : s.bookRequestFailure w ws = some (c, d)) :
    exec (.bookRequest (.saw w) ws) s = .next (s.answered (.saw w) (.refused 0x21 c (BitVec.ofNat 16 d))) := by
  have hf' : (s.taken (.saw w)).bookRequestFailure w ws = some (c, d) := hf
  refine congrArg Host.Outcome.next (State.message_refused h (bookRequest_check hl) (by simpa [Message.accepts] using hn) ?_)
  simp only [State.bookRequest, portSaw, hf', State.unless]

theorem State.exec_bookRequest_accepted (hf : s.bookRequestFailure w ws = none) {b : Book}
    (hb : newBook (carriedTag ws) ((requestEntries ws).map RequestEntry.entry) = b) {t : State}
    (ht : t = { s with saws := s.saws.set w { s.saw w with books := (s.saw w).books ++ [b] } }) (hgive : t.NothingToGive) :
    exec (.bookRequest (.saw w) ws) s = .next (t.answered (.saw w) (.accepted 0x21 0 none)) := by
  have hf' : (s.taken (.saw w)).bookRequestFailure w ws = none := hf
  subst ht
  refine congrArg Host.Outcome.next (State.message_prompts h (bookRequest_check hl) (by simpa [Message.accepts] using hn) rfl ?_
    rfl rfl hgive)
  simp only [State.bookRequest, portSaw, hf', State.unless, hb]
  rfl
end

theorem checkOf_decide_of {p : Prop} [Decidable p] (hp : p) (code : RefusalCode) (d : Nat) :
    checkOf (decide p) code d = some (code, d) := by rw [decide_eq_true hp, checkOf_true]

theorem checkOf_decide_of_not {p : Prop} [Decidable p] (hp : ¬p) (code : RefusalCode) (d : Nat) :
    checkOf (decide p) code d = none := by rw [decide_eq_false hp, checkOf_false]

/-- Settles O51: each case names the first check of TABLE 7.5 that fails, those before it passing. -/
theorem bookRequestTaken : Obligations.BookRequestTaken := by
  intro s w ws hcell hready hl run refused kind length width first sound far half undefined misfit queued twice high
  have refuse {c : RefusalCode} {d : Nat} (hf : s.bookRequestFailure w ws = some (c, d)) : run = refused c d :=
    State.exec_bookRequest_refused hready hl hcell hf
  refine ⟨fun hp => refuse ?_, fun hp => ?_⟩
  · simp only [State.bookRequestFailure, hp, Bool.not_false, checkOf_true, firstOf_some]
  have hpresent : checkOf (!s.sawPresent w) .sawAbsent (word ws 0) = none := by rw [hp]; rfl
  refine ⟨fun hc => refuse ?_, fun h1 h6 => ?_⟩
  · simp only [State.bookRequestFailure, hpresent, checkOf_decide_of hc, firstOf_none, firstOf_some]
  have hcount := checkOf_decide_of_not (p := word ws 1 < 1 ∨ 6 < word ws 1) (by omega) .badField 0
  have hnear (hs : sound far) : entryCheck .badField (fun e => decide (1023 < e.kind)) (requestEntries ws) = none :=
    entryCheck_eq_none _ _ _ fun i hi => decide_eq_false (hs i hi)
  have hwhole (hs : sound half) : entryCheck .badField RequestEntry.halfRequired (requestEntries ws) = none :=
    entryCheck_eq_none _ _ _ fun i hi => Bool.eq_false_iff.mpr ((RequestEntry.halfRequired_iff _).not.mpr (hs i hi))
  have hdefined (hs : sound undefined) : entryCheck .unknownKind (fun e => (s.kind e.kind).isNone) (requestEntries ws) = none :=
    entryCheck_eq_none _ _ _ fun i hi => Bool.eq_false_iff.mpr (Option.isNone_iff_eq_none.not.mpr (hs i hi))
  have hfit (hh : sound half) (hs : sound misfit) : entryCheck .badField s.badRequirement (requestEntries ws) = none :=
    entryCheck_eq_none _ _ _ fun i hi => Bool.eq_false_iff.mpr ((s.badRequirement_iff (hh i hi)).not.mpr (hs i hi))
  have hfree (hq : queued.length < 4) := checkOf_decide_of_not (p := 4 ≤ (s.saw w).count .queued) (Nat.not_le.mpr hq) .queueFull
    (word ws 0)
  have hany : ((s.saw w).books.any fun b => decide (b.tag = carriedTag ws)) = true ↔ twice := by
    rw [List.any_eq_true]
    simp only [decide_eq_true_eq]
    rfl
  have hfresh (ht : ¬twice) : checkOf ((s.saw w).books.any fun b => decide (b.tag = carriedTag ws)) .duplicateTag (word ws 0) =
      none := by rw [Bool.eq_false_iff.mpr (hany.not.mpr ht), checkOf_false]
  refine ⟨fun i ⟨hi, hbad, hj⟩ => refuse ?_, fun hf => ⟨fun i ⟨hi, hbad, hj⟩ => refuse ?_, fun hh => ⟨fun hq => refuse ?_,
    fun hq ht => refuse ?_, fun hq ht => ⟨fun i ⟨hi, hbad, hj⟩ => refuse ?_, fun hd => ⟨fun i ⟨hi, hbad, hj⟩ => refuse ?_,
    fun hm => ⟨fun hg => refuse ?_, fun hg => ?_⟩⟩⟩⟩⟩⟩
  · have hfirst : entryCheck .badField (fun e => decide (1023 < e.kind)) (requestEntries ws) = some (.badField, i + 1) :=
      entryCheck_eq_some _ _ _ hi (decide_eq_true hbad) fun j h => decide_eq_false (hj j h)
    simp only [State.bookRequestFailure, hpresent, hcount, hfirst, firstOf_none, firstOf_some]
  · have hfirst : entryCheck .badField RequestEntry.halfRequired (requestEntries ws) = some (.badField, i + 1) :=
      entryCheck_eq_some _ _ _ hi ((RequestEntry.halfRequired_iff _).mpr hbad) fun j h =>
        Bool.eq_false_iff.mpr ((RequestEntry.halfRequired_iff _).not.mpr (hj j h))
    simp only [State.bookRequestFailure, hpresent, hcount, hnear hf, hfirst, firstOf_none, firstOf_some]
  · simp only [State.bookRequestFailure, hpresent, hcount, hnear hf, hwhole hh,
      checkOf_decide_of (p := 4 ≤ (s.saw w).count .queued) hq, firstOf_none, firstOf_some]
  · simp only [State.bookRequestFailure, hpresent, hcount, hnear hf, hwhole hh, hfree hq, hany.mpr ht, checkOf_true, firstOf_none,
      firstOf_some]
  · have hfirst : entryCheck .unknownKind (fun e => (s.kind e.kind).isNone) (requestEntries ws) = some (.unknownKind, i + 1) :=
      entryCheck_eq_some _ _ _ hi (Option.isNone_iff_eq_none.mpr hbad) fun j h =>
        Bool.eq_false_iff.mpr (Option.isNone_iff_eq_none.not.mpr (hj j h))
    simp only [State.bookRequestFailure, hpresent, hcount, hnear hf, hwhole hh, hfree hq, hfresh ht, hfirst, firstOf_none,
      firstOf_some]
  · have hfirst : entryCheck .badField s.badRequirement (requestEntries ws) = some (.badField, i + 1) :=
      entryCheck_eq_some _ _ _ hi ((s.badRequirement_iff (hh i hi)).mpr hbad) fun j h =>
        Bool.eq_false_iff.mpr ((s.badRequirement_iff (hh j (h.trans hi))).not.mpr (hj j h))
    simp only [State.bookRequestFailure, hpresent, hcount, hnear hf, hwhole hh, hfree hq, hfresh ht, hdefined hd, hfirst,
      firstOf_none, firstOf_some]
  all_goals
    have hheight := s.requestHeight_eq ws
    have hpass : s.bookRequestFailure w ws = firstOf
        [checkOf (decide ((s.saw w).settings.maxBookHeight < s.requestHeight (requestEntries ws))) .bookTooHigh (word ws 0)] := by
      simp only [State.bookRequestFailure, hpresent, hcount, hnear hf, hwhole hh, hfree hq, hfresh ht, hdefined hd, hfit hh hm,
        firstOf_none]
  · rw [hpass, hheight, checkOf_decide_of hg, firstOf_some]
  · intro book t hgive
    refine State.exec_bookRequest_accepted hready hl hcell ?_ ?_ rfl hgive
    · rw [hpass, hheight, checkOf_decide_of_not hg, firstOf_none, firstOf_nil]
    · have hentries : (requestEntries ws).map RequestEntry.entry =
          (List.range (word ws 1)).map fun i => ⟨kind i, if length i = 0 then none else some (length i, width i)⟩ := by
        rw [requestEntries, List.map_map]
        exact List.map_congr_left fun i hi => RequestEntry.entry_of_whole (hh i (List.mem_range.mp hi))
      rw [hentries]
      rfl

end Sys2Proof.Machine
end

section
/-! PROOFS. The messages about a book that has been handed in: BOOK_ABORT (R136 to R138) and BOOK_TAKEN (R135). -/

namespace Sys2Proof.Machine

/-! ## A refusal whose detail is free, and a report before the reply -/

/-- A message that is refused with a detail word the manual does not state (log entry 1). -/
theorem State.message_refusedFree {s : State} {m : Message} {p : Port} {ws : List Word} {body : State → State × Reply}
    {c : RefusalCode} (h : s.Ready p ⟨m.code, ws⟩ 1) (hc : m.check p ws = none) (ha : m.accepts s.cell = true)
    (hb : body (s.taken p) = (s.taken p).refuseFree m c) :
    ∃ d, s.message m p ws body = State.answered { s with freeNext := s.freeNext + 1 } p (.refused m.code c d) := by
  refine ⟨Config.freeDetail s.freeNext, State.message_effect h hc ha rfl (by rw [hb]; rfl) ?_ rfl⟩
  rw [hb]
  exact State.settle_of_quiet _ h.settled

/-- A port that queues a report and then the reply to the frame it has taken. -/
theorem PortRecord.answering_push (r : PortRecord) (m : Pushed) (fs : List OutFrame) (h : r.outbound.length < 8) :
    (r.push m).answering fs = PortRecord.wake
      { PortRecord.push { r with inbound := r.inbound.tail } m with
        outbound := (PortRecord.push { r with inbound := r.inbound.tail } m).outbound ++ fs } := by
  have hroom : r.outbound.length < outboundPlaces := h
  cases hcarrier : r.carrierUp
  · simp [PortRecord.push, PortRecord.answering, PortRecord.wake, hroom, hcarrier]
  · cases hflow : r.flowGo <;> simp [PortRecord.push, PortRecord.answering, PortRecord.wake, hroom, hcarrier, hflow]

/-- A message whose effect forms a report on its own port: the report stands before the reply (log entry 6). -/
theorem State.message_reports {s E : State} {m : Message} {p : Port} {ws : List Word} {body : State → State × Reply} {u : Pushed}
    {r : Reply} (h : s.Ready p ⟨m.code, ws⟩ 2) (hc : m.check p ws = none) (ha : m.accepts s.cell = true) (hk : r.parts p = 1)
    (hb : body (s.taken p) = ((E.taken p).push p u, r)) (hd : E.duties = s.duties) (ho : E.port p = s.port p) :
    s.message m p ws body = (E.push p u).answered p r := by
  have hroom : (E.port p).outbound.length + 2 ≤ 8 := ho ▸ h.room
  have hhandle : (s.taken p).handleMessage m p ws body = ((E.taken p).push p u, r) := by
    have ha' : m.accepts (s.taken p).cell = true := ha
    simp only [State.handleMessage, hc, ha', if_true, hb]
  have hqueued : (((E.taken p).push p u).port p).outbound.length + r.parts p ≤ 8 := by
    rw [State.push, State.setPort_port_same, State.taken, State.setPort_port_same, PortRecord.push,
      if_pos (by simp only [outboundPlaces]; omega), PortRecord.wake_eq, hk]
    simp only [List.length_append, List.length_singleton]
    omega
  have hquiet : ((E.taken p).push p u).duties = .none := hd.trans h.settled
  rw [State.message, State.process_ready (by rw [hhandle, hk]; exact h.mono (by decide)), hhandle,
    State.settle_of_quiet _ hquiet, State.placeReply_room hqueued]
  simp only [State.push, State.taken, State.answered, State.setPort_port_same, State.setPort_setPort,
    PortRecord.answering_push _ u _ (show (E.port p).outbound.length < 8 by omega)]

/-! ## BOOK_ABORT -/

theorem bookAbort_check (w : Saw) (a : Word) : Message.bookAbort.check (.saw w) [a] = none := rfl

/-- The report of a QUEUED book that ends aborted (R136, R138): its fault is noted at lift 0. -/
theorem Book.abortReport_endWith_queued {b : Book} (h : b.state = .queued) (c : BookFault) :
    (b.endWith c).abortReport = ⟨b.tag, .aborted, b.placed, b.firstFault.or (some (c, 0)), some c⟩ := by
  have hlift : b.faultLift = 0 := if_pos h
  unfold Book.abortReport Book.endWith Book.noteFault
  rw [hlift]
  cases b.firstFault <;> rfl

theorem Book.requestAbort_eq (b : Book) : b.requestAbort =
    { b with abortRequested := true, firstFault := b.firstFault.or (some (.sawAbort, b.lift)) } := by
  unfold Book.requestAbort Book.noteFault
  cases b.firstFault <;> rfl

/-- While the step of a gantry's book is outstanding, its abort waits for the completion (R160). -/
theorem State.actOnAbort_stepping {s : State} {g : Gantry} {w : Saw} {tag : Word} (hk : s.bookTask g = some (w, tag))
    (ha : (s.gantry g).setAside = none) (hs : (s.gantry g).state = .stepping) : s.actOnAbort g = s := by
  simp only [State.actOnAbort, hk, ha, hs, Option.isSome_none, Bool.false_eq_true, if_false, if_true]

section
variable {s : State} {w : Saw} {a : Word}

theorem State.exec_bookAbort_answer (hn : s.cell ≠ .noLayout) {r : Reply} (h : s.Ready (.saw w) ⟨0x22, [a]⟩ 1) (hk : r.parts (.saw w) = 1)
    (hb : (s.taken (.saw w)).bookAbort w [a] = (s.taken (.saw w), r)) :
    exec (.bookAbort (.saw w) [a]) s = .next (s.answered (.saw w) r) :=
  congrArg Host.Outcome.next (State.message_answer h (bookAbort_check w a) (by simpa [Message.accepts] using hn) hk hb)

/-- A BOOK_ABORT whose tag a record has is taken against that record. -/
theorem State.bookAbort_found {s : State} {b : Book} (hp : s.sawPresent w = true)
    (hf : (s.saw w).books.find? (fun b => decide (b.tag = a)) = some b) : s.bookAbort w [a] = s.abortRecord w b := by
  have hf' : (s.saw w).books.find? (fun b => decide (b.tag = carriedTag [a])) = some b := hf
  simp only [State.bookAbort, hp, hf', Bool.true_eq_false, if_false]
end

/-- Settles O52: one case per state of the record that the tag finds. -/
theorem bookAbortTaken : Obligations.BookAbortTaken := by
  intro s w a hn run found
  have haccepts : Message.bookAbort.accepts s.cell = true := by simpa [Message.accepts] using hn
  have htag {b : Book} (hb : found = some b) : b.tag = a := by simpa using List.find?_some hb
  have hrecord (hp : s.sawPresent w = true) {b : Book} (hb : found = some b) :
      (s.taken (.saw w)).bookAbort w [a] = (s.taken (.saw w)).abortRecord w b :=
    State.bookAbort_found (s := s.taken (.saw w)) hp hb
  refine ⟨fun h => ⟨fun hp => ?_, fun hp hnone => ?_, fun hp b hb hs => ?_, fun hp b hb hs hr => ?_,
    fun hp b g hb hs hr hg hk hst hsa => ?_⟩, fun h hp b hb hs => ?_⟩
  · obtain ⟨d, hd⟩ := State.message_refusedFree (body := fun t => t.bookAbort w [a]) (c := .sawAbsent) h (bookAbort_check w a)
      haccepts (if_pos hp)
    exact ⟨d, congrArg Host.Outcome.next hd⟩
  · refine State.exec_bookAbort_answer hn h rfl ?_
    have hnone' : ((s.taken (.saw w)).saw w).books.find? (fun b => decide (b.tag = carriedTag [a])) = none := hnone
    have hp' : (s.taken (.saw w)).sawPresent w = true := hp
    simp only [State.bookAbort, hp', hnone', Bool.true_eq_false, if_false, refusedReply]
    simp [word, Message.code]
  · refine State.exec_bookAbort_answer hn h rfl ((hrecord hp hb).trans ?_)
    simp [State.abortRecord, hs, refusedReply, htag hb, Message.code]
  · refine State.exec_bookAbort_answer hn h rfl ((hrecord hp hb).trans ?_)
    simp only [State.abortRecord, hs, hr, if_true]
    rfl
  · intro asked
    have hnoted : (s.taken (.saw w)).abortRecord w b =
        ((s.taken (.saw w)).updateBook w b.tag Book.requestAbort, acceptedReply .bookAbort) := by
      obtain ⟨k, htask, hkind⟩ := Option.map_eq_some_iff.mp hk
      have hstep := State.actOnAbort_stepping (s := (s.taken (.saw w)).updateBook w b.tag Book.requestAbort) (g := g)
        (State.bookTask_eq htask hkind) hsa hst
      simp only [State.abortRecord, hs, hr, hg, State.actOnAbortBy, hstep, Bool.false_eq_true, if_false]
    refine congrArg Host.Outcome.next (State.message_effect h (bookAbort_check w a) haccepts rfl
      (congrArg Prod.snd ((hrecord hp hb).trans hnoted)) ?_ rfl)
    refine (congrArg (fun x => x.1.settle) ((hrecord hp hb).trans hnoted)).trans ?_
    refine (State.settle_of_quiet ((s.taken (.saw w)).updateBook w b.tag Book.requestAbort) h.settled).trans ?_
    have hasked : Book.requestAbort = asked := funext Book.requestAbort_eq
    rw [htag hb, hasked]
    rfl
  · refine congrArg Host.Outcome.next (State.message_reports h (bookAbort_check w a) haccepts rfl ((hrecord hp hb).trans ?_) rfl
      rfl)
    simp only [State.abortRecord, hs, State.abortBook, Book.abortReport_endWith_queued hs, htag hb]
    rfl

/-! ## BOOK_TAKEN -/

theorem bookTaken_check (w : Saw) (a : Word) : Message.bookTaken.check (.saw w) [a] = none := rfl

/-- Settles O54: one case per outcome of the search for the oldest RELEASED record. -/
theorem bookTakenAcknowledges : Obligations.BookTakenAcknowledges := by
  intro s w a hn h run oldest took more
  have haccepts : Message.bookTaken.accepts s.cell = true := by simpa [Message.accepts] using hn
  have hbody (hp : s.sawPresent w = true) : (s.taken (.saw w)).bookTaken w [a] =
      match oldest with
      | some b =>
        if b.tag = a then ((s.taken (.saw w)).removeTaken w b.tag, acceptedReply .bookTaken)
        else (s.taken (.saw w), refusedReply .bookTaken .tagMismatch b.tag.toNat)
      | none => ((s.taken (.saw w)).extraTaken w, extraReply) := if_neg (by rw [Bool.not_eq_false]; exact hp)
  refine ⟨fun hp => ?_, fun hp => ⟨fun b hb ht hgive => ?_, fun b hb ht => ?_, fun hnone hgive => ?_⟩⟩
  · obtain ⟨d, hd⟩ := State.message_refusedFree (body := fun t => t.bookTaken w [a]) (c := .sawAbsent) h (bookTaken_check w a)
      haccepts (if_pos hp)
    exact ⟨d, congrArg Host.Outcome.next hd⟩
  · refine congrArg Host.Outcome.next (State.message_prompts h (bookTaken_check w a) haccepts rfl ((hbody hp).trans ?_) rfl rfl
      hgive)
    simp only [hb, ht, if_true]
    rfl
  · refine congrArg Host.Outcome.next (State.message_answer h (bookTaken_check w a) haccepts rfl ((hbody hp).trans ?_))
    simp [hb, ht, refusedReply, Message.code]
  · refine congrArg Host.Outcome.next (State.message_prompts h (bookTaken_check w a) haccepts rfl ((hbody hp).trans ?_) rfl rfl
      hgive)
    simp only [hnone]
    rfl

end Sys2Proof.Machine
end

section
/-! PROOFS. REMNANT_OFFER: the checks of R140, and the WAITING offer that joins the saw's list. -/

namespace Sys2Proof.Machine

theorem State.inService_iff (s : State) (g : Gantry) : s.inService g = true ↔
    (s.gantry g).state ≠ .offline ∧ (s.gantry g).state ≠ .parked ∧ (s.gantry g).state ≠ .faulted := by
  rw [State.inService]
  cases (s.gantry g).state <;> decide

/-- The destination test passes for a gantry exactly when its search finds a slot (R68, R69). -/
theorem State.destinationTest_iff (s : State) (g : Gantry) (w : Saw) (kind : Nat) :
    s.destinationTest g w kind = true ↔ (s.remnantReturnSearch g w kind).isSome := by
  rw [State.destinationTest, State.remnantReturnSearch, Option.isSome_iff_ne_none, ne_eq, leastBy_eq_none_iff]
  simp

theorem State.destinationTestAll_iff (s : State) (w : Saw) (kind : Nat) : s.destinationTestAll w kind = true ↔
    ∃ g, (s.gantry g).state ≠ .offline ∧ (s.gantry g).state ≠ .parked ∧ (s.gantry g).state ≠ .faulted ∧
      (s.remnantReturnSearch g w kind).isSome := by
  have htest (g : Gantry) : (s.inService g && s.destinationTest g w kind) = true ↔ (s.gantry g).state ≠ .offline ∧
      (s.gantry g).state ≠ .parked ∧ (s.gantry g).state ≠ .faulted ∧ (s.remnantReturnSearch g w kind).isSome := by
    rw [Bool.and_eq_true, s.inService_iff, s.destinationTest_iff]
    simp only [and_assoc]
  rw [State.destinationTestAll, Bool.or_eq_true, htest, htest]
  exact ⟨fun h => h.elim (⟨.west, ·⟩) (⟨.east, ·⟩), fun
    | ⟨.west, h⟩ => .inl h
    | ⟨.east, h⟩ => .inr h⟩

theorem remnantOffer_check (w : Saw) (c l d : Word) : Message.remnantOffer.check (.saw w) [c, l, d] = none := rfl

section
variable {s : State} {w : Saw} {c l d : Word} (hn : s.cell = .opened ∨ s.cell = .halted)
  (h : s.Ready (.saw w) ⟨0x25, [c, l, d]⟩ 1)
include hn h

theorem State.exec_remnantOffer_refused {code : RefusalCode} {n : Nat} (hf : s.offerFailure w [c, l, d] = some (code, n)) :
    exec (.remnantOffer (.saw w) [c, l, d]) s = .next (s.answered (.saw w) (.refused 0x25 code (BitVec.ofNat 16 n))) := by
  have hf' : (s.taken (.saw w)).offerFailure w [c, l, d] = some (code, n) := hf
  refine congrArg Host.Outcome.next (State.message_refused h (remnantOffer_check w c l d) (by simpa [Message.accepts] using hn) ?_)
  simp only [State.remnantOffer, portSaw, hf', State.unless]

theorem State.exec_remnantOffer_accepted (hf : s.offerFailure w [c, l, d] = none) {t : State}
    (ht : t = { s with
      saws := s.saws.set w
        { s.saw w with offers := (s.saw w).offers ++ [⟨c.toNat, l.toNat, d.toNat, s.clock, .waiting⟩] } })
    (hgive : t.NothingToGive) :
    exec (.remnantOffer (.saw w) [c, l, d]) s = .next (t.answered (.saw w) (.accepted 0x25 0 none)) := by
  have hf' : (s.taken (.saw w)).offerFailure w [c, l, d] = none := hf
  subst ht
  refine congrArg Host.Outcome.next (State.message_prompts h (remnantOffer_check w c l d) (by simpa [Message.accepts] using hn) rfl ?_
    rfl rfl hgive)
  simp only [State.remnantOffer, portSaw, hf', State.unless]
  rfl
end

/-- Settles O56: each case names the first check of R140 that fails, those before it passing. -/
theorem remnantOfferTaken : Obligations.RemnantOfferTaken := by
  intro s w c l d hn h run refused fits stored offer t
  have refuse {code : RefusalCode} {n : Nat} (hf : s.offerFailure w [c, l, d] = some (code, n)) : run = refused code n :=
    State.exec_remnantOffer_refused hn h hf
  refine ⟨fun hp => refuse ?_, fun hp => ?_⟩
  · simp only [State.offerFailure, hp, Bool.not_false, checkOf_true, firstOf_some]
  have hchecks : s.offerFailure w [c, l, d] = firstOf
      [checkOf (decide (1023 < c.toNat)) .badField c.toNat, checkOf (s.kind c.toNat).isNone .unknownKind c.toNat,
        checkOf (!s.fitsKind c.toNat l.toNat d.toNat) .badField c.toNat,
        checkOf (decide (2 ≤ (s.saw w).offers.length)) .offerFull (sawNumber w),
        checkOf (!s.destinationTestAll w c.toNat) .storeFull c.toNat] := by
    rw [State.offerFailure, hp, Bool.not_true, checkOf_false, firstOf_none]
    rfl
  have hcode (hc : c.toNat ≤ 1023) := checkOf_decide_of_not (Nat.not_lt.mpr hc) .badField c.toNat
  have hfits : s.fitsKind c.toNat l.toNat d.toNat = true ↔ fits := s.fitsKind_iff _ _ _
  have hroom (ho : (s.saw w).offers.length < 2) := checkOf_decide_of_not (Nat.not_le.mpr ho) .offerFull (sawNumber w)
  have hstored : s.destinationTestAll w c.toNat = true ↔ stored := s.destinationTestAll_iff w _
  have hdefined (hk : (s.kind c.toNat).isSome) : (s.kind c.toNat).isNone = false := by rw [Option.isNone_eq_false_iff]; exact hk
  have hkind (hf : fits) : (s.kind c.toNat).isNone = false := by
    obtain ⟨k, hk, -⟩ := hf
    rw [hk, Option.isNone_some]
  refine ⟨fun hc => refuse ?_, fun hc hk => refuse ?_, fun hc hk hf => refuse ?_, fun hc hf ho => refuse ?_,
    fun hc hf ho hs => refuse ?_, fun hc hf ho hs hgive => State.exec_remnantOffer_accepted hn h ?_ rfl hgive⟩
  · rw [hchecks, checkOf_decide_of hc, firstOf_some]
  · rw [hchecks, hcode hc, firstOf_none, hk, Option.isNone_none, checkOf_true, firstOf_some]
  · rw [hchecks, hcode hc, firstOf_none, hdefined hk, checkOf_false, firstOf_none,
      Bool.eq_false_iff.mpr (hfits.not.mpr hf), Bool.not_false, checkOf_true, firstOf_some]
  all_goals
    have hpass : s.offerFailure w [c, l, d] = firstOf
        [checkOf (decide (2 ≤ (s.saw w).offers.length)) .offerFull (sawNumber w),
          checkOf (!s.destinationTestAll w c.toNat) .storeFull c.toNat] := by
      rw [hchecks, hcode hc, firstOf_none, hkind hf, checkOf_false, firstOf_none, hfits.mpr hf, Bool.not_true, checkOf_false,
        firstOf_none]
  · rw [hpass, checkOf_decide_of ho, firstOf_some]
  · rw [hpass, hroom ho, firstOf_none, Bool.eq_false_iff.mpr (hstored.not.mpr hs), Bool.not_false, checkOf_true, firstOf_some]
  · rw [hpass, hroom ho, firstOf_none, hstored.mpr hs, Bool.not_true, checkOf_false, firstOf_none, firstOf_nil]

end Sys2Proof.Machine
end

section
/-! PROOFS. TABLE_STATE: the saw's table, and the hover hold that ends with a PLACE (R119, R134, R157). -/

namespace Sys2Proof.Machine

theorem distance_self (a : Nat) : distance a a = 0 := by simp [distance]

/-- A gantry's port forms a message while a saw's port takes its frame. -/
theorem State.push_gantry_taken_saw (s : State) (g : Gantry) (w : Saw) (m : Pushed) :
    (s.push (.gantry g) m).taken (.saw w) = (s.taken (.saw w)).push (.gantry g) m := by cases g <;> rfl

theorem State.push_gantry_port_saw (s : State) (g : Gantry) (w : Saw) (m : Pushed) :
    (s.push (.gantry g) m).port (.saw w) = s.port (.saw w) := by cases g <;> rfl

/-! ## The end of a hover hold -/

section
variable {s : State} {w : Saw} {g : Gantry} {k : Task}

theorem State.endHold_of_not (h : s.holdsOver w g = false) : s.endHold w g = s := if_neg (by rw [h]; decide)

/-- The record of a gantry whose hover hold has ended with the PLACE (R119, R157). -/
def State.placingRecord (s : State) (g : Gantry) (w : Saw) (k : Task) : GantryRecord :=
  { s.gantry g with
    state := .stepping
    reservation := some (s.span g)
    hold := none
    dwellEnd := none
    task := some { k with phase := .placing }
    current := some { s.placeStep g w with
      issued := some ⟨(s.gantry g).nextToken, s.span g, s.clock, s.geom.stepLimit g .place 0⟩ }
    nextToken := (s.gantry g).nextToken + 1 }

/-- A PLACE, which goes nowhere and is granted without a test, is issued as it is handed over (R77, R93). -/
theorem State.handOver_placeStep (s : State) (g : Gantry) (w : Saw) :
    s.handOver g (s.placeStep g w) = s.issue g (s.placeStep g w) (s.span g) := by
  simp only [State.handOver, State.prepare, State.dwellOwed_of_still (s := s) (g := g) (step := s.placeStep g w) rfl rfl]
  rfl

/-- The STEP_ORDER of a PLACE rests, of what its gantry's record holds, on the task's kind and on the panel carried (TABLE 6.4). -/
theorem State.stepOrder_place {r : GantryRecord} (ht : r.task.map Task.kind = (s.gantry g).task.map Task.kind)
    (hc : r.carried = (s.gantry g).carried) (token : BitVec 8) :
    State.stepOrder { s with gantries := s.gantries.set g r } g (s.placeStep g w) token = s.stepOrder g (s.placeStep g w) token := by
  have hg : State.gantry { s with gantries := s.gantries.set g r } g = r := PerGantry.get_set_same _ _ _
  simp only [State.stepOrder, State.placeStep, State.placedHeight, State.carriedThickness, State.carriedSerial, hg, ht, hc]
  rfl

/-- A hover hold ends: the PLACE is issued at once (R119, R157). -/
theorem State.endHold_eq (h : s.holdsOver w g = true) (hs : (s.gantry g).state = .hoverHold) (ht : (s.gantry g).task = some k) :
    s.endHold w g = State.push
      { s with
        gantries := s.gantries.set g (s.placingRecord g w k)
        duties := { s.duties with retest := s.duties.retest.set (otherGantry g) true } }
      (.gantry g) (.stepOrder (s.stepOrder g (s.placeStep g w) (s.gantry g).nextToken)) := by
  let ended : GantryRecord := { s.gantry g with hold := none }
  let r : GantryRecord := { ended with task := some { k with phase := .placing } }
  let u : State := { s with gantries := s.gantries.set g r }
  have hug : u.gantry g = r := PerGantry.get_set_same _ _ _
  have hended : State.gantry { s with gantries := s.gantries.set g ended } g = ended := PerGantry.get_set_same _ _ _
  have hset : s.setGantry g ended = { s with gantries := s.gantries.set g ended } := State.setGantry_of_same rfl rfl
  have hu : (s.setGantry g ended).updateTask g (fun t => { t with phase := .placing }) = u := by
    rw [hset, State.updateTask_eq, hended]
    simp only [ended, ht, Option.map_some, PerGantry.set_set]
    rfl
  have hstep : (s.setGantry g ended).placeStep g w = s.placeStep g w := by
    rw [State.placeStep, State.pos, State.setGantry_gantry_same]
    rfl
  have hpos : u.pos g = s.pos g := by
    rw [State.pos, hug]
    rfl
  have hplace : s.placeStep g w = u.placeStep g w := by rw [State.placeStep, State.placeStep, hpos]
  have horder : u.stepOrder g (s.placeStep g w) (s.gantry g).nextToken = s.stepOrder g (s.placeStep g w) (s.gantry g).nextToken :=
    State.stepOrder_place (r := r) (by rw [ht]; rfl) rfl _
  have hissued : u.issuedRecord g (u.placeStep g w) (u.span g) = s.placingRecord g w k := by
    have hstands : distance (u.pos g) (s.placeStep g w).target = 0 := by rw [hpos]; exact distance_self _
    rw [← hplace]
    simp only [State.issuedRecord, State.placingRecord, State.span, hug, hstands]
    rfl
  calc s.endHold w g = (s.setGantry g ended).beginPlace g w := if_pos h
    _ = u.handOver g (u.placeStep g w) := by rw [State.beginPlace, hu, hstep, hplace]
    _ = (u.setGantry g (s.placingRecord g w k)).push (.gantry g)
          (.stepOrder (s.stepOrder g (s.placeStep g w) (s.gantry g).nextToken)) := by
      have htoken : (u.gantry g).nextToken = (s.gantry g).nextToken := by rw [hug]
      rw [State.handOver_placeStep, ← horder, ← hissued, hplace, ← htoken]
      rfl
    _ = _ := by
      have hmoves : ¬((s.placingRecord g w k).state = (u.gantry g).state ∧
          (s.placingRecord g w k).reservation = (u.gantry g).reservation) := by
        rw [hug]
        simp [State.placingRecord, r, ended, hs]
      rw [State.setGantry, if_neg hmoves]
      simp only [u, PerGantry.set_set]
end

/-! ## The table's report -/

theorem tableState_check {w : Saw} {v : Word} (hv : v.toNat ≤ 1) : Message.tableState.check (.saw w) [v] = none := by
  simp [Message.check, Message.onPort, Message.payloadLength, Message.checkedFields, word, hv]

theorem State.bookOf_setTable (s : State) (w : Saw) (t : TableState) (w' : Saw) (tag : Word) :
    (s.setTable w t).bookOf w' tag = s.bookOf w' tag := by
  rw [State.bookOf, State.setTable, State.setSaw_saw]
  split
  · next hw => rw [hw, State.bookOf]
  · rfl

/-- No STEP_ORDER carries a table state (TABLE 6.4). -/
theorem State.stepOrder_setTable (s : State) (w : Saw) (t : TableState) (g : Gantry) (token : BitVec 8) :
    (s.setTable w t).stepOrder g (s.placeStep g w) token = s.stepOrder g (s.placeStep g w) token := by
  simp only [State.stepOrder, State.placeStep, State.placedHeight, State.bookOf_setTable]
  rfl

/-- A prompted test of a request that does not wait is dropped. -/
theorem State.settle_of_retest {s : State} {g : Gantry} (hd : s.duties = { Duties.none with retest := Duties.none.retest.set g true })
    (hw : (s.gantry g).state ≠ .waitGrant) : s.settle = { s with duties := .none } := by
  refine s.settle_of_none_due fun d => ?_
  cases d with
  | retry k => rw [State.due, hd]; cases k <;> rfl
  | dispatch => rw [State.due, hd]; rfl
  | retest k =>
    rcases eq_or_eq_other g k with rfl | rfl
    · rw [State.due, decide_eq_false hw, Bool.and_false]
    · rw [State.due, hd]
      cases g <;> rfl

section
variable {s : State} {w : Saw}

/-- A report that is no change to CLEAR, or finds no hover hold over the table, sets the table alone (R134). -/
theorem State.reportTable_quiet {t : TableState} (h : t ≠ .clear ∨ (s.saw w).table = .clear ∨ ∀ g, s.holdsOver w g = false) :
    s.reportTable w t = s.setTable w t := by
  rw [State.reportTable]
  split
  · next hclear =>
    have hnone : ∀ g, (s.setTable w t).holdsOver w g = false :=
      (h.resolve_left fun h => h hclear.1).resolve_left hclear.2
    rw [State.endHold_of_not (hnone .west), State.endHold_of_not (hnone .east)]
  · rfl

/-- A change to CLEAR ends the one hover hold over the table (R134). -/
theorem State.reportTable_clear {g : Gantry} {k : Task} (hb : (s.saw w).table ≠ .clear) (h : s.holdsOver w g = true)
    (ho : s.holdsOver w (otherGantry g) = false) (hs : (s.gantry g).state = .hoverHold) (ht : (s.gantry g).task = some k) :
    s.reportTable w .clear = (s.setTable w .clear).endHold w g := by
  have hother : ((s.setTable w .clear).endHold w g).holdsOver w (otherGantry g) = false := by
    rw [State.endHold_eq (s := s.setTable w .clear) h hs ht]
    have hsame : PerGantry.get (s.gantries.set g ((s.setTable w .clear).placingRecord g w k)) (otherGantry g) =
        s.gantry (otherGantry g) := PerGantry.get_set_other _ _ _
    rw [State.holdsOver] at ho ⊢
    rw [← hsame] at ho
    exact ho
  rw [State.reportTable, if_pos ⟨rfl, hb⟩]
  cases g with
  | west => exact State.endHold_of_not hother
  | east => exact congrArg (State.endHold · w .east) (State.endHold_of_not (s := s.setTable w .clear) ho)
end

/-- Settles O55: the report that sets the table alone, and the hover hold that a change to CLEAR ends. -/
theorem tableStateSet : Obligations.TableStateSet := by
  intro s w v hn hv h run table set holds
  have haccepts : Message.tableState.accepts s.cell = true := by simpa [Message.accepts] using hn
  have hbody (hp : s.sawPresent w = true) : (s.taken (.saw w)).tableState w [v] =
      ((s.taken (.saw w)).reportTable w table, acceptedReply .tableState) := if_neg (by rw [Bool.not_eq_false]; exact hp)
  have hholds (g : Gantry) : s.holdsOver w g = decide (holds g) := rfl
  refine ⟨fun hp => ?_, fun hp => ⟨fun hquiet => ?_, fun g k hclear hbusy hg ho ht hw => ?_⟩⟩
  · obtain ⟨d, hd⟩ := State.message_refusedFree (body := fun t => t.tableState w [v]) (c := .sawAbsent) h (tableState_check hv)
      haccepts (if_pos hp)
    exact ⟨d, congrArg Host.Outcome.next hd⟩
  · have hreport : (s.taken (.saw w)).reportTable w table = (s.taken (.saw w)).setTable w table := by
      refine State.reportTable_quiet (hquiet.imp (fun h1 => ?_) (Or.imp_right fun hnone g => ?_))
      · simp [table, h1]
      · exact (hholds g).trans (decide_eq_false (hnone g))
    refine congrArg Host.Outcome.next (State.message_effect h (tableState_check hv) haccepts rfl
      (congrArg Prod.snd (hbody hp)) ?_ rfl)
    refine (congrArg (fun x => x.1.settle) (hbody hp)).trans ?_
    rw [hreport]
    exact State.settle_of_quiet ((s.taken (.saw w)).setTable w table) h.settled
  · intro step token issued
    have htable : table = .clear := if_pos hclear
    let before := (s.taken (.saw w)).setTable w .clear
    have hreport : (s.taken (.saw w)).reportTable w table = State.push
        { before with
          gantries := s.gantries.set g (before.placingRecord g w k)
          duties := { s.duties with retest := s.duties.retest.set (otherGantry g) true } }
        (.gantry g) (.stepOrder (before.stepOrder g (before.placeStep g w) token)) := by
      rw [htable, State.reportTable_clear (s := s.taken (.saw w)) hbusy (decide_eq_true hg) (decide_eq_false ho) hg.1 ht]
      exact State.endHold_eq (s := before) (decide_eq_true hg) hg.1 ht
    have horder : before.stepOrder g (before.placeStep g w) token = s.stepOrder g step token :=
      State.stepOrder_setTable (s.taken (.saw w)) w .clear g token
    have hset : set = s.setTable w .clear := by
      simp only [set, htable]
      rfl
    have hissued : ({ before with gantries := s.gantries.set g (before.placingRecord g w k), duties := .none } : State) =
        issued.taken (.saw w) := by
      simp only [issued, hset, ← h.settled]
      rfl
    refine congrArg Host.Outcome.next (State.message_effect h (tableState_check hv) haccepts rfl
      (congrArg Prod.snd (hbody hp)) ?_ ?_)
    · refine (congrArg (fun x => x.1.settle) (hbody hp)).trans ?_
      rw [hreport, State.settle_of_retest (g := otherGantry g), State.push_gantry_taken_saw, ← hissued, horder]
      · rfl
      · rw [← h.settled]; rfl
      · have hsame : PerGantry.get (s.gantries.set g (before.placingRecord g w k)) (otherGantry g) = s.gantry (otherGantry g) :=
          PerGantry.get_set_other _ _ _
        rw [← hsame] at hw
        exact hw
    · rw [State.push_gantry_port_saw]
      rfl

end Sys2Proof.Machine
end

section
/-! PROOFS. The saws' events of time: the pacing end (R132, R133, R177), the saw timers and the clock's tick (R145). -/

namespace Sys2Proof.Machine

/-! ## The rules that are not satisfied -/

/-- The window of a pacing rule (R132). -/
def Settings.window (c : Settings) (k : Nat) : Nat := if k = 1 then c.w1 else if k = 2 then c.w2 else c.w3

theorem Settings.mem_rules (c : Settings) (x : Nat × Nat) : x ∈ c.rules ↔ 1 ≤ x.1 ∧ x.1 ≤ 3 ∧ x.2 = c.window x.1 := by
  obtain ⟨k, w⟩ := x
  simp only [Settings.rules, List.mem_cons, List.not_mem_nil, or_false, Prod.mk.injEq]
  constructor
  · rintro (⟨rfl, rfl⟩ | ⟨rfl, rfl⟩ | ⟨rfl, rfl⟩) <;> exact ⟨by decide, by decide, rfl⟩
  · rintro ⟨hlo, hhi, rfl⟩
    obtain rfl | rfl | rfl : k = 1 ∨ k = 2 ∨ k = 3 := by omega
    · exact .inl ⟨rfl, rfl⟩
    · exact .inr (.inl ⟨rfl, rfl⟩)
    · exact .inr (.inr ⟨rfl, rfl⟩)

section
variable {r : SawRecord} {now : Time}

theorem SawRecord.mem_unsatisfied {x : Nat × Nat} : x ∈ r.unsatisfied now ↔
    (1 ≤ x.1 ∧ x.1 ≤ 3 ∧ ¬r.ruleSatisfied now x.1 (r.settings.window x.1) = true) ∧ x.2 = r.settings.window x.1 := by
  rw [SawRecord.unsatisfied, List.mem_filter, Settings.mem_rules, Bool.not_eq_true', ← Bool.not_eq_true]
  constructor
  · rintro ⟨⟨hlo, hhi, hw⟩, hu⟩
    exact ⟨⟨hlo, hhi, hw ▸ hu⟩, hw⟩
  · rintro ⟨⟨hlo, hhi, hu⟩, hw⟩
    exact ⟨⟨hlo, hhi, hw⟩, hw ▸ hu⟩

theorem SawRecord.pacingEndAt_eq_none_iff : r.pacingEndAt now = none ↔ r.unsatisfied now = [] := by
  rw [SawRecord.pacingEndAt, Option.map_eq_none_iff, List.max?_eq_none_iff, List.map_eq_nil_iff]

/-- The pacing end is the longest wait of the rules that are not satisfied, scheduled from now. -/
theorem SawRecord.pacingEndAt_eq_some {m : Moment} (h : r.pacingEndAt now = some m) : m.since = now ∧
    (∃ x ∈ r.unsatisfied now, r.ruleWait now x = m.duration) ∧ ∀ x ∈ r.unsatisfied now, r.ruleWait now x ≤ m.duration := by
  obtain ⟨d, hd, rfl⟩ := Option.map_eq_some_iff.mp h
  obtain ⟨hmem, hmax⟩ := List.max?_eq_some_iff.mp hd
  exact ⟨rfl, List.mem_map.mp hmem, fun x hx => hmax _ (List.mem_map_of_mem hx)⟩
end

/-! ## Where the starts' readings lie in their order -/

/-- Of readings in falling order, those below a bound are a final stretch: fewer than `bs.length + 1` of them exactly when the
reading that `bs` follows has reached the bound. -/
theorem filter_falling_length {as bs : List Time} {x : Time} {f : Time → Nat} (h : (as ++ x :: bs).Pairwise fun a b => f b ≤ f a)
    (c : Nat) : ((as ++ x :: bs).filter fun a => decide (f a < c)).length < bs.length + 1 ↔ c ≤ f x := by
  obtain ⟨-, htail, hcross⟩ := List.pairwise_append.mp h
  have hafter := (List.pairwise_cons.mp htail).1
  rw [List.filter_append, List.length_append]
  constructor
  · intro hfew
    by_contra hlow
    have hall : ((x :: bs).filter fun a => decide (f a < c)) = x :: bs := List.filter_eq_self.mpr fun a ha => by
      rcases List.mem_cons.mp ha with rfl | ha
      · exact decide_eq_true (Nat.not_le.mp hlow)
      · exact decide_eq_true ((hafter a ha).trans_lt (Nat.not_le.mp hlow))
    rw [hall, List.length_cons] at hfew
    omega
  · intro hreached
    have hnone : (as.filter fun a => decide (f a < c)) = [] := List.filter_eq_nil_iff.mpr fun a ha => by
      have hx := hcross a ha x List.mem_cons_self
      rw [decide_eq_true_eq]
      omega
    have hx : ¬decide (f x < c) = true := by rw [decide_eq_true_eq]; omega
    rw [hnone, List.filter_cons_of_neg (p := fun a => decide (f a < c)) hx]
    have := List.length_filter_le (fun a => decide (f a < c)) bs
    simp only [List.length_nil]
    omega

section
variable {r : SawRecord} {now : Time} {k w d : Nat}

/-- Where the starts' readings lie in their order, a rule is satisfied once the window is over for the k-th start from the end. -/
theorem SawRecord.ruleSatisfied_inOrder (hk : 1 ≤ k) (hl : k ≤ r.pacing.length)
    (ho : r.pacing.Pairwise fun a b => elapsed now b ≤ elapsed now a) (hfar : ∀ x ∈ r.pacing, elapsed now x + w < 4294967296)
    (hw : w ≠ 0) (hd : d ≤ w) : r.ruleSatisfied (now + BitVec.ofNat 32 d) k w = true ↔
      w ≤ elapsed now (r.pacing.getD (r.pacing.length - k) 0) + d := by
  have hin : r.pacing.length - k < r.pacing.length := by omega
  have hlater {x : Time} (hx : x ∈ r.pacing) : elapsed (now + BitVec.ofNat 32 d) x = elapsed now x + d := by
    rw [elapsed_add, Nat.mod_eq_of_lt]
    have := hfar x hx
    omega
  have hsplit : r.pacing = r.pacing.take (r.pacing.length - k) ++
      r.pacing[r.pacing.length - k] :: r.pacing.drop (r.pacing.length - k + 1) := by
    rw [← List.drop_eq_getElem_cons hin, List.take_append_drop]
  have hlast : (r.pacing.drop (r.pacing.length - k + 1)).length + 1 = k := by rw [List.length_drop]; omega
  have hfall : r.pacing.Pairwise fun a b => elapsed (now + BitVec.ofNat 32 d) b ≤ elapsed (now + BitVec.ofNat 32 d) a :=
    ho.imp_of_mem fun ha hb hab => by
      rw [hlater ha, hlater hb]
      omega
  have hcount := filter_falling_length (hsplit ▸ hfall) w
  rw [← hsplit, hlast, hlater (List.getElem_mem hin)] at hcount
  rw [r.ruleSatisfied_iff, or_iff_right hw, hcount, List.getD_eq_getElem _ _ hin]

/-- There the wait of a rule that is not satisfied ends as the k-th start from the end leaves the window: at s_k + Wk (R133). -/
theorem SawRecord.ruleWait_inOrder (hk : 1 ≤ k) (hw : w ≤ 60000) (hr : r.pacing.length ≤ 3)
    (hu : ¬r.ruleSatisfied now k w = true) (ho : r.pacing.Pairwise fun a b => elapsed now b ≤ elapsed now a)
    (hfar : ∀ x ∈ r.pacing, elapsed now x + w < 4294967296) :
    r.ruleWait now (k, w) + elapsed now (r.pacing.getD (r.pacing.length - k) 0) = w := by
  obtain ⟨-, hover, huntil⟩ := r.ruleWait_first now k w hk hw hr (Bool.eq_false_iff.mpr hu)
  obtain ⟨hw0, hmany⟩ := not_or.mp (mt (r.ruleSatisfied_iff now k w).mpr hu)
  have hl : k ≤ r.pacing.length := (Nat.not_lt.mp hmany).trans (List.length_filter_le _ _)
  have hiff {d : Nat} (hd : d ≤ w) := SawRecord.ruleSatisfied_inOrder hk hl ho hfar hw0 hd
  let e := elapsed now (r.pacing.getD (r.pacing.length - k) 0)
  have hin : e < w := by
    have hnow : now + BitVec.ofNat 32 0 = now := BitVec.add_zero now
    have := (hiff (Nat.zero_le w)).not.mp (by rw [hnow]; exact hu)
    omega
  have hleft : r.ruleSatisfied (now + BitVec.ofNat 32 (w - e)) k w = true := (hiff (Nat.sub_le _ _)).mpr (by omega)
  have hupper : r.ruleWait now (k, w) ≤ w - e := by
    by_contra hlonger
    rw [huntil _ (Nat.not_le.mp hlonger)] at hleft
    cases hleft
  have hlower := (hiff (hupper.trans (Nat.sub_le _ _))).mp hover
  omega
end

/-! ## The events -/

/-- A dispatch pass that gives out nothing. -/
theorem State.settle_opportunity_of_nothing {s : State} (h : s.duties = .none) (hn : s.NothingToGive) :
    s.opportunity.settle = s := by
  have hnone : s.opportunity.NothingToGive := hn.of_ports s.ports _ fun _ => rfl
  rw [State.settle_of_nothing_to_give _ (fun g hg => ?_) (fun g hg => ?_) hnone]
  · rw [State.opportunity, ← h]
  · rw [State.opportunity, h] at hg
    cases g <;> cases hg
  · rw [State.opportunity, h] at hg
    cases g <;> cases hg

theorem State.pacingReached_of_due {s : State} {w : Saw} {m : Moment} (hm : (s.saw w).pacingEnd = some m)
    (h : m.duration ≤ elapsed s.clock m.since) : s.pacingReached w = s.endPacing w := by
  rw [State.pacingReached, hm, Option.any_some, Moment.reached, decide_eq_true h, if_pos rfl]

theorem State.pacingReached_of_early {s : State} {w : Saw}
    (h : ∀ m, (s.saw w).pacingEnd = some m → elapsed s.clock m.since < m.duration) : s.pacingReached w = s := by
  refine if_neg ?_
  rw [Option.any_eq_true]
  rintro ⟨m, hm, hreached⟩
  exact absurd (of_decide_eq_true hreached) (Nat.not_le.mpr (h m hm))

theorem State.repace_eq (s : State) (w : Saw) : s.repace w =
    if (s.saw w).pacingEndAt s.clock = none then s else s.setSaw w ((s.saw w).repaced s.clock) := by
  simp only [State.repace, SawRecord.pacingEndAt_eq_none_iff]

theorem Timer.tick_of_lt {t : Timer} (h : t.residue < 100) : t.tick = { t with residue := t.residue + 1 } := by
  rw [Timer.tick, Timer.step, if_neg (Nat.not_le.mpr h)]

/-- A timer whose step is taken (R145). -/
theorem Timer.step_eq (t : Timer) : t.step =
    if 100 ≤ t.residue then { t with live := if t.live = 4294967295 then 4294967295 else t.live + 1, residue := 0 } else t := by
  have hlive : saturatingStep t.live = if t.live = 4294967295 then 4294967295 else t.live + 1 :=
    ite_congr rfl (fun h => h) fun _ => rfl
  rw [Timer.step, hlive]

/-! ## The conditions of the timers -/

theorem SawRecord.count_eq_zero_iff (r : SawRecord) (b : BookState) : r.count b = 0 ↔ ∀ x ∈ r.books, x.state ≠ b := by
  simp [SawRecord.count, List.length_eq_zero_iff, List.filter_eq_nil_iff]

theorem SawRecord.count_pos_iff (r : SawRecord) (b : BookState) : 0 < r.count b ↔ ∃ x ∈ r.books, x.state = b := by
  simp [Nat.pos_iff_ne_zero, SawRecord.count_eq_zero_iff]

theorem State.timersEnabled_iff (s : State) (w : Saw) : s.timersEnabled w = true ↔
    s.sawPresent w = true ∧ (s.cell = .opened ∨ s.cell = .halted) := by simp [State.timersEnabled]

theorem State.starvedRuns_iff (s : State) (w : Saw) : s.starvedRuns w = true ↔
    s.timersEnabled w = true ∧ (s.saw w).settings.enabled = true ∧ (s.saw w).books = [] := by
  simp [State.starvedRuns, and_assoc]

theorem State.heldRuns_iff (s : State) (w : Saw) : s.heldRuns w = true ↔ s.timersEnabled w = true ∧
    (∀ b ∈ (s.saw w).books, b.state ≠ .assembling) ∧ (∃ b ∈ (s.saw w).books, b.state = .queued) ∧ s.holdSet w ≠ [] := by
  simp [State.heldRuns, and_assoc, SawRecord.count_eq_zero_iff, SawRecord.count_pos_iff]

theorem State.tick_saw (s : State) (w : Saw) : s.tick.saw w = s.tickTimers w := by cases w <;> rfl

/-- A saw without a book is not held. -/
theorem State.heldRuns_of_starvedRuns {s : State} {w : Saw} (h : s.starvedRuns w = true) : s.heldRuns w = false := by
  obtain ⟨-, -, hempty⟩ := (s.starvedRuns_iff w).mp h
  refine Bool.eq_false_iff.mpr fun hheld => ?_
  obtain ⟨-, -, ⟨b, hb, -⟩, -⟩ := (s.heldRuns_iff w).mp hheld
  rw [hempty] at hb
  cases hb

/-- Settles O57: the pacing end as the longest wait, and each event of time on the saw's record. -/
theorem timedSawEvents : Obligations.TimedSawEvents := by
  refine ⟨fun r now => ?_, fun s w hq => ?_, fun s w => ?_, fun s w => ⟨?_, ?_⟩, fun s hs => ?_⟩
  · intro window satisfied unsatisfied after inOrder
    have hsatisfied (k : Nat) (t : Time) : r.ruleSatisfied t k (window k) = true ↔ satisfied k t := r.ruleSatisfied_iff t k _
    have hmem (x : Nat × Nat) : x ∈ r.unsatisfied now ↔ unsatisfied x.1 ∧ x.2 = window x.1 := by
      rw [SawRecord.mem_unsatisfied]
      exact and_congr_left' (and_congr_right' (and_congr_right' (hsatisfied x.1 now).not))
    constructor
    · rw [SawRecord.pacingEndAt_eq_none_iff, List.eq_nil_iff_forall_not_mem]
      exact ⟨fun h k hk => h (k, window k) ((hmem _).mpr ⟨hk, rfl⟩), fun h x hx => h x.1 ((hmem x).mp hx).1⟩
    · intro hw hr m hm
      obtain ⟨hsince, ⟨x, hx, hlongest⟩, hmax⟩ := SawRecord.pacingEndAt_eq_some hm
      obtain ⟨hxu, hxw⟩ := (hmem x).mp hx
      have hfirst {k : Nat} (hk : unsatisfied k) := r.ruleWait_first now k (window k) hk.1 (hw k) hr
        (Bool.eq_false_iff.mpr ((hsatisfied k now).not.mpr hk.2.2))
      have hwait : r.ruleWait now (x.1, window x.1) = m.duration := by rw [← hxw]; exact hlongest
      refine ⟨fun k => r.ruleWait now (k, window k), fun k hk => ⟨(hsatisfied k _).mp (hfirst hk).2.1, fun d hd => ?_, fun ho => ?_⟩,
        hsince, ?_, fun k hk => hmax _ ((hmem _).mpr ⟨hk, rfl⟩), x.1, hxu, hwait⟩
      · exact (hsatisfied k _).not.mp (Bool.eq_false_iff.mp ((hfirst hk).2.2 d hd))
      · exact SawRecord.ruleWait_inOrder hk.1 (hw k) hr ((hsatisfied k now).not.mpr hk.2.2) ho.1 ho.2
      · have := (hfirst hxu).1
        omega
  · refine ⟨fun h => congrArg Host.Outcome.next (State.pacingReached_of_early h), fun m hm hd hn => ?_⟩
    refine congrArg Host.Outcome.next ((State.pacingReached_of_due hm hd).trans ?_)
    exact State.settle_opportunity_of_nothing (s := s.setSaw w { s.saw w with pacingEnd := none }) hq hn
  · exact congrArg Host.Outcome.next (s.repace_eq w)
  · exact congrArg (fun x => Host.Outcome.next (s.setSaw w { s.saw w with starved := x })) (s.saw w).starved.step_eq
  · exact congrArg (fun x => Host.Outcome.next (s.setSaw w { s.saw w with held := x })) (s.saw w).held.step_eq
  · refine ⟨s.tick, rfl, rfl, fun w => ?_⟩
    intro runs starves kept more
    have hstarves : s.starvedRuns w = true ↔ starves := by
      rw [s.starvedRuns_iff, s.timersEnabled_iff]
    have hkept : s.heldRuns w = true ↔ kept := by
      rw [s.heldRuns_iff, s.timersEnabled_iff]
    have hmore {t : Timer} (ht : t.residue < 100) : t.tick = more t := Timer.tick_of_lt ht
    have hsaw : s.tick.saw w = { s.saw w with
        starved := if s.starvedRuns w then more (s.saw w).starved else (s.saw w).starved
        held := if s.heldRuns w then more (s.saw w).held else (s.saw w).held } := by
      rw [s.tick_saw, State.tickTimers, hmore (hs w).1, hmore (hs w).2]
    rw [hsaw]
    refine ⟨fun h => ?_, fun h => ?_, fun h1 h2 => ?_⟩
    · rw [if_pos (hstarves.mpr h), State.heldRuns_of_starvedRuns (hstarves.mpr h)]
      rfl
    · have hfed : ¬s.starvedRuns w = true := fun h1 => by
        have := State.heldRuns_of_starvedRuns h1
        rw [hkept.mpr h] at this
        cases this
      rw [if_neg hfed, if_pos (hkept.mpr h)]
    · rw [if_neg (hstarves.not.mpr h1), if_neg (hkept.not.mpr h2)]

end Sys2Proof.Machine
end
